-- ==== Sys2Proof/Word.lean ====
section
/-! DEFINITION. The byte and word types of the part and the two lanes of a word (00_scope.md: a word is 16 bits,
its even byte is the high-order byte and travels on the upper lane). -/

namespace Sys2Proof

/-- One byte: what one lane carries. -/
abbrev Byte := BitVec 8

/-- One 16-bit word. -/
abbrev Word := BitVec 16

/-- A choice of the two lanes of a word (P_UB_N and P_LB_N, R157). -/
structure Lanes where
  upper : Bool
  lower : Bool
deriving DecidableEq, Repr

/-- The bytes of a word in some of its lanes: what a write drives, or what a read returns, in the lanes
selected (R157, R160). -/
structure LaneBytes where
  upper : Option Byte
  lower : Option Byte
deriving DecidableEq, Repr

/-- A fixed number of four like things: the image windows, the contexts, the journal keys. -/
structure Four (α : Type) where
  c0 : α
  c1 : α
  c2 : α
  c3 : α
deriving DecidableEq, Repr

end Sys2Proof
end

