-- ==== Sys2Proof/Syntax.lean ====
section
/-! DEFINITION. The commands of the part, one constructor per row of spec/opcode_table.json, in the table's order,
with what each carries. The table gives no row any bits. A processor cycle carries the word address of P_A[23:1]
and the bytes it drives, or the lanes it selects; the rows that sample STRAP[9:0] carry its level. -/

namespace Sys2Proof

/-- What a processor cycle does with its word (R157). -/
inductive Access where
  /-- P_OE_N asserted: the lanes selected are returned on P_D. -/
  | read (lanes : Lanes)
  /-- P_WE_N asserted: the bytes driven in the lanes selected. -/
  | write (bytes : LaneBytes)
deriving DecidableEq, Repr

/-- The commands of the part. -/
inductive Instr where
  /-- FILE_WINDOW_WRITE (R32). -/
  | fileWindowWrite (word : BitVec 23) (bytes : LaneBytes)
  /-- IMAGE_WINDOW_WRITE (R55). -/
  | imageWindowWrite (word : BitVec 23) (bytes : LaneBytes)
  /-- IMAGE_WINDOW_READ (R55). -/
  | imageWindowRead (word : BitVec 23) (lanes : Lanes)
  /-- JOURNAL_WRITE (R106). -/
  | journalWrite (word : BitVec 23) (bytes : LaneBytes)
  /-- CLOCK_WORD_WRITE (R145). -/
  | clockWordWrite (word : BitVec 23) (bytes : LaneBytes)
  /-- PASS_THROUGH_CYCLE (R162). -/
  | passThroughCycle (word : BitVec 23) (access : Access)
  /-- PROCESSOR_CYCLE_END (R157). -/
  | processorCycleEnd
  /-- SETTLE_WRITE_START (R167). -/
  | settleWriteStart
  /-- SETTLE_WRITE_COMPLETE (R66). -/
  | settleWriteComplete
  /-- LOOKUP (R17). -/
  | lookup
  /-- CONFIRMATION_MARK (R16). -/
  | confirmationMark
  /-- STAGE_ENTRY (R13). -/
  | stageEntry
  /-- STAGE_PASS (R11). -/
  | stagePass
  /-- COMMIT (R15). -/
  | commit
  /-- DISCARD (R14). -/
  | discard
  /-- SWEEP_STEP (R153). -/
  | sweepStep
  /-- PIN_RELEASE (R12). -/
  | pinRelease
  /-- HOLD_EXPIRY (R62). -/
  | holdExpiry
  /-- INTAKE_HOLD_EXPIRY (R36). -/
  | intakeHoldExpiry
  /-- AWAIT_EXPIRY (R74), of one context. -/
  | awaitExpiry (context : Fin 4)
  /-- ATTENTION_HOLD_EXPIRY (R139). -/
  | attentionHoldExpiry
  /-- SLOT_END (R140). -/
  | slotEnd
  /-- CLOCK_SECOND (R143). -/
  | clockSecond
  /-- LOCKOUT_EXPIRY (R178). -/
  | lockoutExpiry
  /-- VERIFICATION_WALK_COMPLETE (R179). -/
  | verificationWalkComplete
  /-- VMAIN_GOOD (R174), with the strap level sampled at the entry to LOCKOUT. -/
  | vmainGood (straps : BitVec 10)
  /-- VMAIN_FALL (R184). -/
  | vmainFall
  /-- VKEEP_GOOD (R174). -/
  | vkeepGood
  /-- VKEEP_LOW (R176). -/
  | vkeepLow
  /-- VKEEP_LOST (R174). -/
  | vkeepLost
  /-- RESET_N (R185), with the strap level sampled at its assertion. -/
  | resetN (straps : BitVec 10)
deriving DecidableEq, Repr

end Sys2Proof
end

