-- ==== Sys2Proof/Decode.lean ====
section
/-! DEFINITION. The command a word spells. No row of spec/opcode_table.json gives bits (its rows are events on
the part's pins and completions of its own work), so no word spells one. -/

namespace Sys2Proof

/-- The command that a word of `nbits` bits spells: none, for every word. -/
def decodeTableWord (_nbits _w : Nat) : Option Instr := none

end Sys2Proof
end

