-- ==== Sys2Proof/Machine/Bytes.lean ====
section
/-! DEFINITION. The bytes of a word and the words of a longer field, as the conventions of 00_scope.md order them:
the even byte is the high-order byte, and a longer field stands most-significant word first. -/

namespace Sys2Proof

/-- The high-order byte of a word: its even byte. -/
def highByte (w : Word) : Byte := w.extractLsb' 8 8

/-- The low-order byte of a word: its odd byte. -/
def lowByte (w : Word) : Byte := w.extractLsb' 0 8

/-- The word of an even byte and the odd byte after it. -/
def joinBytes (high low : Byte) : Word := high ++ low

/-- A two-word field, most-significant word first. -/
def joinWords (high low : Word) : BitVec 32 := high ++ low

/-- The more significant word of a two-word field. -/
def highWord (v : BitVec 32) : Word := v.extractLsb' 16 16

/-- The less significant word of a two-word field. -/
def lowWord (v : BitVec 32) : Word := v.extractLsb' 0 16

/-- A four-word field, most-significant word first: a card serial. -/
def joinSerial (a b c d : Word) : BitVec 64 := ((a ++ b : BitVec 32) ++ c : BitVec 48) ++ d

/-- Word `i` of a four-word field, word 0 the most significant. -/
def serialWord (v : BitVec 64) (i : Nat) : Word := v.extractLsb' (16 * (3 - i)) 16

end Sys2Proof
end

