-- ==== Sys2Proof/Config.lean ====
section
/-! DEFINITION. What is fixed for the part: the sizes its manual gives, and the free values, which the manual
leaves open and no proof can see. -/

namespace Sys2Proof.Config

/-- R3: the action table has 16,384 entries. -/
def tableSize : Nat := 16384

/-- R10: the pass pool has 8,192 pass records. -/
def poolSize : Nat := 8192

/-- R126: the outcome queue never holds more than 64 outcomes. -/
def queueSize : Nat := 64

/-- R35: the intake buffer holds at most two records. -/
def bufferSize : Nat := 2

/-- R42: the pending effects hold at most 64 records. -/
def pendingSize : Nat := 64

/-- R83: a restore reservation needs 5 free places, of which it takes one. -/
def restorePlaces : Nat := 5

/-- FREE VALUE (log 4): what a byte of the memory behind the part reads as while nothing has written it, by the
count of main-supply falls so far and the byte address. The manual says nothing of it. -/
opaque unwrittenByte : Nat → Nat → BitVec 8

/-- FREE VALUE (log 5): whether the backup cell keeps a byte of that memory alive over a main-supply fall, by the
count of falls and the byte address. The manual says only that at least part of the memory is kept alive. -/
opaque memoryKept : Nat → Nat → Bool

/-- FREE VALUE (log 6, R78, R172): whether a settle write that is on the M-port when main supply falls reached
memory, by the count of such choices. -/
opaque cutSettleWriteLands : Nat → Bool

/-- FREE VALUE (log 28): the applied day of a confirmation mark granted while the clock is UNSET, which R148 says
does not arise, by the count of such choices. -/
opaque dayOfUnsetClock : Nat → Nat

/-- FREE VALUE (log 10, R192): the words in which the part encodes the fields an internal check covers. The
manual: a fixed order of its own, which appears in no record. -/
opaque checkEncoding : List Nat → List Word

end Sys2Proof.Config
end

