-- ==== Sys2Proof/Machine/Data.lean ====
section
/-! DEFINITION. The records the part holds: action entries, outcomes, setups, file and journal work in hand,
contexts. Plain data, in the manual's names. -/

namespace Sys2Proof.Machine

/-! ## The action store (01_the_action_table.md) -/

/-- How a pass is placed on the card (R10, R88). -/
inductive Placement where
  | fill
  | replace
deriving DecidableEq, Repr

/-- A held pass record (R10). A free one carries no values. -/
structure PassRecord where
  product : Word
  zones : Word
  startDay : Word
  endDay : Word
  placement : Placement
deriving DecidableEq, Repr

/-- The restore part of an entry (R2). The pass list holds its records by value (log 11). The applied day
stands in the state APPLIED. -/
structure RestorePart where
  precondition : BitVec 32
  amount : BitVec 32
  notBefore : Word
  passes : List PassRecord
deriving DecidableEq, Repr

/-- The kind of an entry with its kind-specific part (R1, R2). -/
inductive ActionPart where
  | block (attention : Bool)
  | restore (part : RestorePart)
deriving DecidableEq, Repr

/-- The state of an entry that is not FREE (R3). The applied day is present in APPLIED only (R2). -/
inductive EntryState where
  | staged
  | live
  | applied (day : Nat)
  | dead
deriving DecidableEq, Repr

/-- An action entry that is not FREE (R1). `position` is the number of the entry before it in its bucket.
`checkFault` is the stored entry check combined by exclusive-OR with the check its fields call for (log 10): 0
when the check holds. -/
structure Entry where
  serial : BitVec 64
  part : ActionPart
  state : EntryState
  action : BitVec 32
  expiry : Word
  fileTag : BitVec 32
  pins : Nat
  position : Option Nat
  checkFault : Word
deriving DecidableEq, Repr

/-- One of the 16,384 elements of the action table. A FREE entry holds only its state and its check (R1). -/
inductive Slot where
  | free (checkFault : Word)
  | held (entry : Entry)
deriving DecidableEq, Repr

/-- Data by number, in one canonical form: numbers strictly rising, nothing listed that equals what an unlisted
number stands for. -/
abbrev Sparse (α : Type) := List (Nat × α)

/-- The retained part of the action store (R1 to R10, R24, R180). An entry number that `table` does not list is
FREE with a good check; a bucket that `buckets` does not list is empty. -/
structure Store where
  table : Sparse Slot
  buckets : Sparse (List Nat)
  freeList : List Nat
  freePasses : Nat
  structureFault : Word
  rebuildMark : Bool
deriving DecidableEq, Repr

/-- What a BLOCK or RESTORE record asks to be staged (R13, R39). -/
structure EntryRecord where
  serial : BitVec 64
  action : BitVec 32
  expiry : Word
  part : ActionPart
deriving DecidableEq, Repr

/-! ## The committed setup (02_action_files.md) -/

/-- The mode of the committed setup (R43). -/
inductive Mode where
  | bypass
  | active
deriving DecidableEq, Repr

/-- The attention mode (R138). -/
inductive AttentionMode where
  | off
  | single
  | repeated
deriving DecidableEq, Repr

/-- The role a journal key gives (R107). -/
inductive KeyRole where
  | none
  | tap
  | heartbeat
deriving DecidableEq, Repr

/-- An enabled journal window (R105): its size is 4 KiB shifted left by `sizeCode`. -/
structure JournalWindow where
  base : BitVec 24
  sizeCode : Nat
deriving DecidableEq, Repr

/-- The windows part (R48, R53, R105, R145). A disabled region is `none` (log 26). An image window is its address
bits 23–6; the clock word its byte address. -/
structure Windows where
  image : Four (Option (BitVec 18))
  journal : Option JournalWindow
  clockWord : Option (BitVec 24)
deriving DecidableEq, Repr

/-- The policy part (R43, R48): every field of SETUP-POLICY other than the lock request. -/
structure Policy where
  mode : Mode
  holdLimit : Nat
  awaitLimit : Nat
  followTolerance : Nat
  retentionDays : Nat
  serviceOffset : Nat
  sweepWeekday : Nat
  scheduleEnabled : Bool
  sweepHour : Nat
  sweepMinute : Nat
  purseCeiling : Nat
  attentionMode : AttentionMode
  attentionHold : Nat
deriving DecidableEq, Repr

/-- A journal key (R107). -/
structure JournalKey where
  value : Byte
  mask : Byte
  role : KeyRole
deriving DecidableEq, Repr

/-- The committed setup (R48), less its lock. -/
structure Setup where
  windows : Windows
  policy : Policy
  keys : Four JournalKey
deriving DecidableEq, Repr

/-- R50: the committed setup after a cold start. -/
def Setup.cold : Setup where
  windows := ⟨⟨none, none, none, none⟩, none, none⟩
  policy :=
    { mode := .bypass, holdLimit := 60, awaitLimit := 8, followTolerance := 5, retentionDays := 2,
      serviceOffset := 0, sweepWeekday := 7, scheduleEnabled := false, sweepHour := 3, sweepMinute := 0,
      purseCeiling := 1000000, attentionMode := .off, attentionHold := 4 }
  keys := ⟨⟨0, 0, .none⟩, ⟨0, 0, .none⟩, ⟨0, 0, .none⟩, ⟨0, 0, .none⟩⟩

/-! ## File intake (02_action_files.md) -/

/-- A file record: 16 words (R190). -/
abbrev FileRecord := List Word

/-- FULL or DELTA (R38). -/
inductive FileKind where
  | full
  | delta
deriving DecidableEq, Repr

/-- Why a file is refused (R41). -/
inductive FileRefusal where
  | order
  | stall
  | badCheck
  | noHeader
  | stale
  | base
  | shape
  | setupRange
  | setupConflict
  | tableFull
  | poolFull
  | overrun
  | count
  | fileCheck
  | abandoned
deriving DecidableEq, Repr

/-- An effect held until commit (R42). -/
inductive PendingEffect where
  | cancel (serial : BitVec 64) (action : BitVec 32)
  | windows (w : Windows)
  | policy (p : Policy) (lockRequest : Bool)
  | keys (k : Four JournalKey)
  | clock (seconds : BitVec 32)
  | sweep
deriving DecidableEq, Repr

/-- The state of file intake (R30). -/
inductive IntakeState where
  | idle
  | receiving
  | draining
deriving DecidableEq, Repr

/-- The next word a file write must reach, with the bytes of it already written, or CLOSED (R30). -/
inductive Cursor where
  | onWord (word : Nat) (written : LaneBytes)
  | closed
deriving DecidableEq, Repr

/-- What intake knows of the file being received (R30, R38). `crc` is the CRC-32 register before its final
inversion (R193). `restoreEntry` is the number of the RESTORE entry staged last (R11, R40). -/
structure StagingFile where
  number : BitVec 32
  kind : FileKind
  expected : Nat
  taken : Nat
  crc : BitVec 32
  owed : Nat
  effects : List PendingEffect
  restoreEntry : Option Nat
deriving DecidableEq, Repr

/-- What a commit operation carries (R45). -/
structure CommitPayload where
  number : BitVec 32
  kind : FileKind
  effects : List PendingEffect
deriving DecidableEq, Repr

/-- An intake operation as claimed (R13, R11, R15, R14). A stage-pass carries the entry it appends to. -/
inductive IntakeClaim where
  | stageEntry (record : EntryRecord) (fileNumber : BitVec 32)
  | stagePass (entry : Option Nat) (pass : PassRecord)
  | commit (payload : CommitPayload)
  | discard
deriving DecidableEq, Repr

/-- The volatile state of file intake (R30). The outstanding operation is the arbiter's (log 13).
`answerIgnored`: the file of the operation in progress has been ended, so its answer is ignored (R41, R46, R51).
`discardOwed`: a discard is claimed once that operation is answered (R41). `trailerBuffered`: the head of the
buffer is the TRAILER of the commit claimed (R35, R46). `held`: the record of a held write (R36). -/
structure Intake where
  state : IntakeState
  cursor : Cursor
  assembly : List Word
  buffer : List FileRecord
  staging : Option StagingFile
  answerIgnored : Bool
  discardOwed : Bool
  trailerBuffered : Bool
  held : Option FileRecord
deriving DecidableEq, Repr

/-! ## The image contexts (03_image_contexts.md) and decisions (04_presentation_decisions.md) -/

/-- The amending decisions (R80), the only ones a context keeps. -/
inductive Amending where
  | restore
  | block
  | blockOnly
deriving DecidableEq, Repr

/-- Why a due action is deferred (R101). -/
inductive DeferReason where
  | clockUnset
  | notYet
  | backlog
  | noRoom
deriving DecidableEq, Repr

/-- One overlay word: the window word, its amended value, and whether its settle status is PENDING or, if not,
WRITTEN (R54). -/
structure OverlayWord where
  word : Nat
  value : Word
  pending : Bool
deriving DecidableEq, Repr

/-- The await timer of a context (R54, R74). -/
inductive AwaitTimer where
  | stopped
  | running (limit : Nat)
  | expired
deriving DecidableEq, Repr

/-- What a context holds in AMENDED and SETTLED (R54, R64). `written` is the words-written record, which goes on from
LOOKUP (log 27). The entry's kind follows from the decision; the outcome held is the one the queue holds for
this context (log 13). -/
structure Presentation where
  snapshot : List Word
  written : List Lanes
  decision : Amending
  entry : Nat
  action : BitVec 32
  overlay : List OverlayWord
  confirmed : Bool
  await : AwaitTimer
deriving DecidableEq, Repr

/-- An image context (R54, R55). In FILLING the copy holds the bytes written, lane by lane, so it is the
words-written record as well. -/
inductive Context where
  | empty
  | filling (copy : List LaneBytes)
  | lookup (snapshot : List Word) (written : List Lanes)
  | amended (p : Presentation)
  | settled (p : Presentation)
deriving DecidableEq, Repr

/-! ## The table arbiter (01_the_action_table.md, section 1.7) -/

/-- A confirmation mark as claimed (R16). -/
structure MarkClaim where
  entry : Nat
  serial : BitVec 64
  action : BitVec 32
deriving DecidableEq, Repr

/-- The operation in progress (R19). A lookup is `wanted` as long as its context is in LOOKUP for the presentation
it was claimed for (R18, log 16). A mark carries the service day at its grant (R143). -/
inductive Operation where
  | lookup (context : Fin 4) (serial : BitVec 64) (wanted : Bool)
  | mark (claim : MarkClaim) (day : Option Nat)
  | intake (claim : IntakeClaim)
  | sweep
deriving DecidableEq, Repr

/-- The table arbiter (R19, R20): claims waiting, oldest first in each class, the operation in progress, and the
releases of entry references not yet taken (R12, log 15). -/
structure Arbiter where
  lookups : List (Fin 4 × BitVec 64)
  marks : List MarkClaim
  intake : Option IntakeClaim
  sweep : Bool
  op : Option Operation
  releases : List Nat
deriving DecidableEq, Repr

/-! ## Outcomes and counters (06_outcomes_counters_and_the_attention_line.md) -/

/-- The kind of an outcome (R125). -/
inductive OutcomeKind where
  | restored
  | captured
  | observed
deriving DecidableEq, Repr

/-- The state of an outcome with its holder and sequence number (R125, R126): RESERVED is held by a context and has
no number; ATTACHED is held by the journal assembly. -/
inductive OutcomeState where
  | reserved (context : Fin 4)
  | attached (sequence : Word)
  | unreported (sequence : Word)
deriving DecidableEq, Repr

/-- An outcome (R125). The value is a signed 32-bit field. -/
structure Outcome where
  kind : OutcomeKind
  serial : BitVec 64
  action : BitVec 32
  value : BitVec 32
  passes : Nat
  passesDropped : Nat
  state : OutcomeState
deriving DecidableEq, Repr

/-- The retained part of the outcome queue (R126, R128, R136). -/
structure OutcomeQueue where
  outcomes : List Outcome
  checkFault : Word
  nextSequence : Word
  ordinal : Word
deriving DecidableEq, Repr

/-- The report counters and last-reason fields (R134). -/
structure Counters where
  presentations : Word
  restoresConfirmed : Word
  blocksConfirmed : Word
  observed : Word
  deferrals : Word
  unconfirmed : Word
  holdExpiries : Word
  filesCommitted : Word
  filesRefused : Word
  observedDropped : Word
  lastRefusal : Option FileRefusal
  lastDeferral : Option DeferReason
  refusalMark : Bool
  deferralMark : Bool
deriving DecidableEq, Repr

/-- R134: the counters on entry to RUN. -/
def Counters.zero : Counters :=
  ⟨0, 0, 0, 0, 0, 0, 0, 0, 0, 0, none, none, false, false⟩

/-- Which page a report carries (R131). -/
inductive PageKind where
  | outcome
  | counters
deriving DecidableEq, Repr

/-- A report's page as frozen (R133). -/
inductive Page where
  | outcome (o : Outcome)
  | counters (c : Counters)
deriving DecidableEq, Repr

/-- The state of the day clock (R142). -/
inductive ClockState where
  | unset
  | set
  | following
deriving DecidableEq, Repr

/-- The state of the part as a whole (R173). -/
inductive SupplyState where
  | off
  | keep
  | lockout
  | verify
  | run
deriving DecidableEq, Repr

/-- A frozen status report (R131, R132): its 23 words are `Report.words`. -/
structure Report where
  page : Page
  supply : SupplyState
  mode : Mode
  fileNumber : BitVec 32
  visible : Nat
  available : Nat
  freePasses : Nat
  unreported : Nat
  reservedOrAttached : Nat
  seconds : BitVec 32
  clockState : ClockState
  locked : Bool
  tableLost : Bool
  setupIgnored : Bool
  sweepRunning : Bool
  ordinal : Word
deriving DecidableEq, Repr

/-- The attention monitor (R138). `mark0` is the current slot, `mark3` the oldest. -/
structure Monitor where
  asserted : Bool
  timer : Option Nat
  mark0 : Bool
  mark1 : Bool
  mark2 : Bool
  mark3 : Bool
deriving DecidableEq, Repr

/-! ## The journal (05_the_journal.md) -/

/-- The image tracker's answer to an offered serial (R109, R113). A match with an outcome keeps the outcome's
figures, its sequence number and the clock state at the attachment (R115). -/
inductive TapMatch where
  | notAsked
  | noMatch
  | matchOnly
  | outcome (o : Outcome) (sequence : Word) (clock : ClockState)
deriving DecidableEq, Repr

/-- The role of an assembly with what each role holds (R109). -/
inductive AssemblyRole where
  | pending
  | none
  | tap (offered : Bool) (answer : TapMatch) (early : Bool)
  | heartbeat (report : Report)
deriving DecidableEq, Repr

/-- The closing check (R109): the CRC-16 when WHOLE. -/
inductive ClosingCheck where
  | whole (check : Word)
  | broken
deriving DecidableEq, Repr

/-- The journal assembly (R109). `copy` holds the bytes of the lanes written, as they went to memory, so it is the
words-written record as well; for word 31 only its lanes matter. -/
structure Assembly where
  record : Nat
  role : AssemblyRole
  copy : List LaneBytes
  closing : Option ClosingCheck
deriving DecidableEq, Repr

/-! ## The day clock (07_time_of_day_and_sweeps.md) -/

/-- The retained part of the day clock (R142). -/
structure DayClock where
  seconds : BitVec 32
  state : ClockState
  owedSweep : Bool
deriving DecidableEq, Repr

/-- The clock-word follow (R142, R145): the last completed value and the bytes written since. -/
structure Follow where
  last : Option (BitVec 32)
  half0 : LaneBytes
  half1 : LaneBytes
deriving DecidableEq, Repr

/-- A running sweep (R152). -/
structure Sweep where
  day : Option Nat
  retention : Nat
  next : Nat
deriving DecidableEq, Repr

/-! ## The memory path (08_the_memory_path.md) -/

/-- The file window in force (R159): its aligned base and its size code, STRAP[9:8]. -/
structure FileWindow where
  base : BitVec 24
  sizeCode : Nat
deriving DecidableEq, Repr

/-- The block that owns a cycle (R158). -/
inductive Owner where
  | none
  | fileIntake
  | context (n : Fin 4)
  | journalWatcher
  | dayClock
deriving DecidableEq, Repr

/-- The answers to a read (R162). -/
inductive ReadAnswer where
  | pass
  | serve (value : Word)
  | hold
deriving DecidableEq, Repr

/-- The answers to a write (R162, R163). A substitution names its lanes and bytes. -/
inductive WriteAnswer where
  | pass
  | substitute (bytes : LaneBytes)
  | hold
deriving DecidableEq, Repr

/-- The kind of a cycle in progress with its lanes, bytes and answer (R158). -/
inductive CycleKind where
  | read (lanes : Lanes) (answer : ReadAnswer)
  | write (bytes : LaneBytes) (answer : WriteAnswer)
deriving DecidableEq, Repr

/-- The cycle in progress (R158). -/
structure Cycle where
  word : BitVec 23
  owner : Owner
  kind : CycleKind
deriving DecidableEq, Repr

/-- The settle write on the M-port (R158): the context and window word it is for, the word address and value it
carries. `owned`: the context still holds the presentation it was put forward for (R69). -/
structure SettleWrite where
  context : Fin 4
  word : Nat
  address : BitVec 23
  value : Word
  owned : Bool
deriving DecidableEq, Repr

/-- The memory path (R158). `waiting` is a cycle that arrived during a settle write (R169). `pd` is what the part
drives on P_D for the cycle in progress (R162, R164). -/
structure MemoryPath where
  fileWindow : Option FileWindow
  cycle : Option Cycle
  hold : Option Nat
  waiting : Option (BitVec 23 × Access)
  settleWrite : Option SettleWrite
  lastGranted : Fin 4
  pd : LaneBytes
deriving DecidableEq, Repr

/-! ## The supply controller (09_supply_retention_and_start_up.md) -/

/-- The level of VKEEP (R173). -/
inductive VkeepLevel where
  | good
  | low
  | lost
deriving DecidableEq, Repr

/-- How far the verification walk has gone (R173, R179, R180). -/
inductive WalkStage where
  | entry (n : Nat)
  | structureCheck
  | fileNumber
  | setup
  | queueCheck
  | queueItem (n : Nat)
  | rebuild (n : Nat)
  | done
deriving DecidableEq, Repr

/-- The cold initialisation in progress (R177): at VKEEP good it leads to KEEP; at VMAIN good, to LOCKOUT with the strap
level to be sampled at its entry. -/
inductive ColdInit where
  | atVkeep
  | atVmain (straps : BitVec 10)
deriving DecidableEq, Repr

/-- The verification position, and whether stage 1, 2 or 3 has found a failure (R179). -/
structure Walk where
  stage : WalkStage
  failed : Bool
deriving DecidableEq, Repr

/-! ## Initial values -/

/-- R25: the action store as cold initialisation leaves it. -/
def Store.cold : Store where
  table := []
  buckets := []
  freeList := List.range' 0 Config.tableSize
  freePasses := Config.poolSize
  structureFault := 0
  rebuildMark := false

/-- R25, R28: no claim waiting, no operation in progress. -/
def Arbiter.idle : Arbiter := ⟨[], [], none, false, none, []⟩

/-- R30: file intake at the entry to RUN. -/
def Intake.draining : Intake := ⟨.draining, .closed, [], [], none, false, false, false, none⟩

/-- R136, R177: the outcome queue as cold initialisation leaves it. -/
def OutcomeQueue.cold : OutcomeQueue := ⟨[], 0, 0, 0⟩

/-- R138: the attention monitor at the entry to RUN. -/
def Monitor.released : Monitor := ⟨false, none, false, false, false, false⟩

/-- R142: the day clock as cold initialisation leaves it. -/
def DayClock.cold : DayClock := ⟨0, .unset, false⟩

/-- R142: no last clock-word value, nothing half written. -/
def Follow.empty : Follow := ⟨none, ⟨none, none⟩, ⟨none, none⟩⟩

/-- R158: the memory path with nothing in progress, under a file window in force. -/
def MemoryPath.quiet (window : Option FileWindow) : MemoryPath :=
  ⟨window, none, none, none, none, 3, ⟨none, none⟩⟩

end Sys2Proof.Machine
end

