-- ==== Sys2Proof/Machine/State.lean ====
section
/-! DEFINITION. The state of the part: everything its manual gives it (`Part`), and the queue of commands waiting.
State.reset is the part with neither supply present, its retained domain at the cold-start values (log 7). -/

namespace Sys2Proof.Machine

/-- The memory behind the part, as a list of byte addresses and bytes in canonical form (log 4). -/
abbrev Memory := List Host.Cell

/-- Everything the manual gives the part, with the memory behind it. The last two fields are the model's own. -/
@[ext] structure Part where
  /-- R173: the supply state. -/
  supply : SupplyState
  /-- R176: keep-valid; no value in OFF. -/
  keepValid : Option Bool
  /-- R177: the cold initialisation in progress. -/
  initialising : Option ColdInit
  /-- R178: whether the lockout timer runs. -/
  lockoutTimer : Bool
  /-- R179: the verification position. -/
  walk : Option Walk
  /-- R173: the level of VKEEP, consulted at a fall of main supply (log 8). -/
  vkeep : VkeepLevel
  /-- R140, R143: the crystal's free-running second count. -/
  crystal : Nat
  /-- R1 to R10: the retained action store. -/
  store : Store
  /-- R19: the table arbiter. -/
  arbiter : Arbiter
  /-- R23: the table-lost flag. -/
  tableLost : Bool
  /-- R30: file intake. -/
  intake : Intake
  /-- R47: the committed file number. -/
  fileNumber : BitVec 32
  /-- R47: its check, as a difference (log 10). -/
  fileNumberFault : Word
  /-- R48: the committed setup. -/
  setup : Setup
  /-- R48: its lock. -/
  locked : Bool
  /-- R48: the setup check, as a difference (log 10). -/
  setupFault : Word
  /-- R48: the setup-ignored flag. -/
  setupIgnored : Bool
  /-- R54: the four image contexts. -/
  contexts : Four Context
  /-- R72: the contexts in the order their await timers were started, oldest first. -/
  awaitOrder : List (Fin 4)
  /-- R109: the journal assembly. -/
  journal : Option Assembly
  /-- R126: the outcome queue. -/
  queue : OutcomeQueue
  /-- R134: the report counters. -/
  counters : Counters
  /-- R131: the previous completed page. -/
  previousPage : PageKind
  /-- R138: the attention monitor. -/
  monitor : Monitor
  /-- R142: the day clock, retained part. -/
  clock : DayClock
  /-- R142: the clock-word follow. -/
  follow : Follow
  /-- R152: the running sweep. -/
  sweep : Option Sweep
  /-- R158: the memory path. -/
  path : MemoryPath
  /-- The memory behind the part (log 4). -/
  memory : Memory
  /-- MODEL: main-supply falls so far, for what unlisted memory reads as (logs 4, 5). -/
  memoryEpoch : Nat
  /-- MODEL: free choices taken so far (logs 6, 28). -/
  draws : Nat
deriving DecidableEq, Repr

/-- The state of the machine: the part, and the commands waiting, first in, first out. -/
structure State extends Part where
  pending : List Instr
deriving DecidableEq, Repr

/-- The manual names no event that stops the part, so no fault exists: the type has no constructor (safe: a claim
that the part stops can only be refuted). -/
inductive Fault
deriving DecidableEq, Repr

/-- Why the model gives a command no meaning. -/
inductive Refusal where
  /-- An arm of exec whose command has no meaning yet. No arm of this model uses it. Safe: nothing follows from it. -/
  | notModelled (mnemonic : String)
deriving DecidableEq, Repr

/-- The part with neither supply present, its retained domain at the values of R177 and every volatile item at its
entry-to-RUN value (log 7). -/
def Part.reset : Part where
  supply := .off
  keepValid := none
  initialising := none
  lockoutTimer := false
  walk := none
  vkeep := .lost
  crystal := 0
  store := Store.cold
  arbiter := Arbiter.idle
  tableLost := false
  intake := Intake.draining
  fileNumber := 0
  fileNumberFault := 0
  setup := Setup.cold
  locked := false
  setupFault := 0
  setupIgnored := false
  contexts := ⟨.empty, .empty, .empty, .empty⟩
  awaitOrder := []
  journal := none
  queue := OutcomeQueue.cold
  counters := Counters.zero
  previousPage := .counters
  monitor := Monitor.released
  clock := DayClock.cold
  follow := Follow.empty
  sweep := none
  path := MemoryPath.quiet none
  memory := []
  memoryEpoch := 0
  draws := 0

/-- The machine right after reset, its queue empty. -/
def State.reset : State := { Part.reset with pending := [] }

end Sys2Proof.Machine
end

