-- ==== Sys2Proof/Machine/Flags.lean ====
section
/-! DEFINITION. The check computations (10_record_layouts.md, section 10.4), the internal checks, the codes of the
status report, and the saturating counters. -/

namespace Sys2Proof.Machine

/-! ## CRC-16 and CRC-32 -/

/-- R192: one shift of the CRC-16 register, generator 1021 hex. -/
def crc16Shift (r : Word) : Word :=
  if r.msb then (r <<< 1) ^^^ 0x1021 else r <<< 1

/-- R193: one shift of the CRC-32 register, generator 04C11DB7 hex. -/
def crc32Shift (r : BitVec 32) : BitVec 32 :=
  if r.msb then (r <<< 1) ^^^ 0x04C11DB7 else r <<< 1

/-- `n` shifts of a register. -/
def shifts {w : Nat} (shift : BitVec w → BitVec w) : Nat → BitVec w → BitVec w
  | 0, r => r
  | n + 1, r => shifts shift n (shift r)

/-- R192: one byte enters the upper eight bits of the CRC-16 register, which is then shifted eight times. -/
def crc16Byte (r : Word) (b : Byte) : Word := shifts crc16Shift 8 (r ^^^ (b ++ (0 : BitVec 8)))

/-- R193: one byte enters the upper eight bits of the CRC-32 register, which is then shifted eight times. -/
def crc32Byte (r : BitVec 32) (b : Byte) : BitVec 32 := shifts crc32Shift 8 (r ^^^ (b ++ (0 : BitVec 24)))

/-- A word enters high byte first (R192). -/
def crc16Word (r w : Word) : Word := crc16Byte (crc16Byte r (highByte w)) (lowByte w)

/-- A word enters high byte first (R193). -/
def crc32Word (r : BitVec 32) (w : Word) : BitVec 32 := crc32Byte (crc32Byte r (highByte w)) (lowByte w)

/-- R192: the CRC-16 of words, from FFFF hex, not inverted. -/
def crc16 (words : List Word) : Word := words.foldl crc16Word 0xFFFF

/-- R193: the running CRC-32 register before its inversion. -/
def crc32Run (r : BitVec 32) (words : List Word) : BitVec 32 := words.foldl crc32Word r

/-- R193: the register when the HEADER is taken. -/
def crc32Start : BitVec 32 := 0xFFFFFFFF

/-- R193: the file CRC-32 is the register inverted. -/
def crc32Final (r : BitVec 32) : BitVec 32 := ~~~r

/-! ## The internal checks (R24, R47, R48, R136): stored as differences, log 10 -/

/-- An internal check over some fields, by the method of R192 in the part's own encoding. -/
def internalCheck (fields : List Nat) : Word := crc16 (Config.checkEncoding fields)

/-- The fields of a pass record. -/
def PassRecord.fields (p : PassRecord) : List Nat :=
  [p.product.toNat, p.zones.toNat, p.startDay.toNat, p.endDay.toNat,
    match p.placement with | .fill => 1 | .replace => 2]

/-- R24: the fields an entry check covers. The pin count is not covered. -/
def Slot.fields : Slot → List Nat
  | .free _ => [0]
  | .held e =>
    (match e.state with | .staged => [1, 0] | .live => [2, 0] | .applied d => [3, d] | .dead => [4, 0])
      ++ [e.serial.toNat, e.action.toNat, e.expiry.toNat, e.fileTag.toNat]
      ++ (match e.position with | none => [0] | some n => [1, n])
      ++ (match e.part with
          | .block attention => [1, if attention then 1 else 0]
          | .restore r => [2, r.precondition.toNat, r.amount.toNat, r.notBefore.toNat]
              ++ r.passes.flatMap PassRecord.fields)

/-- What is stored beside a slot's fields, as a difference from their check. -/
def Slot.checkFault : Slot → Word
  | .free f => f
  | .held e => e.checkFault

/-- The check word that stands stored over some fields, its difference from the one they call for given (log 10). -/
def storedCheck (fields : List Nat) (fault : Word) : Word := internalCheck fields ^^^ fault

/-- R1, R24: the entry check as the part stores it. -/
def Slot.storedCheck (s : Slot) : Word := Machine.storedCheck s.fields s.checkFault

/-- R24: the entry check holds against the fields. -/
def Slot.checkHolds (s : Slot) : Bool := s.checkFault == 0

/-- R24: what the structure check covers: the free list's order and the bucket heads. -/
def Store.structureFields (st : Store) : List Nat :=
  st.freeList.length :: st.freeList ++ st.buckets.flatMap fun b => [b.1, b.2.headD 0]

/-- R24: the structure check as the part stores it. -/
def Store.storedStructureCheck (st : Store) : Word := storedCheck st.structureFields st.structureFault

/-- R47: the committed file number's check as the part stores it. -/
def Part.storedFileNumberCheck (p : Part) : Word := storedCheck [p.fileNumber.toNat] p.fileNumberFault

/-- R47: the committed file number's check holds. -/
def Part.fileNumberCheckHolds (p : Part) : Bool := p.fileNumberFault == 0

/-- A field that may be absent. -/
def optionalFields {α : Type} (f : α → List Nat) : Option α → List Nat
  | none => [0]
  | some x => 1 :: f x

/-- The fields of four like things. -/
def fourFields {α : Type} (f : α → List Nat) (x : Four α) : List Nat := f x.c0 ++ f x.c1 ++ f x.c2 ++ f x.c3

/-- A yes or no. -/
def boolField (b : Bool) : Nat := if b then 1 else 0

/-- R48: the windows part as the setup check covers it. -/
def Windows.fields (w : Windows) : List Nat :=
  fourFields (optionalFields fun b => [b.toNat]) w.image ++ optionalFields (fun j => [j.base.toNat, j.sizeCode]) w.journal
    ++ optionalFields (fun a => [a.toNat]) w.clockWord

/-- R48: the policy part as the setup check covers it. -/
def Policy.fields (y : Policy) : List Nat :=
  [match y.mode with | .bypass => 0 | .active => 1, y.holdLimit, y.awaitLimit, y.followTolerance, y.retentionDays,
    y.serviceOffset, y.sweepWeekday, boolField y.scheduleEnabled, y.sweepHour, y.sweepMinute, y.purseCeiling,
    match y.attentionMode with | .off => 0 | .single => 1 | .repeated => 2, y.attentionHold]

/-- R48: a journal key as the setup check covers it. -/
def JournalKey.fields (k : JournalKey) : List Nat :=
  [k.value.toNat, k.mask.toNat, match k.role with | .none => 0 | .tap => 1 | .heartbeat => 2]

/-- R48: what the setup check covers: the three parts and the lock. -/
def Part.setupFields (p : Part) : List Nat :=
  p.setup.windows.fields ++ p.setup.policy.fields ++ fourFields JournalKey.fields p.setup.keys ++ [boolField p.locked]

/-- R48: the setup check as the part stores it. -/
def Part.storedSetupCheck (p : Part) : Word := storedCheck p.setupFields p.setupFault

/-- R48: the setup check holds. -/
def Part.setupCheckHolds (p : Part) : Bool := p.setupFault == 0

/-- R136: an outcome as the queue check covers it: figures, state, sequence number and holder. -/
def Outcome.fields (o : Outcome) : List Nat :=
  [match o.kind with | .restored => 1 | .captured => 2 | .observed => 3, o.serial.toNat, o.action.toNat,
    o.value.toNat, o.passes, o.passesDropped]
    ++ (match o.state with
        | .reserved n => [1, n.val]
        | .attached q => [2, q.toNat]
        | .unreported q => [3, q.toNat])

/-- R136: what the queue check covers: the outcomes in their order. -/
def OutcomeQueue.fields (q : OutcomeQueue) : List Nat := q.outcomes.length :: q.outcomes.flatMap Outcome.fields

/-- R136: the queue check as the part stores it. -/
def OutcomeQueue.storedCheck (q : OutcomeQueue) : Word := Machine.storedCheck q.fields q.checkFault

/-- R136: the queue check holds. -/
def OutcomeQueue.checkHolds (q : OutcomeQueue) : Bool := q.checkFault == 0

/-- R3: whether an entry is visible, LIVE or APPLIED. -/
def Entry.visible (e : Entry) : Bool :=
  match e.state with
  | .live => true
  | .applied _ => true
  | .staged => false
  | .dead => false

/-- An entry in a new state, its check recomputed (R24). -/
def Entry.become (e : Entry) (state : EntryState) : Entry := { e with state := state, checkFault := 0 }

/-! ## Counters (R134) -/

/-- A counter raised by one; 65,535 stays. -/
def raised (c : Word) : Word := if c = 0xFFFF then c else c + 1

/-! ## Codes of the status report (10_record_layouts.md, R189) -/

/-- R41: the codes of the refusal reasons. -/
def FileRefusal.code : FileRefusal → Byte
  | .order => 1
  | .stall => 2
  | .badCheck => 3
  | .noHeader => 4
  | .stale => 5
  | .base => 6
  | .shape => 7
  | .setupRange => 8
  | .setupConflict => 9
  | .tableFull => 10
  | .poolFull => 11
  | .overrun => 12
  | .count => 13
  | .fileCheck => 14
  | .abandoned => 15

/-- R101: the codes of the deferral reasons. -/
def DeferReason.code : DeferReason → Byte
  | .clockUnset => 1
  | .notYet => 2
  | .backlog => 3
  | .noRoom => 4

/-- R41, R101: a last-reason field, 0 while nothing is recorded. -/
def reasonCode {α : Type} (code : α → Byte) : Option α → Byte
  | none => 0
  | some r => code r

/-- R125: the codes of the outcome kinds. -/
def OutcomeKind.code : OutcomeKind → Byte
  | .restored => 1
  | .captured => 2
  | .observed => 3

/-- R144: the codes of the clock states. -/
def ClockState.code : ClockState → Byte
  | .unset => 0
  | .set => 1
  | .following => 2

/-- R173: the codes of the supply states. -/
def SupplyState.code : SupplyState → Byte
  | .off => 0
  | .keep => 1
  | .lockout => 2
  | .verify => 3
  | .run => 4

/-- R132: the codes of the modes. -/
def Mode.code : Mode → Byte
  | .bypass => 0
  | .active => 1

/-- The sequence number of an outcome; an outcome that has none, being RESERVED, is in no record. -/
def OutcomeState.sequence : OutcomeState → Option Word
  | .reserved _ => none
  | .attached n => some n
  | .unreported n => some n

/-- One flag at a bit position. -/
def flagAt (set : Bool) (bit : Nat) : Word := if set then (1 : Word) <<< bit else 0

/-- R189: word 29, the flags of the summary. -/
def Report.flagsWord (r : Report) : Word :=
  (BitVec.zeroExtend 16 r.clockState.code) ||| flagAt r.locked 2 ||| flagAt r.tableLost 3
    ||| flagAt r.setupIgnored 4 ||| flagAt r.sweepRunning 5

/-- R189: words 8 to 19, the page. -/
def Page.words : Page → List Word
  | .outcome o =>
    [1, serialWord o.serial 0, serialWord o.serial 1, serialWord o.serial 2, serialWord o.serial 3,
      highWord o.action, lowWord o.action, highWord o.value, lowWord o.value,
      joinBytes o.kind.code 0, joinBytes (BitVec.ofNat 8 o.passes) (BitVec.ofNat 8 o.passesDropped),
      o.state.sequence.getD 0]
  | .counters c =>
    [2, c.presentations, c.restoresConfirmed, c.blocksConfirmed, c.observed, c.deferrals, c.unconfirmed,
      c.holdExpiries, c.filesCommitted, c.filesRefused,
      joinBytes (reasonCode FileRefusal.code c.lastRefusal) (reasonCode DeferReason.code c.lastDeferral),
      c.observedDropped]

/-- R132: the clock seconds a report carries, 0 while UNSET. -/
def Report.shownSeconds (r : Report) : BitVec 32 :=
  match r.clockState with
  | .unset => 0
  | .set => r.seconds
  | .following => r.seconds

/-- R189: the 23 words of the report, words 8 to 30 of the record. -/
def Report.words (r : Report) : List Word :=
  r.page.words ++
    [joinBytes r.supply.code r.mode.code, highWord r.fileNumber, lowWord r.fileNumber,
      BitVec.ofNat 16 r.visible, BitVec.ofNat 16 r.available, BitVec.ofNat 16 r.freePasses,
      joinBytes (BitVec.ofNat 8 r.unreported) (BitVec.ofNat 8 r.reservedOrAttached),
      highWord r.shownSeconds, lowWord r.shownSeconds, r.flagsWord, r.ordinal]

/-- R188: the seven words of a tap annex, words 24 to 30 of the record (R115). -/
def annexWords (o : Outcome) (sequence : Word) (clock : ClockState) : List Word :=
  [joinBytes o.kind.code (BitVec.ofNat 8 o.passes), highWord o.action, lowWord o.action,
    highWord o.value, lowWord o.value, joinBytes (BitVec.ofNat 8 o.passesDropped) clock.code, sequence]

end Sys2Proof.Machine
end

