-- ==== Sys2Proof/Machine/Operands.lean ====
section
/-! DEFINITION. The operand forms of the part: lanes and words, the fields of card images, journal records and file
records (10_record_layouts.md), and the address ranges of the windows. -/

namespace Sys2Proof.Machine

/-! ## Lanes -/

/-- No lane written. -/
def noBytes : LaneBytes := ⟨none, none⟩

/-- Both bytes of a word. -/
def bytesOf (w : Word) : LaneBytes := ⟨some (highByte w), some (lowByte w)⟩

/-- Later bytes over earlier ones: a lane written twice takes the later byte (R32, R57, R109, R145). -/
def overlaid (earlier later : LaneBytes) : LaneBytes :=
  ⟨later.upper.orElse fun _ => earlier.upper, later.lower.orElse fun _ => earlier.lower⟩

/-- The word of two written lanes, if both are written. -/
def wholeWord (b : LaneBytes) : Option Word :=
  match b.upper, b.lower with
  | some u, some l => some (joinBytes u l)
  | _, _ => none

/-- Both lanes hold a byte. -/
def complete (b : LaneBytes) : Bool := b.upper.isSome && b.lower.isSome

/-- Some lane holds a byte. -/
def touched (b : LaneBytes) : Bool := b.upper.isSome || b.lower.isSome

/-- R157: at least one lane is selected. -/
def anyLane (a : Access) : Bool :=
  match a with
  | .read l => l.upper || l.lower
  | .write b => touched b

/-- R56, R110: exactly one lane is written, and the write is of the other lane alone. -/
def completesOther (written write : LaneBytes) : Bool :=
  (written.upper.isSome && !written.lower.isSome && !write.upper.isSome && write.lower.isSome) ||
  (!written.upper.isSome && written.lower.isSome && write.upper.isSome && !write.lower.isSome)

/-- The bytes of a word in the lanes that a write selects (R115, R116, R118, R119). -/
def inLanesOf (write : LaneBytes) (w : Word) : LaneBytes :=
  ⟨write.upper.map fun _ => highByte w, write.lower.map fun _ => lowByte w⟩

/-- The lanes written by a write added to those marked before. -/
def markLanes (l : Lanes) (write : LaneBytes) : Lanes :=
  ⟨l.upper || write.upper.isSome, l.lower || write.lower.isSome⟩

/-- Word `k` of a record; the records of the model hold every word asked for (log 33). -/
def wordAt (r : List Word) (k : Nat) : Word := r.getD k 0

/-- Word `k` of a record of lanes. -/
def lanesAt (r : List LaneBytes) (k : Nat) : LaneBytes := r.getD k noBytes

/-! ## Card images (R187) -/

/-- Words 0–3. -/
def imageSerial (i : List Word) : BitVec 64 :=
  joinSerial (wordAt i 0) (wordAt i 1) (wordAt i 2) (wordAt i 3)

/-- Words 5–6, as a signed number. -/
def imagePurse (i : List Word) : Int := (joinWords (wordAt i 5) (wordAt i 6)).toInt

/-- Words 8–9. -/
def imageApplied (i : List Word) : BitVec 32 := joinWords (wordAt i 8) (wordAt i 9)

/-- A pass slot of a card (R187). -/
structure PassSlot where
  product : Word
  zones : Word
  startDay : Word
  endDay : Word
deriving DecidableEq, Repr

/-- Slot `s`, at words 10 + 4s onward. -/
def imageSlot (i : List Word) (s : Nat) : PassSlot :=
  ⟨wordAt i (10 + 4 * s), wordAt i (11 + 4 * s), wordAt i (12 + 4 * s), wordAt i (13 + 4 * s)⟩

/-- The four slots of an image. -/
def imageSlots (i : List Word) : List PassSlot := [imageSlot i 0, imageSlot i 1, imageSlot i 2, imageSlot i 3]

/-- The words of slots. -/
def slotWords (slots : List PassSlot) : List Word :=
  slots.flatMap fun s => [s.product, s.zones, s.startDay, s.endDay]

/-- An image with some words replaced, from word `k` on. -/
def withWords (i : List Word) (k : Nat) : List Word → List Word
  | [] => i
  | w :: ws => withWords (i.set k w) (k + 1) ws

/-- R95: an image with its check word recomputed over its words 0 to 30. -/
def withCheckWord (i : List Word) : List Word := i.set 31 (crc16 (i.take 31))

/-! ## The bucket of a serial (R5) -/

/-- The low 12 bits of the exclusive-OR of the four words of a serial. -/
def bucketOf (serial : BitVec 64) : Nat :=
  (serialWord serial 0 ^^^ serialWord serial 1 ^^^ serialWord serial 2 ^^^ serialWord serial 3).toNat % 4096

/-! ## Windows and their decode (R29, R53, R105, R145, R160) -/

/-- R29: the file window's size in bytes. -/
def FileWindow.bytes (f : FileWindow) : Nat := 65536 * 2 ^ f.sizeCode

/-- R29: the number of records the file window holds. -/
def FileWindow.capacity (f : FileWindow) : Nat := 2048 * 2 ^ f.sizeCode

/-- R29, R159: the file window of a strap level: STRAP[7:0] the base bits 23–16, aligned down to the size that
STRAP[9:8] gives. -/
def fileWindowOf (straps : BitVec 10) : FileWindow :=
  let code := (straps.extractLsb' 8 2).toNat
  let high := (straps.extractLsb' 0 8).toNat
  ⟨BitVec.ofNat 24 ((high / 2 ^ code) * 2 ^ code * 65536), code⟩

/-- R105: the journal window's size in bytes. -/
def JournalWindow.bytes (j : JournalWindow) : Nat := 4096 * 2 ^ j.sizeCode

/-- The word of the file window that a word address is, counted from its base. -/
def FileWindow.wordOf (f : FileWindow) (a : BitVec 23) : Option Nat :=
  if f.base.toNat / 2 ≤ a.toNat ∧ a.toNat < f.base.toNat / 2 + f.bytes / 2
  then some (a.toNat - f.base.toNat / 2) else none

/-- R53: the word 0–31 of an image window, whose base is address bits 23–6. -/
def imageWordOf (base : BitVec 18) (a : BitVec 23) : Option Nat :=
  if a.toNat / 32 = base.toNat then some (a.toNat % 32) else none

/-- R105: the record and word of the journal window that a word address is. -/
def JournalWindow.wordOf (j : JournalWindow) (a : BitVec 23) : Option (Nat × Nat) :=
  if j.base.toNat / 2 ≤ a.toNat ∧ a.toNat < j.base.toNat / 2 + j.bytes / 2
  then some ((a.toNat - j.base.toNat / 2) / 32, (a.toNat - j.base.toNat / 2) % 32) else none

/-- R145: clock word 0, or clock word 1 (`true`), of a clock word at an even byte address. -/
def clockWordOf (address : BitVec 24) (a : BitVec 23) : Option Bool :=
  if a.toNat = address.toNat / 2 then some false
  else if a.toNat = address.toNat / 2 + 1 then some true else none

/-- The word address of word `k` of an image window. -/
def imageAddress (base : BitVec 18) (k : Nat) : BitVec 23 := BitVec.ofNat 23 (base.toNat * 32 + k)

/-! ## File records (R190, R191) -/

/-- R190: the kind code of a file record. -/
def recordKind (r : FileRecord) : Nat := (highByte (wordAt r 0)).toNat

/-- R190: TRAILER. -/
def trailerKind : Nat := 11

/-- R191: the two-word field at word `k`. -/
def field32 (r : FileRecord) (k : Nat) : BitVec 32 := joinWords (wordAt r k) (wordAt r (k + 1))

/-- R191: the serial at words 2–5. -/
def recordSerial (r : FileRecord) : BitVec 64 :=
  joinSerial (wordAt r 2) (wordAt r 3) (wordAt r 4) (wordAt r 5)

/-- What a record that has passed its checks asks for. -/
inductive Checked where
  | header (number : BitVec 32) (kind : FileKind) (expected : Nat)
  | entry (record : EntryRecord) (passCount : Nat)
  | pass (p : PassRecord)
  | effect (e : PendingEffect)
  | trailer
deriving DecidableEq, Repr

/-- R39, R191: a BLOCK record. -/
def checkBlock (r : FileRecord) : Except FileRefusal Checked :=
  if recordSerial r = 0 ∨ field32 r 6 = 0 ∨ 1 < (wordAt r 9).toNat then .error .shape
  else .ok (.entry ⟨recordSerial r, field32 r 6, wordAt r 8, .block (wordAt r 9 == 1)⟩ 0)

/-- R39, R191: a RESTORE record, staged with an empty pass list (R2). -/
def checkRestore (r : FileRecord) : Except FileRefusal Checked :=
  if recordSerial r = 0 ∨ field32 r 6 = 0 ∨ 2000000 < (field32 r 10).toNat ∨ 4 < (wordAt r 14).toNat then
    .error .shape
  else
    .ok (.entry ⟨recordSerial r, field32 r 6, wordAt r 13,
      .restore ⟨field32 r 8, field32 r 10, wordAt r 12, []⟩⟩ (wordAt r 14).toNat)

/-- R40, R191: a PASS record. -/
def checkPass (r : FileRecord) : Except FileRefusal Checked :=
  let made (p : Placement) : Checked := .pass ⟨wordAt r 2, wordAt r 3, wordAt r 4, wordAt r 5, p⟩
  if wordAt r 2 = 0 ∨ (wordAt r 5).toNat < (wordAt r 4).toNat then .error .shape
  else if wordAt r 6 = 1 then .ok (made .fill)
  else if wordAt r 6 = 2 then .ok (made .replace)
  else .error .shape

/-- R42, R191: a CANCEL record. -/
def checkCancel (r : FileRecord) : Except FileRefusal Checked :=
  if recordSerial r = 0 ∨ field32 r 6 = 0 then .error .shape
  else .ok (.effect (.cancel (recordSerial r) (field32 r 6)))

/-- R191: the image window whose two words stand at `k`. Bits 14–8 of the first are not examined; bits 5–0 of the
base are taken as 0. -/
def readImageWindow (r : FileRecord) (k : Nat) : Option (BitVec 18) :=
  if (wordAt r k).msb then some (lowByte (wordAt r k) ++ (wordAt r (k + 1)).extractLsb' 6 10) else none

/-- R191: the 24-bit address whose high byte is the low byte of word `k`. -/
def readAddress (r : FileRecord) (k : Nat) : BitVec 24 := lowByte (wordAt r k) ++ wordAt r (k + 1)

/-- R43, R191: the journal window at words 10–12. -/
def readJournalWindow (r : FileRecord) : Except FileRefusal (Option JournalWindow) :=
  if highByte (wordAt r 12) = 0 then .ok none
  else if highByte (wordAt r 12) = 1 then
    let j : JournalWindow := ⟨readAddress r 10, (lowByte (wordAt r 12)).toNat⟩
    if 6 < j.sizeCode then .error .setupRange
    else if j.base.toNat % j.bytes ≠ 0 then .error .setupRange
    else .ok (some j)
  else .error .setupRange

/-- R43, R191: the clock word at words 13–14. -/
def readClockWord (r : FileRecord) : Except FileRefusal (Option (BitVec 24)) :=
  if (wordAt r 13).msb then
    let a := readAddress r 13
    if a.toNat % 2 ≠ 0 ∨ 0xFFFFFC < a.toNat then .error .setupRange else .ok (some a)
  else .ok none

/-- A byte range: its first byte and its length. -/
abbrev ByteRange := Nat × Nat

/-- Two byte ranges share a byte. -/
def shareByte (a b : ByteRange) : Bool := decide (a.1 < b.1 + b.2) && decide (b.1 < a.1 + a.2)

/-- Some two of the ranges share a byte. -/
def anyOverlap : List ByteRange → Bool
  | [] => false
  | r :: rs => rs.any (shareByte r) || anyOverlap rs

/-- The byte range of an enabled image window (R44: 64 bytes). -/
def imageRange : Option (BitVec 18) → List ByteRange
  | none => []
  | some base => [(base.toNat * 64, 64)]

/-- R44: the enabled regions of a windows part. -/
def Windows.ranges (w : Windows) : List ByteRange :=
  imageRange w.image.c0 ++ imageRange w.image.c1 ++ imageRange w.image.c2 ++ imageRange w.image.c3
    ++ (match w.journal with | none => [] | some j => [(j.base.toNat, j.bytes)])
    ++ (match w.clockWord with | none => [] | some a => [(a.toNat, 4)])

/-- The byte range of the file window in force. -/
def fileRange : Option FileWindow → List ByteRange
  | none => []
  | some f => [(f.base.toNat, f.bytes)]

/-- R43, R44, R191: a SETUP-WINDOWS record, in range and then free of overlap with itself and the file window. -/
def checkWindows (window : Option FileWindow) (r : FileRecord) : Except FileRefusal Checked :=
  match readJournalWindow r, readClockWord r with
  | .ok journal, .ok clockWord =>
    let w : Windows :=
      ⟨⟨readImageWindow r 2, readImageWindow r 4, readImageWindow r 6, readImageWindow r 8⟩, journal, clockWord⟩
    if anyOverlap (fileRange window ++ w.ranges) then .error .setupConflict else .ok (.effect (.windows w))
  | _, _ => .error .setupRange

/-- R191: a mode code. -/
def readMode : Byte → Option Mode := fun b => if b = 0 then some .bypass else if b = 1 then some .active else none

/-- R191: an attention-mode code. -/
def readAttentionMode : Byte → Option AttentionMode := fun b =>
  if b = 0 then some .off else if b = 1 then some .single else if b = 2 then some .repeated else none

/-- R43, R191: a SETUP-POLICY record. -/
def checkPolicy (r : FileRecord) : Except FileRefusal Checked :=
  match readMode (highByte (wordAt r 2)), readAttentionMode (highByte (wordAt r 13)) with
  | some mode, some attentionMode =>
    let p : Policy :=
      { mode := mode
        holdLimit := (wordAt r 3).toNat
        awaitLimit := (wordAt r 4).toNat
        followTolerance := (highByte (wordAt r 5)).toNat
        retentionDays := (lowByte (wordAt r 5)).toNat
        serviceOffset := (field32 r 6).toNat
        sweepWeekday := (highByte (wordAt r 8)).toNat
        scheduleEnabled := lowByte (wordAt r 8) == 1
        sweepHour := (wordAt r 9).toNat
        sweepMinute := (wordAt r 10).toNat
        purseCeiling := (field32 r 11).toNat
        attentionMode := attentionMode
        attentionHold := (lowByte (wordAt r 13)).toNat }
    if (lowByte (wordAt r 2)).toNat ≤ 1
      ∧ 2 ≤ p.holdLimit ∧ p.holdLimit ≤ 250
      ∧ 1 ≤ p.awaitLimit ∧ p.awaitLimit ≤ 60
      ∧ 1 ≤ p.followTolerance
      ∧ p.retentionDays ≤ 30
      ∧ p.serviceOffset ≤ 86399
      ∧ p.sweepWeekday ≤ 7
      ∧ (lowByte (wordAt r 8)).toNat ≤ 1
      ∧ (p.sweepHour ≤ 23 ∨ p.sweepHour = 255)
      ∧ (p.sweepMinute ≤ 59 ∨ p.sweepMinute = 255)
      ∧ 1 ≤ p.purseCeiling ∧ p.purseCeiling ≤ 2000000
      ∧ 1 ≤ p.attentionHold ∧ p.attentionHold ≤ 15
    then .ok (.effect (.policy p (lowByte (wordAt r 2) == 1)))
    else .error .setupRange
  | _, _ => .error .setupRange

/-- R191: the role at word `k`. -/
def readRole (w : Word) : Option KeyRole :=
  if w = 0 then some .none else if w = 1 then some .tap else if w = 2 then some .heartbeat else none

/-- R191: key `k` of a SETUP-KEYS record. -/
def readKey (r : FileRecord) (k : Nat) : Option JournalKey :=
  (readRole (wordAt r (3 + 2 * k))).map fun role =>
    ⟨highByte (wordAt r (2 + 2 * k)), lowByte (wordAt r (2 + 2 * k)), role⟩

/-- R43, R191: a SETUP-KEYS record. -/
def checkKeys (r : FileRecord) : Except FileRefusal Checked :=
  match readKey r 0, readKey r 1, readKey r 2, readKey r 3 with
  | some a, some b, some c, some d => .ok (.effect (.keys ⟨a, b, c, d⟩))
  | _, _, _, _ => .error .setupRange

/-- R38, R191: a HEADER, against the committed file number and the window's record capacity. -/
def checkHeader (committed : BitVec 32) (capacity : Nat) (r : FileRecord) : Except FileRefusal Checked :=
  let number := field32 r 2
  let expected := (wordAt r 7).toNat
  if wordAt r 4 ≠ 1 ∧ wordAt r 4 ≠ 2 then .error .shape
  else if expected < 1 ∨ capacity - 1 < expected then .error .shape
  else if number.toNat ≤ committed.toNat then .error .stale
  else if wordAt r 4 = 1 then .ok (.header number .full expected)
  else if field32 r 5 ≠ committed ∨ committed = 0 then .error .base
  else .ok (.header number .delta expected)

/-- R45: the three checks of a TRAILER, in order. -/
def checkTrailer (f : StagingFile) (r : FileRecord) : Except FileRefusal Checked :=
  if (wordAt r 2).toNat ≠ f.expected ∨ (wordAt r 1).toNat ≠ f.expected then .error .count
  else if field32 r 5 ≠ f.number then .error .fileCheck
  else if field32 r 3 ≠ crc32Final f.crc then .error .fileCheck
  else .ok .trailer

/-- The number of records taken so far: none while no HEADER has been taken (R37, R38). -/
def takenCount : Option StagingFile → Nat
  | none => 0
  | some f => f.taken

/-- The passes owed (R30). -/
def owedCount : Option StagingFile → Nat
  | none => 0
  | some f => f.owed

/-- R37: the common checks 1 to 7, in order. Check 6 compares with the HEADER taken, so it is not made of the
HEADER itself (log 23). -/
def commonFailure (staging : Option StagingFile) (capacity : Nat) (r : FileRecord) : Option FileRefusal :=
  let kind := recordKind r
  let taken := takenCount staging
  let owed := owedCount staging
  if wordAt r 15 ≠ crc16 (r.take 15) then some .badCheck
  else if (wordAt r 1).toNat ≠ taken then some .order
  else if taken = 0 ∧ kind ≠ 1 then some .noHeader
  else if kind = 0 ∨ trailerKind < kind ∨ (kind = 1 ∧ taken ≠ 0) then some .shape
  else if taken + 1 = capacity ∧ kind ≠ trailerKind then some .overrun
  else if kind ≠ trailerKind ∧ staging.any (fun f => decide (f.expected ≤ (wordAt r 1).toNat)) then some .count
  else if (owed ≠ 0 ∧ kind ≠ 4) ∨ (owed = 0 ∧ kind = 4) then some .shape
  else none

/-- R42: an effect joins the pending effects unless they hold 64 already; tested after the record's own checks (log 46). -/
def boundEffects (staging : Option StagingFile) : Except FileRefusal Checked → Except FileRefusal Checked
  | .ok (.effect e) =>
    if staging.any (fun f => decide (Config.pendingSize ≤ f.effects.length)) then .error .shape
    else .ok (.effect e)
  | .ok (.header n k x) => .ok (.header n k x)
  | .ok (.entry e n) => .ok (.entry e n)
  | .ok (.pass p) => .ok (.pass p)
  | .ok .trailer => .ok .trailer
  | .error r => .error r

/-- R37, check 8: the checks of the record's kind. -/
def kindCheck (committed : BitVec 32) (window : Option FileWindow) (capacity : Nat)
    (staging : Option StagingFile) (r : FileRecord) : Except FileRefusal Checked :=
  match recordKind r with
  | 1 => checkHeader committed capacity r
  | 2 => checkBlock r
  | 3 => checkRestore r
  | 4 => checkPass r
  | 5 => boundEffects staging (checkCancel r)
  | 6 => boundEffects staging (checkWindows window r)
  | 7 => boundEffects staging (checkPolicy r)
  | 8 => boundEffects staging (checkKeys r)
  | 9 => boundEffects staging (.ok (.effect (.clock (field32 r 2))))
  | 10 => boundEffects staging (.ok (.effect .sweep))
  | 11 => match staging with
    | none => .error .noHeader
    | some f => checkTrailer f r
  | _ => .error .shape

/-- R37: the checks of a record, in order; the first that fails refuses the file. -/
def checkRecord (committed : BitVec 32) (window : Option FileWindow) (staging : Option StagingFile)
    (r : FileRecord) : Except FileRefusal Checked :=
  let capacity := match window with | none => 0 | some f => f.capacity
  match commonFailure staging capacity r with
  | some reason => .error reason
  | none => kindCheck committed window capacity staging r

end Sys2Proof.Machine
end

