-- ==== Sys2Proof/Machine/Table.lean ====
section
/-! DEFINITION. The operations on the action table, its buckets, free list and pass pool (01_the_action_table.md,
and the sweep step of 07_time_of_day_and_sweeps.md). Each is a function of the retained store alone and whole. -/

namespace Sys2Proof.Machine

/-! ## Data by number -/

/-- What is listed at a number. -/
def Sparse.find {α : Type} : Sparse α → Nat → Option α
  | [], _ => none
  | (a, v) :: m, k => if a = k then some v else Sparse.find m k

/-- The list with a value at a number. -/
def Sparse.insert {α : Type} : Sparse α → Nat → α → Sparse α
  | [], k, v => [(k, v)]
  | (a, x) :: m, k, v =>
    if k < a then (k, v) :: (a, x) :: m else if k = a then (k, v) :: m else (a, x) :: Sparse.insert m k v

/-- The list without a number. -/
def Sparse.erase {α : Type} : Sparse α → Nat → Sparse α
  | [], _ => []
  | (a, x) :: m, k => if a = k then m else (a, x) :: Sparse.erase m k

/-- Numbers strictly rising. -/
abbrev Sparse.rising {α : Type} (m : Sparse α) : Prop := m.Pairwise (fun p q => p.1 < q.1)

/-! ## Entries, buckets, the free list -/

/-- Entry `n` of the table; a number not listed is FREE with a good check. -/
def Store.slot (st : Store) (n : Nat) : Slot := (Sparse.find st.table n).getD (.free 0)

/-- The table with a slot written, in its canonical form. -/
def Store.withSlot (st : Store) (n : Nat) (s : Slot) : Store :=
  { st with table := if s = .free 0 then Sparse.erase st.table n else Sparse.insert st.table n s }

/-- The entry at a number, where it is not FREE. -/
def Store.entry (st : Store) (n : Nat) : Option Entry :=
  match st.slot n with
  | .free _ => none
  | .held e => some e

/-- An entry changed where it stands. -/
def Store.update (st : Store) (n : Nat) (f : Entry → Entry) : Store :=
  match st.entry n with
  | none => st
  | some e => st.withSlot n (.held (f e))

/-- The linked entries of a bucket, in order (R6). -/
def Store.chain (st : Store) (b : Nat) : List Nat := (Sparse.find st.buckets b).getD []

/-- A bucket's chain written, in the canonical form of `buckets`; the structure check is recomputed (R24). -/
def Store.withChain (st : Store) (b : Nat) (c : List Nat) : Store :=
  { st with
    buckets := if c = [] then Sparse.erase st.buckets b else Sparse.insert st.buckets b c
    structureFault := 0 }

/-- The non-FREE entries with their numbers, lowest first. -/
def Store.entries (st : Store) : List (Nat × Entry) :=
  st.table.filterMap fun p => match p.2 with
    | .free _ => none
    | .held e => some (p.1, e)

/-- The entry of a slot changed, where it is not FREE. -/
def Slot.mapEntry (f : Entry → Entry) : Slot → Slot
  | .free c => .free c
  | .held e => .held (f e)

/-- Every non-FREE entry changed where it stands. -/
def Store.mapEntries (st : Store) (f : Entry → Entry) : Store :=
  { st with table := st.table.map fun p => (p.1, p.2.mapEntry f) }

/-- The passes an entry holds (R2, R8). -/
def Entry.passes (e : Entry) : List PassRecord :=
  match e.part with
  | .block _ => []
  | .restore r => r.passes

/-- R1, R6: an entry linked at the tail of its serial's bucket, its bucket position the chain's last entry. -/
def Store.link (st : Store) (n : Nat) (e : Entry) : Store :=
  let b := bucketOf e.serial
  let c := st.chain b
  (st.withChain b (c ++ [n])).withSlot n (.held { e with position := c.getLast?, checkFault := 0 })

/-- The entry after one in a chain. -/
def successor (n : Nat) : List Nat → Option Nat
  | [] => none
  | a :: rest => if a = n then rest.head? else successor n rest

/-- R1: an entry unlinked from its bucket; the entry after it takes its bucket position, its check recomputed. -/
def Store.unlink (st : Store) (n : Nat) (e : Entry) : Store :=
  let b := bucketOf e.serial
  let c := st.chain b
  let st1 := match successor n c with
    | none => st
    | some m => st.update m fun x => { x with position := e.position, checkFault := 0 }
  st1.withChain b (c.erase n)

/-- R7, R8: a DEAD entry with no pins becomes FREE at the tail of the free list, its pass records freed. -/
def Store.reclaim (st : Store) (n : Nat) : Store :=
  match st.entry n with
  | none => st
  | some e =>
    let st1 := (st.unlink n e).withSlot n (.free 0)
    { st1 with
      freeList := st1.freeList ++ [n]
      freePasses := st1.freePasses + e.passes.length
      structureFault := 0 }

/-- R8: whether an entry may be reclaimed. -/
def Entry.reclaimable (e : Entry) : Bool := e.state == .dead && e.pins == 0

/-- R9, R11: the lowest-numbered reclaimable entry that meets a condition. -/
def Store.lowestReclaimable (st : Store) (p : Entry → Bool) : Option Nat :=
  (st.entries.find? fun x => x.2.reclaimable && p x.2).map (·.1)

/-- R7, R9: reclaim on demand where the free list is empty. -/
def Store.makeRoom (st : Store) : Store :=
  if st.freeList = [] then
    match st.lowestReclaimable (fun _ => true) with
    | none => st
    | some n => st.reclaim n
  else st

/-! ## Counts (R23) -/

/-- R23: the entries in state LIVE or APPLIED. -/
def Store.visibleCount (st : Store) : Nat := (st.entries.filter fun x => x.2.visible).length

/-- R23: FREE entries plus DEAD entries with pin count 0. -/
def Store.availableCount (st : Store) : Nat :=
  (Config.tableSize - st.entries.length) + (st.entries.filter fun x => x.2.reclaimable).length

/-! ## Pins (R12) -/

/-- The pin count of an entry raised by one. The pin count is not covered by the entry check (R24). -/
def Store.pin (st : Store) (n : Nat) : Store := st.update n fun e => { e with pins := e.pins + 1 }

/-- The pin count of an entry lowered by one. -/
def Store.unpin (st : Store) (n : Nat) : Store := st.update n fun e => { e with pins := e.pins - 1 }

/-! ## The operations -/

/-- R13: the earlier STAGED entry of a serial, if its bucket holds one. -/
def Store.stagedOf (st : Store) (serial : BitVec 64) : Option Nat :=
  (st.chain (bucketOf serial)).find? fun n =>
    match st.entry n with
    | none => false
    | some e => e.state == .staged && e.serial == serial

/-- R13: an entry as staging fills it. -/
def stagedEntry (r : EntryRecord) (fileNumber : BitVec 32) : Entry :=
  { serial := r.serial, part := r.part, state := .staged, action := r.action, expiry := r.expiry,
    fileTag := fileNumber, pins := 0, position := none, checkFault := 0 }

/-- R13: an earlier STAGED entry of the serial made DEAD. -/
def Store.killStaged (st : Store) (serial : BitVec 64) : Store :=
  match st.stagedOf serial with
  | none => st
  | some n => st.update n fun e => e.become .dead

/-- R13: stage-entry. `none` is TABLE-FULL, which leaves the table as it was; otherwise the number taken. -/
def Store.stageEntry (st : Store) (r : EntryRecord) (fileNumber : BitVec 32) : Option (Store × Nat) :=
  let st2 := (st.killStaged r.serial).makeRoom
  match st2.freeList with
  | [] => none
  | n :: rest =>
    some ({ st2 with freeList := rest, structureFault := 0 }.link n (stagedEntry r fileNumber), n)

/-- R11: reclaim on demand where the pool holds no free pass record. -/
def Store.makePassRoom (st : Store) : Store :=
  if st.freePasses = 0 then
    match st.lowestReclaimable (fun e => !e.passes.isEmpty) with
    | none => st
    | some n => st.reclaim n
  else st

/-- A pass appended at the tail of an entry's pass list (R2, R11). -/
def Entry.withPass (e : Entry) (p : PassRecord) : Entry :=
  match e.part with
  | .block _ => e
  | .restore r => { e with part := .restore { r with passes := r.passes ++ [p] }, checkFault := 0 }

/-- R11: stage-pass. `none` is POOL-FULL. The entry named is the RESTORE entry staged last; where the claim names
none, which R40 rules out, nothing is appended (log 37). -/
def Store.stagePass (st : Store) (entry : Option Nat) (p : PassRecord) : Option Store :=
  match entry with
  | none => none
  | some n =>
    let st1 := st.makePassRoom
    if st1.freePasses = 0 then none
    else some ({ st1 with freePasses := st1.freePasses - 1 }.update n (Entry.withPass · p))

/-- R14: discard. Every STAGED entry becomes DEAD. -/
def Store.discard (st : Store) : Store :=
  st.mapEntries fun e => if e.state = .staged then e.become .dead else e

/-- A visible entry made DEAD where a condition holds; every other entry as it stands. -/
def Entry.killIf (e : Entry) (c : Bool) : Entry := if e.visible && c then e.become .dead else e

/-- R15, step 4: one CANCEL. -/
def Store.cancel (st : Store) (serial : BitVec 64) (action : BitVec 32) : Store :=
  st.mapEntries fun e => e.killIf (e.serial == serial && e.action == action)

/-- R15, step 4: the CANCELs of a file, in file order. -/
def Store.cancelAll (st : Store) : List PendingEffect → Store
  | [] => st
  | .cancel serial action :: rest => (st.cancel serial action).cancelAll rest
  | .windows _ :: rest => st.cancelAll rest
  | .policy _ _ :: rest => st.cancelAll rest
  | .keys _ :: rest => st.cancelAll rest
  | .clock _ :: rest => st.cancelAll rest
  | .sweep :: rest => st.cancelAll rest

/-- R15, step 2: the serials the file staged, read from the STAGED entries at the commit (log 24). -/
def Store.stagedSerials (st : Store) : List (BitVec 64) :=
  (st.entries.filter fun x => x.2.state == .staged).map (·.2.serial)

/-- R15: commit, its four steps in order. -/
def Store.commit (st : Store) (c : CommitPayload) : Store :=
  let serials := st.stagedSerials
  let st1 := st.mapEntries fun e => if e.state = .staged then e.become .live else e
  let st2 := st1.mapEntries fun e => e.killIf (serials.contains e.serial && e.fileTag != c.number)
  let st3 := match c.kind with
    | .delta => st2
    | .full => st2.mapEntries fun e => e.killIf (e.fileTag != c.number)
  st3.cancelAll c.effects

/-- R16: whether a confirmation mark finds its entry LIVE, of kind RESTORE, with its serial and action number. -/
def Entry.markable (e : Entry) (m : MarkClaim) : Bool :=
  e.state == .live && e.serial == m.serial && e.action == m.action
    && (match e.part with | .block _ => false | .restore _ => true)

/-- R16: a confirmation mark. -/
def Store.mark (st : Store) (m : MarkClaim) (day : Nat) : Store :=
  st.update m.entry fun e => if e.markable m then e.become (.applied day) else e

/-- R17: a lookup: the first entry of the serial's bucket that carries the serial and is visible. -/
def Store.lookup (st : Store) (serial : BitVec 64) : Option (Nat × Entry) :=
  (st.chain (bucketOf serial)).findSome? fun n =>
    match st.entry n with
    | none => none
    | some e => if e.visible && e.serial == serial then some (n, e) else none

/-- R81, R153: an expiry day passed on a service day; 65,535 never passes. -/
def expiryPassed (expiry : Word) (day : Nat) : Bool := expiry != 0xFFFF && decide (expiry.toNat < day)

/-- R153: whether a sweep step retires an entry. -/
def Entry.retired (e : Entry) (day : Option Nat) (retention : Nat) : Bool :=
  match day with
  | none => false
  | some d =>
    match e.state with
    | .live => expiryPassed e.expiry d
    | .applied a => decide (a + retention < d)
    | .staged => false
    | .dead => false

/-- R153: a sweep step on one entry. -/
def Store.sweepStep (st : Store) (day : Option Nat) (retention : Nat) (n : Nat) : Store :=
  match st.entry n with
  | none => st
  | some e =>
    if e.retired day retention then
      let st1 := st.update n fun x => x.become .dead
      if e.pins = 0 then st1.reclaim n else st1
    else if e.reclaimable then st.reclaim n
    else st

/-! ## Verification (R26, R180) -/

/-- R26: an entry whose check holds is put right: STAGED to DEAD, pins cleared. -/
def Slot.verified : Slot → Slot
  | .free f => .free f
  | .held e =>
    if e.checkFault = 0 then .held { e with state := if e.state = .staged then .dead else e.state, pins := 0 }
    else .held e

/-- R26: stage 1 of the walk from entry `n` on. -/
def Store.verifyFrom (st : Store) (n : Nat) : Store :=
  { st with table := st.table.map fun p => if n ≤ p.1 ∧ p.1 < Config.tableSize then (p.1, p.2.verified) else p }

/-- R26: stage 1 of the walk on entry `n` alone. -/
def Store.verifyEntry (st : Store) (n : Nat) : Store :=
  { st with table := st.table.map fun p => if p.1 = n then (p.1, p.2.verified) else p }

/-- R180: one step of a rebuild: the rebuild mark stands set and entry `n` is FREE. -/
def Store.rebuildEntry (st : Store) (n : Nat) : Store := { st with rebuildMark := true }.withSlot n (.free 0)

/-- R26: whether an entry check fails from entry `n` on. -/
def Store.entryCheckFails (st : Store) (n : Nat) : Bool :=
  st.table.any fun p => decide (n ≤ p.1) && decide (p.1 < Config.tableSize) && !p.2.checkHolds

/-- R24, R180: the structure check, which counts as failing while the rebuild mark is set. -/
def Store.structureCheckHolds (st : Store) : Bool := st.structureFault == 0 && !st.rebuildMark

end Sys2Proof.Machine
end

