-- ==== Sys2Proof/Machine/Ops.lean ====
section
/-! DEFINITION. The named operations that several blocks share: the memory behind the part, the M-port and P-port
carrying of a cycle, the contexts, the counters, the outcome queue, the table arbiter, the attention event, and the
derivation of the service day. Taking an exception has no counterpart in this part: it raises no error to the
processor (00_scope.md). -/

namespace Sys2Proof.Machine

/-! ## Four like things -/

/-- The thing of a number. -/
def fourAt {α : Type} (f : Four α) (n : Fin 4) : α :=
  match n with
  | 0 => f.c0
  | 1 => f.c1
  | 2 => f.c2
  | 3 => f.c3

/-- The thing of a number replaced. -/
def fourWith {α : Type} (f : Four α) (n : Fin 4) (x : α) : Four α :=
  match n with
  | 0 => { f with c0 := x }
  | 1 => { f with c1 := x }
  | 2 => { f with c2 := x }
  | 3 => { f with c3 := x }

/-! ## The memory behind the part (log 4) -/

/-- Canonical form: addresses strictly rising, all within the 24-bit space. An unlisted address holds no listed
byte (it reads as a free value), so no entry can equal what an unlisted address reads as. -/
abbrev Memory.wf (m : Memory) : Prop := Sparse.rising m ∧ ∀ c ∈ m, c.1 < 16777216

/-- What a byte of memory reads as. -/
def Part.memoryByte (p : Part) (a : Nat) : Byte :=
  (Sparse.find p.memory a).getD (Config.unwrittenByte p.memoryEpoch a)

/-- One byte written, where a lane carries one. -/
def Memory.writeByte (m : Memory) (a : Nat) : Option Byte → Memory
  | none => m
  | some b => Sparse.insert m a b

/-- A write of a word in the lanes that carry bytes: the even byte on the upper lane. -/
def Memory.writeWord (m : Memory) (w : BitVec 23) (b : LaneBytes) : Memory :=
  Memory.writeByte (Memory.writeByte m (2 * w.toNat) b.upper) (2 * w.toNat + 1) b.lower

/-- A write carried to memory on the M-port. -/
def Part.writeMemory (p : Part) (w : BitVec 23) (b : LaneBytes) : Part :=
  { p with memory := Memory.writeWord p.memory w b }

/-- Memory's data for a word in the lanes selected (R162). -/
def Part.readMemory (p : Part) (w : BitVec 23) (l : Lanes) : LaneBytes :=
  ⟨if l.upper then some (p.memoryByte (2 * w.toNat)) else none,
    if l.lower then some (p.memoryByte (2 * w.toNat + 1)) else none⟩

/-! ## Carrying a cycle (R162 to R165) -/

/-- The cycle in progress set, with its hold and what stands on P_D. -/
def Part.withCycle (p : Part) (c : Cycle) (hold : Option Nat) (pd : LaneBytes) : Part :=
  { p with path := { p.path with cycle := some c, hold := hold, pd := pd } }

/-- R162: a read carried out in the form of its answer. A hold takes the hold limit of this moment (R165). -/
def Part.carryRead (p : Part) (w : BitVec 23) (l : Lanes) (owner : Owner) (a : ReadAnswer) : Part :=
  match a with
  | .pass => p.withCycle ⟨w, owner, .read l .pass⟩ none (p.readMemory w l)
  | .serve v => p.withCycle ⟨w, owner, .read l (.serve v)⟩ none (bytesOf v)
  | .hold => p.withCycle ⟨w, owner, .read l .hold⟩ (some p.setup.policy.holdLimit) noBytes

/-- R162: a write carried out in the form of its answer; a held write makes no M-port cycle yet. The bytes the processor
drives stand in the record of the cycle in progress, the P-port's input, until it ends (log 47). -/
def Part.carryWrite (p : Part) (w : BitVec 23) (b : LaneBytes) (owner : Owner) (a : WriteAnswer) : Part :=
  match a with
  | .pass => (p.writeMemory w b).withCycle ⟨w, owner, .write b .pass⟩ none noBytes
  | .substitute s => (p.writeMemory w s).withCycle ⟨w, owner, .write b (.substitute s)⟩ none noBytes
  | .hold => p.withCycle ⟨w, owner, .write b .hold⟩ (some p.setup.policy.holdLimit) noBytes

/-- R36, R41: a held intake write is released and goes to memory. -/
def Part.releaseHeldWrite (p : Part) : Part :=
  match p.path.cycle with
  | some ⟨w, .fileIntake, .write b .hold⟩ => p.carryWrite w b .fileIntake .pass
  | _ => p

/-! ## Contexts -/

/-- Context `n`. -/
def Part.context (p : Part) (n : Fin 4) : Context := fourAt p.contexts n

/-- Context `n` set. -/
def Part.withContext (p : Part) (n : Fin 4) (c : Context) : Part :=
  { p with contexts := fourWith p.contexts n c }

/-! ## Counters (R134) -/

/-- A change of the counters, taken whole. -/
def Part.count (p : Part) (f : Counters → Counters) : Part := { p with counters := f p.counters }

/-- One presentation. -/
def Counters.presentation (c : Counters) : Counters := { c with presentations := raised c.presentations }

/-- One unconfirmed presentation. -/
def Counters.unconfirmedOne (c : Counters) : Counters := { c with unconfirmed := raised c.unconfirmed }

/-- One refused file, with its reason recorded. -/
def Counters.refusal (c : Counters) (r : FileRefusal) : Counters :=
  { c with filesRefused := raised c.filesRefused, lastRefusal := some r, refusalMark := true }

/-- One deferral, with its reason recorded. -/
def Counters.deferral (c : Counters) (r : DeferReason) : Counters :=
  { c with deferrals := raised c.deferrals, lastDeferral := some r, deferralMark := true }

/-! ## The outcome queue (R126 to R130) -/

/-- The outcomes changed, the queue check recomputed (R136). -/
def Part.withOutcomes (p : Part) (l : List Outcome) : Part :=
  { p with queue := { p.queue with outcomes := l, checkFault := 0 } }

/-- R83: the free places. -/
def Part.freePlaces (p : Part) : Nat := Config.queueSize - p.queue.outcomes.length

/-- An outcome enters at the tail. -/
def Part.enterOutcome (p : Part) (o : Outcome) : Part := p.withOutcomes (p.queue.outcomes ++ [o])

/-- R128: the sequence number is taken and incremented, wrapping. -/
def Part.takeSequence (p : Part) : Part :=
  { p with queue := { p.queue with nextSequence := p.queue.nextSequence + 1 } }

/-- The outcome a context holds RESERVED. -/
def Outcome.heldBy (o : Outcome) (n : Fin 4) : Bool := o.state == .reserved n

/-- Whether an outcome is ATTACHED. -/
def Outcome.isAttached (o : Outcome) : Bool :=
  match o.state with
  | .reserved _ => false
  | .attached _ => true
  | .unreported _ => false

/-- Whether an outcome is UNREPORTED. -/
def Outcome.isUnreported (o : Outcome) : Bool :=
  match o.state with
  | .reserved _ => false
  | .attached _ => false
  | .unreported _ => true

/-- Whether an outcome is RESERVED. -/
def Outcome.isReserved (o : Outcome) : Bool :=
  match o.state with
  | .reserved _ => true
  | .attached _ => false
  | .unreported _ => false

/-- The outcome a context holds, if any (R54). -/
def Part.outcomeHeld (p : Part) (n : Fin 4) : Option Outcome := p.queue.outcomes.find? (·.heldBy n)

/-- R129: the release of the outcome a context holds, which leaves the queue unnumbered. -/
def Part.releaseOutcome (p : Part) (n : Fin 4) : Part :=
  p.withOutcomes (p.queue.outcomes.filter fun o => !o.heldBy n)

/-- R130, R181: an ATTACHED outcome becomes UNREPORTED with its sequence number and its place. -/
def Outcome.detached (o : Outcome) : Outcome :=
  match o.state with
  | .reserved _ => o
  | .attached n => { o with state := .unreported n }
  | .unreported _ => o

/-- R130: the ATTACHED outcome becomes UNREPORTED. -/
def Part.detachOutcome (p : Part) : Part := p.withOutcomes (p.queue.outcomes.map Outcome.detached)

/-- R130: the ATTACHED outcome leaves the queue. -/
def Part.removeAttached (p : Part) : Part := p.withOutcomes (p.queue.outcomes.filter fun o => !o.isAttached)

/-! ## The service day and hours (R148) -/

/-- R148: the service day of a time. -/
def serviceDayOf (offset seconds : Nat) : Nat := (seconds - offset) / 86400

/-- R148: the weekday, 0 Monday. -/
def weekdayOf (offset seconds : Nat) : Nat := serviceDayOf offset seconds % 7

/-- R148: the service time from which the hour and minute come; the first seconds count as the late hours of
service day 0. -/
def serviceTimeOf (offset seconds : Nat) : Nat :=
  if seconds < offset then seconds + 86400 - offset else seconds - offset

/-- R148: the hour. -/
def hourOf (offset seconds : Nat) : Nat := serviceTimeOf offset seconds % 86400 / 3600

/-- R148: the minute. -/
def minuteOf (offset seconds : Nat) : Nat := serviceTimeOf offset seconds % 3600 / 60

/-- R148: the current service day; none while the clock is UNSET. -/
def Part.serviceDay (p : Part) : Option Nat :=
  if p.clock.state = .unset then none
  else some (serviceDayOf p.setup.policy.serviceOffset p.clock.seconds.toNat)

/-! ## The table arbiter (R19, R20) -/

/-- An operation in progress. -/
def Part.begin (p : Part) (a : Arbiter) (op : Operation) : Part := { p with arbiter := { a with op := some op } }

/-- R19: the claim that falls to be granted, its operation begun. -/
def Part.grantNext (p : Part) : Part :=
  let a := p.arbiter
  match a.marks, a.lookups, a.intake, a.sweep with
  | m :: m1 :: m2 :: m3 :: ms, _, _, _ => p.begin { a with marks := m1 :: m2 :: m3 :: ms } (.mark m p.serviceDay)
  | _, (n, serial) :: ls, _, _ => p.begin { a with lookups := ls } (.lookup n serial true)
  | m :: ms, [], _, _ => p.begin { a with marks := ms } (.mark m p.serviceDay)
  | [], [], some c, _ => p.begin { a with intake := none } (.intake c)
  | [], [], none, true => p.begin { a with sweep := false } .sweep
  | [], [], none, false => p

/-- R19: a claim is granted where the table is free and no release stands to be taken (logs 14, 15). -/
def Part.grant (p : Part) : Part :=
  if p.arbiter.op = none ∧ p.arbiter.releases = [] then p.grantNext else p

/-- The operation in progress has completed: the table falls free. -/
def Part.tableFree (p : Part) : Part := { p with arbiter := { p.arbiter with op := none } }

/-- R17: a lookup claim joins its class. -/
def Part.claimLookup (p : Part) (n : Fin 4) (serial : BitVec 64) : Part :=
  { p with arbiter := { p.arbiter with lookups := p.arbiter.lookups ++ [(n, serial)] } }

/-- R16: a confirmation mark joins its class. -/
def Part.claimMark (p : Part) (m : MarkClaim) : Part :=
  { p with arbiter := { p.arbiter with marks := p.arbiter.marks ++ [m] } }

/-- R20: file intake's one claim. -/
def Part.claimIntake (p : Part) (c : IntakeClaim) : Part :=
  { p with arbiter := { p.arbiter with intake := some c } }

/-- An operation given up by the context it was claimed for (R18). -/
def Operation.unwanted (op : Operation) (n : Fin 4) : Operation :=
  match op with
  | .lookup m serial wanted => .lookup m serial (wanted && m != n)
  | .mark c d => .mark c d
  | .intake c => .intake c
  | .sweep => .sweep

/-- R20: a context's waiting lookup is withdrawn; the answer of a granted one will be discarded (R18). -/
def Part.withdrawLookup (p : Part) (n : Fin 4) : Part :=
  { p with arbiter := { p.arbiter with
      lookups := p.arbiter.lookups.filter fun c => c.1 != n
      op := p.arbiter.op.map (·.unwanted n) } }

/-- R12: a context's entry reference released: taken at once if no operation is in progress, or else kept until one
between two operations (PIN_RELEASE, log 15). -/
def Part.releasePin (p : Part) (entry : Nat) : Part :=
  if p.arbiter.op = none then { p with store := p.store.unpin entry }
  else { p with arbiter := { p.arbiter with releases := p.arbiter.releases ++ [entry] } }

/-! ## Sweeps (R150, R152) -/

/-- R150, R152: a sweep trigger starts a sweep where none runs, or is absorbed. -/
def Part.triggerSweep (p : Part) : Part :=
  match p.sweep with
  | some _ => p
  | none =>
    { p with
      sweep := some ⟨p.serviceDay, p.setup.policy.retentionDays, 0⟩
      arbiter := { p.arbiter with sweep := true } }

/-! ## The attention monitor (R138 to R140) -/

/-- ATTN_N asserted and the hold timer started afresh. -/
def Part.assertAttention (p : Part) : Part :=
  { p with monitor := { p.monitor with asserted := true, timer := some p.setup.policy.attentionHold } }

/-- R138: an attention event. -/
def Part.attentionEvent (p : Part) : Part :=
  match p.setup.policy.attentionMode with
  | .off => p
  | .single => p.assertAttention
  | .repeated => { p with monitor := { p.monitor with mark0 := true } }

/-- ATTN_N released and the hold timer stopped. -/
def Part.releaseAttention (p : Part) : Part :=
  { p with monitor := { p.monitor with asserted := false, timer := none } }

/-! ## Commands -/

/-- A command that changes the part as a function of it. -/
def State.act (s : State) (f : Part → Part) : Host.Outcome State Fault Refusal :=
  .next { s with toPart := f s.toPart }

end Sys2Proof.Machine
end

