-- ==== Sys2Proof/Machine/Clock.lean ====
section
/-! DEFINITION. The day clock (07_time_of_day_and_sweeps.md): the clock word, the count, the schedule, sweeps. -/

namespace Sys2Proof.Machine

/-! ## The clock word (R145, R146) -/

/-- R146: whether a completed value agrees with the one before it. -/
def agrees (last : Option (BitVec 32)) (v : BitVec 32) (tolerance : Nat) : Bool :=
  match last with
  | none => false
  | some q => decide (q.toNat ≤ v.toNat) && decide (v.toNat - q.toNat ≤ tolerance)

/-- R146: a clock-word value completed. -/
def Part.clockValue (p : Part) (v : BitVec 32) : Part :=
  let adopted := agrees p.follow.last v p.setup.policy.followTolerance
  { p with
    follow := { Follow.empty with last := some v }
    clock := if adopted then { p.clock with seconds := v, state := .following } else p.clock }

/-- The half-written value with a write to clock word 0 or, if `second`, 1. -/
def Follow.entered (f : Follow) (second : Bool) (b : LaneBytes) : Follow :=
  if second then { f with half1 := overlaid f.half1 b } else { f with half0 := overlaid f.half0 b }

/-- R145: a write that touches the clock word. -/
def Part.clockWrite (p : Part) (second : Bool) (b : LaneBytes) : Part :=
  let f := p.follow.entered second b
  match wholeWord f.half0, wholeWord f.half1 with
  | some high, some low => p.clockValue (joinWords high low)
  | _, _ => { p with follow := f }

/-- R147: a CLOCK record offered at a commit. -/
def Part.offerClock (p : Part) (seconds : BitVec 32) : Part :=
  match p.clock.state with
  | .unset => { p with clock := { p.clock with seconds := seconds, state := .set } }
  | .set => p
  | .following => p

/-! ## The count and the schedule (R143, R149 to R151) -/

/-- R149: the schedule matches. -/
def Part.scheduleMatches (p : Part) : Bool :=
  let y := p.setup.policy
  let t := p.clock.seconds.toNat
  y.scheduleEnabled
    && p.clock.state != .unset
    && (y.sweepWeekday == 7 || y.sweepWeekday == weekdayOf y.serviceOffset t)
    && (y.sweepHour == 255 || y.sweepHour == hourOf y.serviceOffset t)
    && (y.sweepMinute == 255 || y.sweepMinute == minuteOf y.serviceOffset t)

/-- R149: the seconds stand at a whole minute of service time. A day is a whole number of minutes. -/
def Part.wholeMinute (p : Part) : Bool :=
  (p.clock.seconds.toNat + 86400 - p.setup.policy.serviceOffset) % 60 == 0

/-- R150, R151: a scheduled trigger, in RUN; outside it the sweep is owed. -/
def Part.scheduledTrigger (p : Part) : Part :=
  if p.supply = .run then p.triggerSweep else { p with clock := { p.clock with owedSweep := true } }

/-- R149: the schedule evaluated after an advance. -/
def Part.evaluateSchedule (p : Part) : Part :=
  if p.wholeMinute && p.scheduleMatches then p.scheduledTrigger else p

/-- R143: the seconds advanced by one, where the clock counts. -/
def Part.advanceClock (p : Part) : Part :=
  if p.clock.state = .unset ∨ p.clock.seconds = 0xFFFFFFFF then p
  else ({ p with clock := { p.clock with seconds := p.clock.seconds + 1 } }).evaluateSchedule

/-- R143, R175: a crystal second; in OFF nothing runs. -/
def Part.crystalSecond (p : Part) : Part :=
  if p.supply = .off then p else ({ p with crystal := p.crystal + 1 }).advanceClock

/-! ## Sweep steps (R153) -/

/-- R153: a sweep step completed: the entry examined, and the next step claimed or the sweep ended. -/
def Part.sweepEntry (p : Part) : Part :=
  match p.sweep with
  | none => p
  | some w =>
    let p1 := { p with store := p.store.sweepStep w.day w.retention w.next }
    if w.next + 1 < Config.tableSize then
      { p1 with sweep := some { w with next := w.next + 1 }, arbiter := { p1.arbiter with sweep := true } }
    else { p1 with sweep := none }

/-- R142, R151: the owed trigger at the entry to RUN. -/
def Part.owedTrigger (p : Part) : Part :=
  if p.clock.owedSweep then ({ p with clock := { p.clock with owedSweep := false } }).triggerSweep else p

end Sys2Proof.Machine
end

