-- ==== Sys2Proof/Machine/Intake.lean ====
section
/-! DEFINITION. File intake (02_action_files.md): writes into the file window, the buffer, the taking of records,
refusal, and what the answer of an intake operation comes to. -/

namespace Sys2Proof.Machine

/-! ## The outstanding operation (R30) -/

/-- The intake operation in progress at the table arbiter. -/
def Part.intakeRunning (p : Part) : Option IntakeClaim :=
  match p.arbiter.op with
  | some (.intake c) => some c
  | some (.lookup _ _ _) => none
  | some (.mark _ _) => none
  | some .sweep => none
  | none => none

/-- R30: intake has an operation outstanding, waiting or in progress. -/
def Part.intakeOutstanding (p : Part) : Bool := p.arbiter.intake.isSome || p.intakeRunning.isSome

/-- A commit claim. -/
def IntakeClaim.isCommit (c : IntakeClaim) : Bool :=
  match c with
  | .stageEntry _ _ => false
  | .stagePass _ _ => false
  | .commit _ => true
  | .discard => false

/-- R33, R51: the commit in progress is that of the file in hand (logs 22, 31). -/
def Part.ownCommitRunning (p : Part) : Bool := p.intakeRunning.any (·.isCommit) && !p.intake.answerIgnored

/-! ## Refusal (R41) -/

/-- R41, R51: a waiting claim gives way to the discard, which an operation in progress delays until its answer. -/
def Part.orderDiscard (p : Part) : Part :=
  match p.intakeRunning with
  | none => p.claimIntake .discard
  | some _ => { p with intake := { p.intake with answerIgnored := true, discardOwed := true } }

/-- R41: the file in hand ended: a held write released; assembly, buffer and staging file gone; the cursor CLOSED. -/
def Part.endFile (p : Part) (state : IntakeState) : Part :=
  let p1 := p.releaseHeldWrite
  { p1 with intake := { p1.intake with
      state := state, cursor := .closed, assembly := [], buffer := [], staging := none,
      trailerBuffered := false, held := none } }

/-- R41: a file refused. -/
def Part.refuse (p : Part) (reason : FileRefusal) : Part :=
  (((p.endFile .draining).orderDiscard).count fun c => c.refusal reason)

/-! ## Taking records (R37 to R45) -/

/-- R35: the head record leaves the buffer. -/
def Intake.dropHead (i : Intake) : Intake := { i with buffer := i.buffer.tail }

/-- R37: a record counted, and added to the running CRC-32 unless it is the TRAILER. -/
def StagingFile.counted (f : StagingFile) (r : FileRecord) (isTrailer : Bool) : StagingFile :=
  { f with taken := f.taken + 1, crc := if isTrailer then f.crc else crc32Run f.crc r }

/-- R38: the staging file a good HEADER creates. -/
def headerStaging (r : FileRecord) (number : BitVec 32) (kind : FileKind) (expected : Nat) : StagingFile :=
  ⟨number, kind, expected, 1, crc32Run crc32Start r, 0, [], none⟩

/-- R38 to R45: what becomes of a record that has passed its checks. A record other than a HEADER passes them only
under a staging file. -/
def Part.dealWith (p : Part) (r : FileRecord) (c : Checked) : Part :=
  match c, p.intake.staging with
  | .header number kind expected, _ =>
    { p with intake := { p.intake.dropHead with staging := some (headerStaging r number kind expected) } }
  | .entry e passCount, some f =>
    ({ p with intake := { p.intake with staging := some { f.counted r false with owed := passCount } } }).claimIntake
      (.stageEntry e f.number)
  | .pass q, some f =>
    ({ p with intake := { p.intake with staging := some (f.counted r false) } }).claimIntake
      (.stagePass f.restoreEntry q)
  | .effect e, some f =>
    { p with intake := { p.intake.dropHead with
        staging := some { f.counted r false with effects := f.effects ++ [e] } } }
  | .trailer, some f =>
    ({ p with intake := { p.intake with
        staging := some (f.counted r true), trailerBuffered := true } }).claimIntake
      (.commit ⟨f.number, f.kind, f.effects⟩)
  | .entry _ _, none => p
  | .pass _, none => p
  | .effect _, none => p
  | .trailer, none => p

/-- R37: the head record checked and dealt with. -/
def Part.takeRecord (p : Part) (r : FileRecord) : Part :=
  match checkRecord p.fileNumber p.path.fileWindow p.intake.staging r with
  | .error reason => p.refuse reason
  | .ok c => p.dealWith r c

/-- R37: the head record is taken when nothing is outstanding and no discard is owed. -/
def Part.takeHead (p : Part) : Part :=
  match p.intake.buffer with
  | [] => p
  | r :: _ => if p.intakeOutstanding || p.intake.discardOwed then p else p.takeRecord r

/-- R36: a held record joins the buffer where a place is free, and its write is released. -/
def Part.admitHeld (p : Part) : Part :=
  match p.intake.held with
  | none => p
  | some r =>
    if p.intake.buffer.length < Config.bufferSize then
      let p1 := p.releaseHeldWrite
      { p1 with intake := { p1.intake with buffer := p1.intake.buffer ++ [r], held := none } }
    else p

/-- Intake's work until it waits: the buffer and a held record hold three records at most. -/
def Part.intakeWork (p : Part) : Part := p.takeHead.admitHeld.takeHead.admitHeld.takeHead.admitHeld

/-! ## Writes into the window (R31 to R36) -/

/-- R35, R36: a completed record joins the buffer, or is held with its write; the cursor closes after a TRAILER, and
otherwise stands on the word that follows, past the window's end after its last word (log 45). -/
def Part.completeRecord (p : Part) (word : Nat) (r : FileRecord) : Part :=
  let cursor := if recordKind r = trailerKind then Cursor.closed else .onWord (word + 1) noBytes
  let i := { p.intake with assembly := [], cursor := cursor }
  if i.buffer.length < Config.bufferSize then { p with intake := { i with buffer := i.buffer ++ [r] } }
  else { p with intake := { i with held := some r } }

/-- R32: a write to the word at the cursor, some lanes of which may be written. -/
def Part.acceptWord (p : Part) (word : Nat) (written b : LaneBytes) : Part :=
  let w := overlaid written b
  match wholeWord w with
  | none => { p with intake := { p.intake with cursor := .onWord word w } }
  | some v =>
    let record := p.intake.assembly ++ [v]
    if word % 16 = 15 then p.completeRecord word record
    else { p with intake := { p.intake with cursor := .onWord (word + 1) noBytes, assembly := record } }

/-- R31, R33: a file begun with its first write to word 0, the file in hand abandoned unless its commit runs. -/
def Part.beginFile (p : Part) (b : LaneBytes) : Part :=
  let p1 :=
    if p.intake.state = .receiving then
      if p.ownCommitRunning then { p with intake := { p.intake with answerIgnored := true } }
      else p.refuse .abandoned
    else p
  ({ p1 with intake := { p1.intake with
      state := .receiving, cursor := .onWord 0 noBytes, assembly := [], staging := none } }).acceptWord 0 noBytes b

/-- R31, R32, R34: the copy of a write to a word of the file window, as the cursor stands. -/
def Part.followWrite (p : Part) (word : Nat) (b : LaneBytes) : Part :=
  match p.intake.state, p.intake.cursor with
  | .receiving, .onWord at_ written =>
    if word = at_ then p.acceptWord at_ written b
    else if word = 0 then p.beginFile b
    else p.refuse .order
  | .receiving, .closed => if word = 0 then p.beginFile b else p
  | .idle, _ => if word = 0 then p.beginFile b else p
  | .draining, _ => if word = 0 then p.beginFile b else p

/-- R29, R32: the copy of a file-window write, and the work it lets intake do. -/
def Part.fileWrite (p : Part) (word : Nat) (b : LaneBytes) : Part := (p.followWrite word b).intakeWork

/-! ## Answers (R39 to R41, R46) -/

/-- R41: the answer of the operation in progress ignored; a TRAILER still buffered leaves (R46). -/
def Part.ignoreAnswer (p : Part) : Part :=
  { p with intake := { p.intake with
      answerIgnored := false
      buffer := if p.intake.trailerBuffered then p.intake.buffer.tail else p.intake.buffer
      trailerBuffered := false } }

/-- R41: the discard owed, claimed. -/
def Part.claimOwedDiscard (p : Part) : Part :=
  if p.intake.discardOwed then
    ({ p with intake := { p.intake with discardOwed := false } }).claimIntake .discard
  else p

/-- The answer of the intake operation that has left the table: taken as `f` gives unless it is to be ignored; an
owed discard is claimed, and intake goes on. -/
def Part.intakeAnswered (p : Part) (f : Part → Part) : Part :=
  (if p.intake.answerIgnored then p.ignoreAnswer else f p).claimOwedDiscard.intakeWork

/-- R39: STAGED for an entry. -/
def Part.entryStaged (p : Part) (e : EntryRecord) (n : Nat) : Part :=
  let noted (f : StagingFile) : StagingFile :=
    match e.part with
    | .block _ => f
    | .restore _ => { f with restoreEntry := some n }
  { p with intake := { p.intake.dropHead with staging := p.intake.staging.map noted } }

/-- R40: STAGED for a pass. -/
def Part.passStaged (p : Part) : Part :=
  { p with intake := { p.intake.dropHead with
      staging := p.intake.staging.map fun f => { f with owed := f.owed - 1 } } }

/-- R46, step 6: the file in hand ends committed. -/
def Part.fileCommitted (p : Part) : Part :=
  { p with intake := { p.intake.dropHead with
      state := .idle, cursor := .closed, staging := none, trailerBuffered := false } }

/-! ## RESET_N (R51) -/

/-- R51: intake at RESET_N. -/
def Part.resetIntake (p : Part) : Part :=
  let refused := p.intake.state == .receiving && !p.ownCommitRunning
  let p1 := (p.endFile .idle).orderDiscard
  if refused then p1.count fun c => c.refusal .abandoned else p1

end Sys2Proof.Machine
end

