-- ==== Sys2Proof/Machine/Decisions.lean ====
section
/-! DEFINITION. Presentation decisions (04_presentation_decisions.md): what a lookup's answer comes to for one card,
as a function of the inputs of R79 alone. -/

namespace Sys2Proof.Machine

/-- The inputs of a decision other than the answer (R79). `day` is none while the clock is UNSET. -/
structure DecisionInputs where
  snapshot : List Word
  day : Option Nat
  ceiling : Nat
  free : Nat
deriving DecidableEq, Repr

/-- A decision with what it hands on (R80, R98). An amending one carries the amended image; RESTORE and BLOCK the
figures of their tentative outcome (R99). -/
inductive Decision where
  | none
  | restore (image : List Word) (placed dropped : Nat)
  | block (image : List Word) (cleared : Nat)
  | blockOnly (image : List Word)
  | skipApplied
  | skipLive (inserted : Bool)
  | skipBlock
  | defer (reason : DeferReason)
  | expired
deriving DecidableEq, Repr

/-! ## The fit of a restore (R87 to R89) -/

/-- The slot a pass is placed in, written. -/
def PassRecord.toSlot (p : PassRecord) : PassSlot := ⟨p.product, p.zones, p.startDay, p.endDay⟩

/-- A pass written into the first slot that meets a condition. -/
def placeWhere (c : PassSlot → Bool) (p : PassRecord) : List PassSlot → Option (List PassSlot)
  | [] => none
  | s :: rest =>
    if c s then some (p.toSlot :: rest) else (placeWhere c p rest).map fun r => s :: r

/-- R88, step 2: a live pass placed in the working copy. -/
def placePass (p : PassRecord) (slots : List PassSlot) : Option (List PassSlot) :=
  match p.placement with
  | .fill => placeWhere (fun s => s.product == 0) p slots
  | .replace =>
    match placeWhere (fun s => s.product == p.product) p slots with
    | some r => some r
    | none => placeWhere (fun s => s.product == 0) p slots

/-- The working copy after the passes, with the placed and dropped counts. -/
structure Placed where
  slots : List PassSlot
  placed : Nat
  dropped : Nat
deriving DecidableEq, Repr

/-- R88: the passes placed one at a time, in list order; none where a live pass finds no slot. -/
def placeAll (day : Nat) : List PassRecord → Placed → Option Placed
  | [], w => some w
  | p :: rest, w =>
    if p.endDay.toNat < day then placeAll day rest { w with dropped := w.dropped + 1 }
    else match placePass p w.slots with
      | none => none
      | some slots => placeAll day rest { w with slots := slots, placed := w.placed + 1 }

/-- R87: the purse test, formed exactly. -/
def purseFits (image : List Word) (amount : BitVec 32) (ceiling : Nat) : Bool :=
  decide (imagePurse image + (amount.toNat : Int) ≤ (ceiling : Int))

/-- R89: the fit of a restore: the placement, where the purse test passes and every live pass has found a slot. -/
def restoreFit (i : DecisionInputs) (day : Nat) (r : RestorePart) : Option Placed :=
  if purseFits i.snapshot r.amount i.ceiling then placeAll day r.passes ⟨imageSlots i.snapshot, 0, 0⟩ else none

/-! ## The amended images (R90, R92, R93) -/

/-- A two-word field written at words `k` and `k + 1`. -/
def withField32 (image : List Word) (k : Nat) (v : BitVec 32) : List Word :=
  withWords image k [highWord v, lowWord v]

/-- R90: the amended image of a RESTORE. -/
def restoredImage (image : List Word) (amount action : BitVec 32) (slots : List PassSlot) : List Word :=
  withCheckWord
    (withWords
      (withField32
        (withField32 image 5 (BitVec.ofInt 32 (imagePurse image + (amount.toNat : Int))))
        8 action)
      10 (slotWords slots))

/-- Word 4 with the status BLOCKED in its high byte, the card type as it stood (R92, R93). -/
def blockedStatus (w : Word) : Word := joinBytes 2 (lowByte w)

/-- R92: the amended image of a BLOCK. -/
def blockedImage (image : List Word) (action : BitVec 32) : List Word :=
  withCheckWord
    (withWords
      (withField32
        (withField32 (image.set 4 (blockedStatus (wordAt image 4))) 5 0)
        8 action)
      10 (List.replicate 16 0))

/-- R93: the amended image of a BLOCK-ONLY. -/
def blockOnlyImage (image : List Word) : List Word :=
  withCheckWord (image.set 4 (blockedStatus (wordAt image 4)))

/-- R92: the slots of the snapshot whose product code is not 0. -/
def clearedCount (image : List Word) : Nat := ((imageSlots image).filter fun s => s.product != 0).length

/-! ## The decision (R84 to R86) -/

/-- R82: the card's applied-action number is at or above a number. -/
def cardCarries (image : List Word) (number : BitVec 32) : Bool :=
  decide (number.toNat ≤ (imageApplied image).toNat)

/-- R81: not yet due. -/
def notYetDue (notBefore : Word) (day : Nat) : Bool := decide (day < notBefore.toNat)

/-- R85: the decision for a LIVE RESTORE entry. -/
def decideRestore (i : DecisionInputs) (e : Entry) (r : RestorePart) : Decision :=
  match i.day with
  | none => .defer .clockUnset
  | some day =>
    if expiryPassed e.expiry day then .expired
    else if notYetDue r.notBefore day then .defer .notYet
    else if cardCarries i.snapshot r.precondition then .skipLive (decide (1 ≤ i.free))
    else if i.free < Config.restorePlaces then .defer .backlog
    else match restoreFit i day r with
      | none => .defer .noRoom
      | some w => .restore (restoredImage i.snapshot r.amount e.action w.slots) w.placed w.dropped

/-- R86: the decision for a LIVE BLOCK entry. -/
def decideBlock (i : DecisionInputs) (e : Entry) : Decision :=
  if i.day.any (fun day => expiryPassed e.expiry day) then .expired
  else if cardCarries i.snapshot e.action then .skipBlock
  else if 1 ≤ i.free then .block (blockedImage i.snapshot e.action) (clearedCount i.snapshot)
  else .blockOnly (blockOnlyImage i.snapshot)

/-- R84: the decision for an answer. -/
def decideFor (i : DecisionInputs) : Option Entry → Decision
  | none => .none
  | some e =>
    match e.part, e.state with
    | .restore _, .applied _ => .skipApplied
    | .restore r, _ => decideRestore i e r
    | .block _, _ => decideBlock i e

/-! ## The overlay (R64) -/

/-- R64: the words in which the amended image differs from the snapshot and which the firmware has not written
since, each PENDING. -/
def overlayOf (snapshot amendedImage : List Word) (written : List Lanes) : List OverlayWord :=
  (List.range 32).filterMap fun k =>
    let l := written.getD k ⟨false, false⟩
    if wordAt amendedImage k != wordAt snapshot k && !(l.upper || l.lower)
    then some ⟨k, wordAt amendedImage k, true⟩ else none

end Sys2Proof.Machine
end

