-- ==== Sys2Proof/Machine/Contexts.lean ====
section
/-! DEFINITION. The image contexts (03_image_contexts.md): how a context treats the cycles of its window, gives up a
presentation, is confirmed, and takes the decision of its lookup. -/

namespace Sys2Proof.Machine

/-! ## Beginning and capturing an image (R56 to R58) -/

/-- An image copy with nothing written. -/
def blankCopy : List LaneBytes := List.replicate 32 noBytes

/-- The words of a copy, every lane of which is written. -/
def copyWords (copy : List LaneBytes) : List Word := copy.map fun b => (wholeWord b).getD 0

/-- R56: a presentation begun with a write to word 0. -/
def Part.beginPresentation (p : Part) (n : Fin 4) (b : LaneBytes) : Part :=
  p.withContext n (.filling (blankCopy.set 0 b))

/-- R58: the image closes: a whole, good image is snapshotted and a lookup claimed; any other is discarded. -/
def Part.closeImage (p : Part) (n : Fin 4) (copy : List LaneBytes) : Part :=
  let image := copyWords copy
  if copy.all complete ∧ wordAt image 31 = crc16 (image.take 31) ∧ imageSerial image ≠ 0 then
    (p.withContext n (.lookup image (List.replicate 32 ⟨false, false⟩))).claimLookup n (imageSerial image)
  else p.withContext n .empty

/-- R57, R58: a write of words 1 to 31, or one completing word 0, taken into the image copy. -/
def Part.captureWrite (p : Part) (n : Fin 4) (copy : List LaneBytes) (k : Nat) (b : LaneBytes) : Part :=
  let copy' := copy.set k (overlaid (lanesAt copy k) b)
  if k = 31 ∧ complete (lanesAt copy' 31) then p.closeImage n copy' else p.withContext n (.filling copy')

/-! ## Giving up a presentation (R69) -/

/-- A settle write on the M-port is no longer its context's (R69): it completes, and marks nothing. -/
def Part.disownSettle (p : Part) (n : Fin 4) : Part :=
  { p with path := { p.path with
      settleWrite := p.path.settleWrite.map fun w => { w with owned := w.owned && w.context != n } } }

/-- R69: unconfirmed, with its await timer not yet expired. -/
def Presentation.countsUnconfirmed (pr : Presentation) : Bool := !pr.confirmed && pr.await != .expired

/-- R69: an amending presentation given up: its settle write disowned, its entry reference and reservation
released, and counted unconfirmed where due. -/
def Part.dropPresentation (p : Part) (n : Fin 4) (pr : Presentation) : Part :=
  let p1 := ((p.disownSettle n).releasePin pr.entry).releaseOutcome n
  if pr.countsUnconfirmed then p1.count Counters.unconfirmedOne else p1

/-- R69 to R71: the presentation in hand is abandoned and the context is EMPTY; a write to word 0 then begins the next. -/
def Part.abandon (p : Part) (n : Fin 4) : Part :=
  match p.context n with
  | .empty => p.withContext n .empty
  | .filling _ => p.withContext n .empty
  | .lookup _ _ => (p.withdrawLookup n).withContext n .empty
  | .amended pr => (p.dropPresentation n pr).withContext n .empty
  | .settled pr => (p.dropPresentation n pr).withContext n .empty

/-! ## Settling (R66 to R68) -/

/-- R67: settling has ended: SETTLED while the await timer runs unconfirmed, or else EMPTY with the pin released. -/
def Part.endSettling (p : Part) (n : Fin 4) (pr : Presentation) : Part :=
  if pr.confirmed then (p.releasePin pr.entry).withContext n .empty
  else match pr.await with
    | .running _ => p.withContext n (.settled pr)
    | .stopped => (p.releasePin pr.entry).withContext n .empty
    | .expired => (p.releasePin pr.entry).withContext n .empty

/-- A context in AMENDED with a changed overlay: it stays, or settling ends when no word is PENDING (R67). -/
def Part.amendedWith (p : Part) (n : Fin 4) (pr : Presentation) : Part :=
  if pr.overlay.any (·.pending) then p.withContext n (.amended pr) else p.endSettling n pr

/-- The overlay word of a window word. -/
def Presentation.overlayWord (pr : Presentation) (k : Nat) : Option OverlayWord := pr.overlay.find? (·.word == k)

/-- R68: the word leaves the overlay. -/
def Presentation.dropWord (pr : Presentation) (k : Nat) : Presentation :=
  { pr with overlay := pr.overlay.filter fun o => o.word != k }

/-- R54: the lanes of a write to word `k` marked in the words-written record (log 27). -/
def Presentation.noteWrite (pr : Presentation) (k : Nat) (b : LaneBytes) : Presentation :=
  { pr with written := pr.written.set k (markLanes (pr.written.getD k ⟨false, false⟩) b) }

/-- R66: a settle write has completed: the word is WRITTEN. -/
def Presentation.markWritten (pr : Presentation) (k : Nat) : Presentation :=
  { pr with overlay := pr.overlay.map fun o => if o.word = k then { o with pending := false } else o }

/-- R68, R163: the bytes of a one-lane write to a PENDING overlay word: the other lane carries the overlay's byte. -/
def widened (value : Word) (b : LaneBytes) : LaneBytes := overlaid (bytesOf value) b

/-- R68: how a write to words 1 to 31 in AMENDED or SETTLED is answered. -/
def Presentation.writeAnswer (pr : Presentation) (k : Nat) (b : LaneBytes) : WriteAnswer :=
  match pr.overlayWord k with
  | none => .pass
  | some o => if o.pending && !complete b then .substitute (widened o.value b) else .pass

/-! ## The cycles of a window (R55) -/

/-- R55: a write to word `k` of window `n`: the answer, and what becomes of the context. -/
def Part.contextWrite (p : Part) (n : Fin 4) (k : Nat) (b : LaneBytes) : Part × WriteAnswer :=
  match p.context n with
  | .empty => (if k = 0 then p.beginPresentation n b else p, .pass)
  | .filling copy =>
    (if k = 0 ∧ ¬ completesOther (lanesAt copy 0) b then p.beginPresentation n b
      else p.captureWrite n copy k b, .pass)
  | .lookup snapshot written =>
    (if k = 0 then (p.abandon n).beginPresentation n b
      else p.withContext n
        (.lookup snapshot (written.set k (markLanes (written.getD k ⟨false, false⟩) b))), .pass)
  | .amended pr =>
    if k = 0 then ((p.abandon n).beginPresentation n b, .pass)
    else match pr.overlayWord k with
      | none => (p.withContext n (.amended (pr.noteWrite k b)), .pass)
      | some _ => (p.amendedWith n ((pr.noteWrite k b).dropWord k), pr.writeAnswer k b)
  | .settled pr =>
    if k = 0 then ((p.abandon n).beginPresentation n b, .pass)
    else match pr.overlayWord k with
      | none => (p.withContext n (.settled (pr.noteWrite k b)), .pass)
      | some _ => (p.withContext n (.settled ((pr.noteWrite k b).dropWord k)), pr.writeAnswer k b)

/-- R55, R60, R65: how a read of word `k` of window `n` is answered. -/
def Context.readAnswer (c : Context) (k : Nat) : ReadAnswer :=
  match c with
  | .empty => .pass
  | .filling _ => .pass
  | .lookup _ _ => .hold
  | .amended pr =>
    match pr.overlayWord k with
    | none => .pass
    | some o => if o.pending then .serve o.value else .pass
  | .settled _ => .pass

/-- R61, R62, R63: a read held for context `n` is released and answered as the context now stands. -/
def Part.answerHeldRead (p : Part) (n : Fin 4) : Part :=
  match p.path.cycle with
  | some ⟨w, .context m, .read l .hold⟩ =>
    if m = n then p.carryRead w l (.context m) ((p.context n).readAnswer (w.toNat % 32)) else p
  | _ => p

/-- R75, R77: a context reset: the presentation in hand abandoned, a held read released to memory. -/
def Part.resetContext (p : Part) (n : Fin 4) : Part := (p.abandon n).answerHeldRead n

/-- Every context reset, in order. -/
def Part.resetContexts (p : Part) : Part :=
  (((p.resetContext 0).resetContext 1).resetContext 2).resetContext 3

/-! ## Settle requests (R66, R158) -/

/-- The presentation whose overlay a context in AMENDED settles. -/
def Context.settling (c : Context) : Option Presentation :=
  match c with
  | .empty => none
  | .filling _ => none
  | .lookup _ _ => none
  | .amended pr => some pr
  | .settled _ => none

/-- Whether the settle write on the M-port is context `n`'s own. -/
def Part.settlingOwn (p : Part) (n : Fin 4) : Bool :=
  p.path.settleWrite.any fun w => w.owned && w.context == n

/-- R66: the settle request a context keeps standing: its lowest PENDING word, unless its own settle write is on
the M-port. -/
def Part.settleRequest (p : Part) (n : Fin 4) : Option OverlayWord :=
  if p.settlingOwn n then none
  else match (p.context n).settling with
    | none => none
    | some pr => pr.overlay.find? (·.pending)

/-! ## Confirmation (R72, R73) -/

/-- R72: the presentation of a context open to confirmation, with whether it is SETTLED. -/
def Context.openPresentation (c : Context) : Option (Presentation × Bool) :=
  let isOpen (pr : Presentation) : Bool :=
    !pr.confirmed && (match pr.await with | .stopped => false | .running _ => true | .expired => false)
  match c with
  | .empty => none
  | .filling _ => none
  | .lookup _ _ => none
  | .amended pr => if isOpen pr then some (pr, false) else none
  | .settled pr => if isOpen pr then some (pr, true) else none

/-- R72: whether a context is open to confirmation and carries a serial. -/
def Part.opensTo (p : Part) (serial : BitVec 64) (n : Fin 4) : Bool :=
  (p.context n).openPresentation.any fun x => imageSerial x.1.snapshot == serial

/-- R72: the matching context whose await timer started first. -/
def Part.matching (p : Part) (serial : BitVec 64) : Option (Fin 4) := p.awaitOrder.find? (p.opensTo serial)

/-- R129: the outcome a context holds is confirmed: it takes the sequence number and is ATTACHED, or UNREPORTED
where the record is unamendable (R114). -/
def Part.confirmOutcome (p : Part) (n : Fin 4) (amendable : Bool) : Part :=
  let q := p.queue.nextSequence
  (p.withOutcomes (p.queue.outcomes.map fun o =>
    if o.heldBy n then { o with state := if amendable then .attached q else .unreported q } else o)).takeSequence

/-- R73: the confirmation counted. -/
def Counters.confirmation (c : Counters) (d : Amending) : Counters :=
  match d with
  | .restore => { c with restoresConfirmed := raised c.restoresConfirmed }
  | .block => { c with blocksConfirmed := raised c.blocksConfirmed }
  | .blockOnly => { c with blocksConfirmed := raised c.blocksConfirmed }

/-- R73: a confirmation mark claimed for a RESTORE. -/
def Part.claimMarkFor (p : Part) (pr : Presentation) : Part :=
  match pr.decision with
  | .restore => p.claimMark ⟨pr.entry, imageSerial pr.snapshot, pr.action⟩
  | .block => p
  | .blockOnly => p

/-- R73: a presentation confirmed: Confirmed is yes and the await timer stops. -/
def Presentation.confirm (pr : Presentation) : Presentation := { pr with confirmed := true, await := .stopped }

/-- R73: the context of a confirmed presentation: EMPTY with its pin released in SETTLED, settling on in AMENDED. -/
def Part.afterConfirmation (p : Part) (n : Fin 4) (pr : Presentation) (isSettled : Bool) : Part :=
  if isSettled then (p.releasePin pr.entry).withContext n .empty
  else p.withContext n (.amended pr.confirm)

/-- R113: what the assembly keeps of a match. -/
def Part.matchOf (p : Part) (n : Fin 4) : TapMatch :=
  match p.outcomeHeld n with
  | none => .matchOnly
  | some o => .outcome o p.queue.nextSequence p.clock.state

/-- R72, R73, R113: a serial offered; the context that matches is confirmed. -/
def Part.offerSerial (p : Part) (serial : BitVec 64) (amendable : Bool) : Part × TapMatch :=
  if serial = 0 then (p, .noMatch)
  else match p.matching serial with
    | none => (p, .noMatch)
    | some n =>
      match (p.context n).openPresentation with
      | none => (p, .noMatch)
      | some (pr, isSettled) =>
        let answer := p.matchOf n
        let p1 := match answer with
          | .outcome _ _ _ => p.confirmOutcome n amendable
          | .matchOnly => p
          | .noMatch => p
          | .notAsked => p
        let p2 := (p1.count fun c => c.confirmation pr.decision).claimMarkFor pr
        (p2.afterConfirmation n pr isSettled, answer)

/-! ## The decision taken by a context (R61, R64, R98) -/

/-- R64: an amending decision taken: the overlay built, the await timer started, AMENDED or, with nothing to
settle, SETTLED. -/
def Part.takeAmending (p : Part) (n : Fin 4) (snapshot : List Word) (written : List Lanes) (d : Amending)
    (entry : Nat) (action : BitVec 32) (image : List Word) : Part :=
  let overlay := overlayOf snapshot image written
  let pr : Presentation :=
    { snapshot := snapshot, written := written, decision := d, entry := entry, action := action,
      overlay := overlay, confirmed := false, await := .running p.setup.policy.awaitLimit }
  let p1 := { p with
    store := p.store.pin entry
    awaitOrder := p.awaitOrder.filter (· != n) ++ [n] }
  p1.withContext n (if overlay.isEmpty then .settled pr else .amended pr)

/-- R138: whether an entry carries a set attention flag. -/
def Entry.flagged (e : Entry) : Bool :=
  match e.part with
  | .block attention => attention
  | .restore _ => false

/-- R98: an attention event handed to the monitor if the entry is flagged. -/
def Part.attentionIf (p : Part) (flagged : Bool) : Part := if flagged then p.attentionEvent else p

/-- R2, R99: the restore amount of an entry. -/
def Entry.amount (e : Entry) : BitVec 32 :=
  match e.part with
  | .block _ => 0
  | .restore r => r.amount

/-- R100: an OBSERVED outcome inserted with its sequence number, or one observed outcome dropped. -/
def Part.insertObserved (p : Part) (serial : BitVec 64) (e : Entry) (inserted : Bool) : Part :=
  let p1 := p.count fun c => { c with observed := raised c.observed }
  if inserted then
    (p1.enterOutcome ⟨.observed, serial, e.action, e.amount, e.passes.length, 0,
      .unreported p.queue.nextSequence⟩).takeSequence
  else p1.count fun c => { c with observedDropped := raised c.observedDropped }

/-- R18, R85: a LIVE RESTORE entry found already on the card becomes APPLIED with the current service day. The
decision arises only with the clock set. -/
def Part.applyFound (p : Part) (n : Nat) : Part :=
  match p.serviceDay with
  | none => p
  | some day => { p with store := p.store.update n fun e => e.become (.applied day) }

/-- R61, R98: the decision carried out, for an answering entry `entry` numbered `number`. -/
def Part.carryDecision (p : Part) (n : Fin 4) (snapshot : List Word) (written : List Lanes)
    (number : Nat) (entry : Entry) (d : Decision) : Part :=
  let serial := imageSerial snapshot
  let p := p.count Counters.presentation
  match d with
  | .none => p.withContext n .empty
  | .restore image placed dropped =>
    (p.enterOutcome ⟨.restored, serial, entry.action, entry.amount, placed, dropped, .reserved n⟩).takeAmending
      n snapshot written .restore number entry.action image
  | .block image cleared =>
    ((p.enterOutcome ⟨.captured, serial, entry.action, joinWords (wordAt snapshot 5) (wordAt snapshot 6),
      cleared, 0, .reserved n⟩).takeAmending n snapshot written .block number entry.action image).attentionIf
        entry.flagged
  | .blockOnly image =>
    (p.takeAmending n snapshot written .blockOnly number entry.action image).attentionIf entry.flagged
  | .skipApplied => p.withContext n .empty
  | .skipLive inserted => ((p.applyFound number).insertObserved serial entry inserted).withContext n .empty
  | .skipBlock => (p.attentionIf entry.flagged).withContext n .empty
  | .defer reason => (p.count fun c => c.deferral reason).withContext n .empty
  | .expired => { p with store := p.store.update number fun e => e.become .dead }.withContext n .empty

/-- The inputs of a decision at the lookup's completion (R79). -/
def Part.inputs (p : Part) (snapshot : List Word) : DecisionInputs :=
  ⟨snapshot, p.serviceDay, p.setup.policy.purseCeiling, p.freePlaces⟩

/-- R17, R18, R61: a lookup whose context still waits for it: the answer, the decision, and a held read answered. -/
def Part.decideLookup (p : Part) (n : Fin 4) (snapshot : List Word) (written : List Lanes) : Part :=
  let p1 := match p.store.lookup (imageSerial snapshot) with
    | none => (p.count Counters.presentation).withContext n .empty
    | some (number, e) =>
      p.carryDecision n snapshot written number e (decideFor (p.inputs snapshot) (some e))
  p1.answerHeldRead n

end Sys2Proof.Machine
end

