-- ==== Sys2Proof/Machine/Journal.lean ====
section
/-! DEFINITION. The journal watcher (05_the_journal.md) and the status report it asks of the outcome queue
(06_outcomes_counters_and_the_attention_line.md, section 6.2). -/

namespace Sys2Proof.Machine

/-! ## Keys (R107) -/

/-- R107: a key matches a kind byte that agrees with its value wherever its mask holds 0. -/
def JournalKey.matchesKind (k : JournalKey) (kind : Byte) : Bool := (kind ^^^ k.value) &&& ~~~k.mask == 0

/-- R107: the role of a kind byte: that of the first key that matches. -/
def roleOf (keys : Four JournalKey) (kind : Byte) : KeyRole :=
  if keys.c0.matchesKind kind then keys.c0.role
  else if keys.c1.matchesKind kind then keys.c1.role
  else if keys.c2.matchesKind kind then keys.c2.role
  else if keys.c3.matchesKind kind then keys.c3.role
  else .none

/-! ## The status report (R131 to R133) -/

/-- R131: the UNREPORTED outcome that stands oldest in the queue. -/
def Part.oldestUnreported (p : Part) : Option Outcome := p.queue.outcomes.find? (·.isUnreported)

/-- R131: the page. -/
def Part.choosePage (p : Part) : Page :=
  match p.previousPage, p.oldestUnreported with
  | .counters, some o => .outcome o
  | .counters, none => .counters p.counters
  | .outcome, _ => .counters p.counters

/-- R132: the report, each figure as it stands. -/
def Part.report (p : Part) : Report :=
  { page := p.choosePage
    supply := p.supply
    mode := p.setup.policy.mode
    fileNumber := p.fileNumber
    visible := p.store.visibleCount
    available := p.store.availableCount
    freePasses := p.store.freePasses
    unreported := (p.queue.outcomes.filter (·.isUnreported)).length
    reservedOrAttached := (p.queue.outcomes.filter fun o => !o.isUnreported).length
    seconds := p.clock.seconds
    clockState := p.clock.state
    locked := p.locked
    tableLost := p.tableLost
    setupIgnored := p.setupIgnored
    sweepRunning := p.sweep.isSome
    ordinal := p.queue.ordinal }

/-- R131, R134: a freeze clears the recorded-since-freeze marks. -/
def Counters.unmarked (c : Counters) : Counters := { c with refusalMark := false, deferralMark := false }

/-- R135: the counters reduced by those a COUNTERS page carried, and each unmarked last-reason field set to 0
(log 25). -/
def Counters.reducedBy (c page : Counters) : Counters :=
  { presentations := c.presentations - page.presentations
    restoresConfirmed := c.restoresConfirmed - page.restoresConfirmed
    blocksConfirmed := c.blocksConfirmed - page.blocksConfirmed
    observed := c.observed - page.observed
    deferrals := c.deferrals - page.deferrals
    unconfirmed := c.unconfirmed - page.unconfirmed
    holdExpiries := c.holdExpiries - page.holdExpiries
    filesCommitted := c.filesCommitted - page.filesCommitted
    filesRefused := c.filesRefused - page.filesRefused
    observedDropped := c.observedDropped - page.observedDropped
    lastRefusal := if c.refusalMark then c.lastRefusal else none
    lastDeferral := if c.deferralMark then c.lastDeferral else none
    refusalMark := c.refusalMark
    deferralMark := c.deferralMark }

/-- R135: what the page of a completed report does to the queue and the counters. -/
def Part.completePage (p : Part) (page : Page) : Part :=
  match page with
  | .outcome o => { p.withOutcomes (p.queue.outcomes.erase o) with previousPage := .outcome }
  | .counters c => { p.count (fun now => now.reducedBy c) with previousPage := .counters }

/-- R119, R135: a heartbeat completed with a closing check of WHOLE. -/
def Part.completeReport (p : Part) (r : Report) : Part :=
  let p1 := p.completePage r.page
  { p1 with
    queue := { p1.queue with ordinal := p1.queue.ordinal + 1 }
    tableLost := p1.tableLost && !r.tableLost
    setupIgnored := p1.setupIgnored && !r.setupIgnored }

/-! ## The assembly (R108 to R112) -/

/-- R109: bytes as they went to memory enter the record copy, and their lanes are marked. -/
def Assembly.enter (a : Assembly) (k : Nat) (b : LaneBytes) : Assembly :=
  { a with copy := a.copy.set k (overlaid (lanesAt a.copy k) b) }

/-- The outcome whose annex an amendable tap assembly carries, as its seven words (R113 to R115). -/
def AssemblyRole.annex (role : AssemblyRole) : Option (List Word) :=
  match role with
  | .tap _ (.outcome o sequence clock) false => Option.some (annexWords o sequence clock)
  | _ => Option.none

/-- R121: an assembly ceases to exist; an ATTACHED outcome becomes UNREPORTED, and a frozen report is discarded with
nothing else changed (R120). -/
def Part.abandonAssembly (p : Part) : Part :=
  match p.journal with
  | none => p
  | some a =>
    match a.role.annex with
    | some _ => { p.detachOutcome with journal := none }
    | none => { p with journal := none }

/-- R108, R117: the role of a completed word 0, with the report frozen for a heartbeat. -/
def Part.settleRole (p : Part) (kind : Byte) : Part × AssemblyRole :=
  match roleOf p.setup.keys kind with
  | .none => (p, .none)
  | .tap => (p, .tap false .notAsked false)
  | .heartbeat => (p.count Counters.unmarked, .heartbeat p.report)

/-- R108, R110: a write to word 0 entered in an assembly; one that completes it settles a PENDING role. -/
def Part.enterWordZero (p : Part) (a : Assembly) (b : LaneBytes) : Part :=
  let a' := a.enter 0 b
  match a.role, wholeWord (lanesAt a'.copy 0) with
  | .pending, some w =>
    let r := p.settleRole (highByte w)
    { r.1 with journal := some { a' with role := r.2 } }
  | _, _ => { p with journal := some a' }

/-- R110: a new assembly, the one before it abandoned. -/
def Part.beginAssembly (p : Part) (record : Nat) (b : LaneBytes) : Part :=
  p.abandonAssembly.enterWordZero ⟨record, .pending, blankCopy, none⟩ b

/-- R110: a write to word 0 of a record. -/
def Part.journalWordZero (p : Part) (record : Nat) (b : LaneBytes) : Part :=
  match p.journal with
  | none => p.beginAssembly record b
  | some a =>
    if a.record = record ∧ completesOther (lanesAt a.copy 0) b then p.enterWordZero a b
    else p.beginAssembly record b

/-- R116, R119: the closing check as it stands or, at the first write to word 31, as it is fixed. -/
def Assembly.closingCheck (a : Assembly) : ClosingCheck :=
  match a.closing with
  | some c => c
  | none =>
    if (List.range 31).all fun k => complete (lanesAt a.copy k)
    then .whole (crc16 (copyWords (a.copy.take 31))) else .broken

/-- R112: the assembly goes on, or ends where a write has completed its word 31. -/
def Part.withAssembly (p : Part) (a : Assembly) (ended : Part → Part) : Part :=
  if complete (lanesAt a.copy 31) then { ended p with journal := none } else { p with journal := some a }

/-- R116, R119: word 31 of a record whose words the part substitutes: substituted where WHOLE. `carried` is what a
WHOLE completion does and `broken` what a BROKEN one does. A write that repeats the one lane written is taken like the
first (log 50). -/
def Part.closingWrite (p : Part) (a : Assembly) (b : LaneBytes) (carried broken : Part → Part) :
    Part × WriteAnswer :=
  match a.closingCheck with
  | .whole c =>
    (p.withAssembly { a.enter 31 (inLanesOf b c) with closing := some (.whole c) } carried,
      .substitute (inLanesOf b c))
  | .broken => (p.withAssembly { a.enter 31 b with closing := some .broken } broken, .pass)

/-- A write that an assembly takes by passing it to memory as driven. -/
def Part.passedWrite (p : Part) (a : Assembly) (k : Nat) (b : LaneBytes) : Part × WriteAnswer :=
  (p.withAssembly (a.enter k b) id, .pass)

/-- A write whose lanes take the bytes of a word of the part's. -/
def Part.substitutedWrite (p : Part) (a : Assembly) (k : Nat) (b : LaneBytes) (w : Word) : Part × WriteAnswer :=
  (p.withAssembly (a.enter k (inLanesOf b w)) id, .substitute (inLanesOf b w))

/-- R113: the serial of a record copy, words 1 to 4. -/
def Assembly.serial (a : Assembly) : BitVec 64 :=
  let w (k : Nat) : Word := (wholeWord (lanesAt a.copy k)).getD 0
  joinSerial (w 1) (w 2) (w 3) (w 4)

/-- R113: whether a write to word 4 completes it with words 0 to 3 complete. -/
def Assembly.offers (a : Assembly) (b : LaneBytes) : Bool :=
  !complete (lanesAt a.copy 4) && complete (overlaid (lanesAt a.copy 4) b)
    && complete (lanesAt a.copy 0) && complete (lanesAt a.copy 1)
    && complete (lanesAt a.copy 2) && complete (lanesAt a.copy 3)

/-- R115, R116: the annex words that a write to words 24 to 30 of a tap record carries; none between the two lane writes
of word 31, where such a write passes. -/
def Assembly.annexDue (a : Assembly) : Option (List Word) :=
  match a.closing with
  | none => a.role.annex
  | some _ => none

/-- R113 to R116: a write to words 1 to 31 of a tap record. -/
def Part.tapWrite (p : Part) (a : Assembly) (offered : Bool) (answer : TapMatch) (early : Bool) (k : Nat)
    (b : LaneBytes) : Part × WriteAnswer :=
  if k = 4 ∧ a.offers b then
    let a' := a.enter 4 b
    let r := p.offerSerial a'.serial !early
    ({ r.1 with journal := some { a' with role := .tap true r.2 early } }, .pass)
  else if 24 ≤ k ∧ k ≤ 30 then
    match a.annexDue with
    | some words => p.substitutedWrite a k b (wordAt words (k - 24))
    | none => p.passedWrite { a with role := .tap offered answer (early || !offered) } k b
  else if k = 31 then
    match a.role.annex with
    | some _ => p.closingWrite a b Part.removeAttached Part.detachOutcome
    | none => p.passedWrite { a with closing := some a.closingCheck } 31 b
  else p.passedWrite a k b

/-- R118, R119: a write to words 1 to 31 of a heartbeat record; words 8 to 30 are substituted as long as it
lasts (log 41). -/
def Part.heartbeatWrite (p : Part) (a : Assembly) (r : Report) (k : Nat) (b : LaneBytes) : Part × WriteAnswer :=
  if k < 8 then p.passedWrite a k b
  else if k ≤ 30 then p.substitutedWrite a k b (wordAt r.words (k - 8))
  else p.closingWrite a b (fun q => q.completeReport r) id

/-- R108, R111: a write to words 1 to 31 of the record in hand. -/
def Part.recordWrite (p : Part) (a : Assembly) (k : Nat) (b : LaneBytes) : Part × WriteAnswer :=
  match a.role with
  | .pending => p.passedWrite { a with role := .none } k b
  | .none => p.passedWrite a k b
  | .tap offered answer early => p.tapWrite a offered answer early k b
  | .heartbeat r => p.heartbeatWrite a r k b

/-- R106, R110, R111: a write to word `k` of a record of the watched journal window. -/
def Part.journalWrite (p : Part) (record k : Nat) (b : LaneBytes) : Part × WriteAnswer :=
  if k = 0 then (p.journalWordZero record b, .pass)
  else match p.journal with
    | none => (p, .pass)
    | some a => if a.record = record then p.recordWrite a k b else (p, .pass)

end Sys2Proof.Machine
end

