-- ==== Sys2Proof/Machine/Arbiter.lean ====
section
/-! DEFINITION. The completions of the table arbiter's operations (01_the_action_table.md, sections 1.6 and 1.7),
with what a commit does to the other blocks (R46 to R49), and the taking of a pin release (R12). A completion of an
operation that is not in progress is no event (log 2). -/

namespace Sys2Proof.Machine

/-! ## Setup at a commit (R48, R49) -/

/-- R48: the last SETUP-WINDOWS record of a file. -/
def lastWindows : List PendingEffect → Option Windows
  | [] => none
  | .windows w :: rest => (lastWindows rest).orElse fun _ => some w
  | .cancel _ _ :: rest => lastWindows rest
  | .policy _ _ :: rest => lastWindows rest
  | .keys _ :: rest => lastWindows rest
  | .clock _ :: rest => lastWindows rest
  | .sweep :: rest => lastWindows rest

/-- R48: the last SETUP-POLICY record of a file, with its lock request. -/
def lastPolicy : List PendingEffect → Option (Policy × Bool)
  | [] => none
  | .policy y l :: rest => (lastPolicy rest).orElse fun _ => some (y, l)
  | .cancel _ _ :: rest => lastPolicy rest
  | .windows _ :: rest => lastPolicy rest
  | .keys _ :: rest => lastPolicy rest
  | .clock _ :: rest => lastPolicy rest
  | .sweep :: rest => lastPolicy rest

/-- R48: the file's SETUP-POLICY asks for the lock. -/
def asksLock (effects : List PendingEffect) : Bool :=
  match lastPolicy effects with
  | none => false
  | some (_, lock) => lock

/-- R48: the last SETUP-KEYS record of a file. -/
def lastKeys : List PendingEffect → Option (Four JournalKey)
  | [] => none
  | .keys k :: rest => (lastKeys rest).orElse fun _ => some k
  | .cancel _ _ :: rest => lastKeys rest
  | .windows _ :: rest => lastKeys rest
  | .policy _ _ :: rest => lastKeys rest
  | .clock _ :: rest => lastKeys rest
  | .sweep :: rest => lastKeys rest

/-- R42: the last CLOCK record of a file. -/
def lastClock : List PendingEffect → Option (BitVec 32)
  | [] => none
  | .clock t :: rest => (lastClock rest).orElse fun _ => some t
  | .cancel _ _ :: rest => lastClock rest
  | .windows _ :: rest => lastClock rest
  | .policy _ _ :: rest => lastClock rest
  | .keys _ :: rest => lastClock rest
  | .sweep :: rest => lastClock rest

/-- A SWEEP record. -/
def PendingEffect.isSweep (e : PendingEffect) : Bool :=
  match e with
  | .sweep => true
  | .cancel _ _ => false
  | .windows _ => false
  | .policy _ _ => false
  | .keys _ => false
  | .clock _ => false

/-- A setup record. -/
def PendingEffect.isSetup (e : PendingEffect) : Bool :=
  match e with
  | .windows _ => true
  | .policy _ _ => true
  | .keys _ => true
  | .cancel _ _ => false
  | .clock _ => false
  | .sweep => false

/-- R48: the setup with each part that the file carries replaced whole. -/
def Setup.applied (y : Setup) (effects : List PendingEffect) : Setup :=
  { windows := (lastWindows effects).getD y.windows
    policy := ((lastPolicy effects).map (·.1)).getD y.policy
    keys := (lastKeys effects).getD y.keys }

/-- R49, R75: a context whose window is moved or disabled, or any under BYPASS, is reset. -/
def Part.followWindow (p : Part) (old : Setup) (n : Fin 4) : Part :=
  if p.setup.policy.mode = .bypass ∨ fourAt p.setup.windows.image n ≠ fourAt old.windows.image n
  then p.resetContext n else p

/-- R49, R122: an assembly is abandoned where the journal window changes or the mode is BYPASS. -/
def Part.followJournal (p : Part) (old : Setup) : Part :=
  if p.setup.policy.mode = .bypass ∨ p.setup.windows.journal ≠ old.windows.journal
  then p.abandonAssembly else p

/-- R49, R145: a clock word moved or disabled discards the values of the old one. -/
def Part.followClockWord (p : Part) (old : Setup) : Part :=
  if p.setup.windows.clockWord ≠ old.windows.clockWord then { p with follow := Follow.empty } else p

/-- R141: a changed attention mode clears the marks. -/
def Monitor.unmarked (m : Monitor) : Monitor :=
  { m with mark0 := false, mark1 := false, mark2 := false, mark3 := false }

/-- R49, R141: the attention monitor follows the attention mode. -/
def Part.followAttention (p : Part) (old : Setup) : Part :=
  let p1 :=
    if p.setup.policy.attentionMode ≠ old.policy.attentionMode then { p with monitor := p.monitor.unmarked } else p
  if p.setup.policy.attentionMode = .off then p1.releaseAttention else p1

/-- R49: the setup's effects on the other blocks. -/
def Part.followSetup (p : Part) (old : Setup) : Part :=
  ((((((p.followWindow old 0).followWindow old 1).followWindow old 2).followWindow old 3).followJournal
    old).followClockWord old).followAttention old

/-- R48: the file's setup records applied, or ignored under the lock. -/
def Part.applySetup (p : Part) (effects : List PendingEffect) : Part :=
  if effects.any (·.isSetup) then
    if p.locked then { p with setupIgnored := true }
    else
      ({ p with
        setup := p.setup.applied effects
        locked := asksLock effects
        setupFault := 0 }).followSetup p.setup
  else p

/-- R46, R147: the file's CLOCK record offered. -/
def Part.commitClock (p : Part) (effects : List PendingEffect) : Part :=
  match lastClock effects with
  | none => p
  | some t => p.offerClock t

/-- R46, R150: the file's SWEEP records as one trigger. -/
def Part.commitSweep (p : Part) (effects : List PendingEffect) : Part :=
  if effects.any (·.isSweep) then p.triggerSweep else p

/-- R46, steps 1 to 5, with the table changes of R15. -/
def Part.commitEffects (p : Part) (c : CommitPayload) : Part :=
  let p1 := (({ p with store := p.store.commit c }.applySetup c.effects).commitClock c.effects).commitSweep c.effects
  ({ p1 with fileNumber := c.number, fileNumberFault := 0 }).count
    fun k => { k with filesCommitted := raised k.filesCommitted }

/-! ## Completions -/

/-- R17, R18: a lookup completes: decided if its context still waits for it, or its answer discarded. -/
def Part.completeLookup (p : Part) : Part :=
  match p.arbiter.op with
  | some (.lookup n _ wanted) =>
    let p1 := p.tableFree
    (match wanted, p.context n with
      | true, .lookup snapshot written => p1.decideLookup n snapshot written
      | _, _ => p1).grant
  | _ => p

/-- R16: a confirmation mark completes, with the service day of its grant; a free one if none was to be had
(log 28). -/
def Part.completeMark (p : Part) : Part :=
  match p.arbiter.op with
  | some (.mark m (some day)) => ({ p with store := p.store.mark m day }).tableFree.grant
  | some (.mark m none) =>
    ({ p with store := p.store.mark m (Config.dayOfUnsetClock p.draws % 65536), draws := p.draws + 1 }).tableFree.grant
  | _ => p

/-- R13, R39: a stage-entry completes. -/
def Part.completeStageEntry (p : Part) : Part :=
  match p.arbiter.op with
  | some (.intake (.stageEntry e number)) =>
    (match p.store.stageEntry e number with
      | none => p.tableFree.intakeAnswered fun q => q.refuse .tableFull
      | some (st, n) => ({ p with store := st }).tableFree.intakeAnswered fun q => q.entryStaged e n).grant
  | _ => p

/-- R11, R40: a stage-pass completes. -/
def Part.completeStagePass (p : Part) : Part :=
  match p.arbiter.op with
  | some (.intake (.stagePass entry q)) =>
    (match p.store.stagePass entry q with
      | none => p.tableFree.intakeAnswered fun r => r.refuse .poolFull
      | some st => ({ p with store := st }).tableFree.intakeAnswered Part.passStaged).grant
  | _ => p

/-- R15, R46: a commit completes and the file takes effect. -/
def Part.completeCommit (p : Part) : Part :=
  match p.arbiter.op with
  | some (.intake (.commit c)) => ((p.tableFree.commitEffects c).intakeAnswered Part.fileCommitted).grant
  | _ => p

/-- R14: a discard completes. -/
def Part.completeDiscard (p : Part) : Part :=
  match p.arbiter.op with
  | some (.intake .discard) => ((({ p with store := p.store.discard }).tableFree).intakeAnswered id).grant
  | _ => p

/-- R153: a sweep step completes. -/
def Part.completeSweepStep (p : Part) : Part :=
  match p.arbiter.op with
  | some .sweep => p.tableFree.sweepEntry.grant
  | _ => p

/-- R12: a release of an entry reference, the oldest, taken between two operations (log 15). -/
def Part.takeRelease (p : Part) : Part :=
  match p.arbiter.op, p.arbiter.releases with
  | none, n :: rest =>
    ({ p with store := p.store.unpin n, arbiter := { p.arbiter with releases := rest } }).grant
  | _, _ => p

/-! ## The commands -/

/-- LOOKUP (R17). -/
def execLookup (s : State) : Host.Outcome State Fault Refusal := s.act Part.completeLookup

/-- CONFIRMATION_MARK (R16). -/
def execConfirmationMark (s : State) : Host.Outcome State Fault Refusal := s.act Part.completeMark

/-- STAGE_ENTRY (R13). -/
def execStageEntry (s : State) : Host.Outcome State Fault Refusal := s.act Part.completeStageEntry

/-- STAGE_PASS (R11). -/
def execStagePass (s : State) : Host.Outcome State Fault Refusal := s.act Part.completeStagePass

/-- COMMIT (R15). -/
def execCommit (s : State) : Host.Outcome State Fault Refusal := s.act Part.completeCommit

/-- DISCARD (R14). -/
def execDiscard (s : State) : Host.Outcome State Fault Refusal := s.act Part.completeDiscard

/-- SWEEP_STEP (R153). -/
def execSweepStep (s : State) : Host.Outcome State Fault Refusal := s.act Part.completeSweepStep

/-- PIN_RELEASE (R12). -/
def execPinRelease (s : State) : Host.Outcome State Fault Refusal := s.act Part.takeRelease

end Sys2Proof.Machine
end

