-- ==== Sys2Proof/Machine/ColdStart.lean ====
section
/-! DEFINITION. Cold initialisation (09_supply_retention_and_start_up.md, section 9.3): the operation that the supply
controller carries out before the state it leads to is entered, and how a supply event cuts it (log 44). -/

namespace Sys2Proof.Machine

/-- The retained domain at the values of R177. -/
def Part.coldRetained (p : Part) : Part :=
  { p with
    store := Store.cold
    fileNumber := 0
    fileNumberFault := 0
    setup := Setup.cold
    locked := false
    setupFault := 0
    queue := OutcomeQueue.cold
    clock := DayClock.cold }

/-- R177: what cold initialisation comes to, keep-valid last. The crystal's count starts with it (log 18). -/
def Part.coldInit (p : Part) : Part :=
  { p.coldRetained with keepValid := some true, crystal := 0, initialising := none }

/-- R174, R175: the retained domain lost with the last supply. What stands for it is log 7's; the
memory behind the part stands as it is (log 51). -/
def Part.enterOff (p : Part) : Part :=
  { p.coldRetained with supply := .off, keepValid := none, initialising := none }

/-- R159, R178: the entry to LOCKOUT. -/
def Part.enterLockout (p : Part) (straps : BitVec 10) : Part :=
  { p with
    supply := .lockout
    lockoutTimer := true
    path := MemoryPath.quiet (some (fileWindowOf straps)) }

/-- R177: cold initialisation begins; the supply state is still the one it is to leave. -/
def Part.beginCold (p : Part) (c : ColdInit) : Part := { p with initialising := some c }

/-- R177: cold initialisation completes, and the state it leads to is entered. -/
def Part.completeCold (p : Part) : ColdInit → Part
  | .atVkeep => { p.coldInit with supply := .keep }
  | .atVmain straps => p.coldInit.enterLockout straps

/-- R177: a cold initialisation in progress, which there is only in OFF and KEEP, completes. -/
def Part.finishCold (p : Part) : Part :=
  if p.supply = .off ∨ p.supply = .keep then
    match p.initialising with
    | none => p
    | some c => p.completeCold c
  else p

/-- R177: main supply falls and cuts the cold initialisation it feeds: KEEP with keep-valid false, or OFF.
The memory behind the part stands as it is (log 51). -/
def Part.cutCold (p : Part) : Part :=
  if p.vkeep = .good then { p with supply := .keep, keepValid := some false, initialising := none } else p.enterOff

/-- A command that only a part past its cold initialisation can meet: one in progress completes first (log 44). -/
def State.actInitialised (s : State) (f : Part → Part) : Host.Outcome State Fault Refusal :=
  s.act fun p => f p.finishCold

end Sys2Proof.Machine
end

