-- ==== Sys2Proof/Machine/Path.lean ====
section
/-! DEFINITION. The memory path (08_the_memory_path.md): decode, the taking of a cycle, settle writes; and the
commands that are processor cycles or settle writes. -/

namespace Sys2Proof.Machine

/-! ## Decode (R160, R161) -/

/-- Where a cycle's word lies. -/
inductive Region where
  | outside
  | file (word : Nat)
  | image (n : Fin 4) (word : Nat)
  | journal (record word : Nat)
  | clock (second : Bool)
deriving DecidableEq, Repr

/-- R160: the image window of a word: at most one, by R44. -/
def Setup.imageRegion (y : Setup) (a : BitVec 23) : Option Region :=
  let window (n : Fin 4) : Option Region :=
    (fourAt y.windows.image n).bind fun base => (imageWordOf base a).map (Region.image n)
  (window 0).orElse fun _ => (window 1).orElse fun _ => (window 2).orElse fun _ => window 3

/-- R160: the regions that a committed setup decodes, with their conditions on the mode. -/
def Setup.region (y : Setup) (a : BitVec 23) : Region :=
  let amended : Option Region :=
    match y.policy.mode with
    | .bypass => none
    | .active =>
      (y.imageRegion a).orElse fun _ =>
        y.windows.journal.bind fun j => (j.wordOf a).map fun x => Region.journal x.1 x.2
  let clock := y.windows.clockWord.bind fun w => (clockWordOf w a).map Region.clock
  (amended.orElse fun _ => clock).getD .outside

/-- R160, R161: the region of a word; the file window comes first, and outside RUN nothing is decoded. -/
def Part.region (p : Part) (a : BitVec 23) : Region :=
  if p.supply = .run then
    match p.path.fileWindow.bind fun f => f.wordOf a with
    | some k => .file k
    | none => p.setup.region a
  else .outside

/-! ## Taking a cycle (R157, R160, R162) -/

/-- R160, R162: a read taken. -/
def Part.takeRead (p : Part) (a : BitVec 23) (l : Lanes) : Part :=
  match p.region a with
  | .image n k => p.carryRead a l (.context n) ((p.context n).readAnswer k)
  | .outside => p.carryRead a l .none .pass
  | .file _ => p.carryRead a l .none .pass
  | .journal _ _ => p.carryRead a l .none .pass
  | .clock _ => p.carryRead a l .none .pass

/-- R160, R162: a write taken: copied or handed to its block, and carried out as the block answers. -/
def Part.takeWrite (p : Part) (a : BitVec 23) (b : LaneBytes) : Part :=
  match p.region a with
  | .outside => p.carryWrite a b .none .pass
  | .file k =>
    let p1 := p.fileWrite k b
    p1.carryWrite a b .fileIntake (if p1.intake.held.isSome then .hold else .pass)
  | .image n k =>
    let r := p.contextWrite n k b
    r.1.carryWrite a b (.context n) r.2
  | .journal record k =>
    let r := p.journalWrite record k b
    r.1.carryWrite a b .journalWatcher r.2
  | .clock second => (p.clockWrite second b).carryWrite a b .dayClock .pass

/-- R157: a cycle taken. One with neither lane passes and is handed to no block (log 39). -/
def Part.takeCycle (p : Part) (a : BitVec 23) (access : Access) : Part :=
  match access, anyLane access with
  | .read l, true => p.takeRead a l
  | .read l, false => p.carryRead a l .none .pass
  | .write b, true => p.takeWrite a b
  | .write b, false => p.carryWrite a b .none .pass

/-- Whether the processor can make a cycle: the P-port is supplied and none is in progress or waiting (log 3). -/
def Part.accepts (p : Part) : Bool :=
  p.supply != .off && p.supply != .keep && p.path.cycle.isNone && p.path.waiting.isNone

/-- R157, R169: a cycle arrives: taken, or made to wait for the settle write on the M-port, a cycle with neither lane
selected like any other (log 39). -/
def Part.arrive (p : Part) (a : BitVec 23) (access : Access) : Part :=
  if p.accepts then
    match p.path.settleWrite with
    | some _ => { p with path := { p.path with waiting := some (a, access) } }
    | none => (p.takeCycle a access).grant
  else p

/-- R157: the processor's cycle ends. A held cycle keeps the processor waiting. -/
def Part.endCycle (p : Part) : Part :=
  match p.path.hold with
  | some _ => p
  | none => { p with path := { p.path with cycle := none, pd := noBytes } }

/-! ## Settle writes (R66, R167 to R169) -/

/-- R168: the order of turns after a context. -/
def turnsAfter (n : Fin 4) : List (Fin 4) := [n + 1, n + 2, n + 3, n]

/-- The settle write that a context's standing request comes to. -/
def Part.settleFor (p : Part) (n : Fin 4) : Option SettleWrite :=
  match p.settleRequest n, fourAt p.setup.windows.image n with
  | some o, some base => some ⟨n, o.word, imageAddress base o.word, o.value, true⟩
  | _, _ => none

/-- R168: the settle write granted next. -/
def Part.nextSettle (p : Part) : Option SettleWrite := (turnsAfter p.path.lastGranted).findSome? p.settleFor

/-- R167: the M-port is free for a settle write: in RUN, the processor idle and none in progress. -/
def Part.mayPortSettle (p : Part) : Bool :=
  p.supply == .run && p.path.cycle.isNone && p.path.waiting.isNone && p.path.settleWrite.isNone

/-- R167, R168: a settle write begins. -/
def Part.startSettle (p : Part) : Part :=
  if p.mayPortSettle then
    match p.nextSettle with
    | none => p
    | some w => { p with path := { p.path with settleWrite := some w, lastGranted := w.context } }
  else p

/-- R66: the settled word is WRITTEN, where its context still holds the presentation. -/
def Part.noteSettled (p : Part) (w : SettleWrite) : Part :=
  match w.owned, p.context w.context with
  | true, .amended pr => p.amendedWith w.context (pr.markWritten w.word)
  | _, _ => p

/-- R169: a cycle that waited for the settle write is taken. -/
def Part.takeWaiting (p : Part) : Part :=
  match p.path.waiting with
  | none => p
  | some (a, access) => ({ p with path := { p.path with waiting := none } }).takeCycle a access

/-- R66, R169: a settle write completes. -/
def Part.completeSettle (p : Part) : Part :=
  match p.path.settleWrite with
  | none => p
  | some w =>
    let p1 := p.writeMemory w.address (bytesOf w.value)
    ((({ p1 with path := { p1.path with settleWrite := none } }).noteSettled w).takeWaiting).grant

/-! ## The commands -/

/-- FILE_WINDOW_WRITE (R32). The part decodes the address itself (log 1). -/
def execFileWindowWrite (a : BitVec 23) (b : LaneBytes) (s : State) : Host.Outcome State Fault Refusal :=
  s.actInitialised fun p => p.arrive a (.write b)

/-- IMAGE_WINDOW_WRITE (R55). -/
def execImageWindowWrite (a : BitVec 23) (b : LaneBytes) (s : State) : Host.Outcome State Fault Refusal :=
  s.actInitialised fun p => p.arrive a (.write b)

/-- IMAGE_WINDOW_READ (R55). -/
def execImageWindowRead (a : BitVec 23) (l : Lanes) (s : State) : Host.Outcome State Fault Refusal :=
  s.actInitialised fun p => p.arrive a (.read l)

/-- JOURNAL_WRITE (R106). -/
def execJournalWrite (a : BitVec 23) (b : LaneBytes) (s : State) : Host.Outcome State Fault Refusal :=
  s.actInitialised fun p => p.arrive a (.write b)

/-- CLOCK_WORD_WRITE (R145). -/
def execClockWordWrite (a : BitVec 23) (b : LaneBytes) (s : State) : Host.Outcome State Fault Refusal :=
  s.actInitialised fun p => p.arrive a (.write b)

/-- PASS_THROUGH_CYCLE (R162). -/
def execPassThroughCycle (a : BitVec 23) (access : Access) (s : State) : Host.Outcome State Fault Refusal :=
  s.actInitialised fun p => p.arrive a access

/-- PROCESSOR_CYCLE_END (R157). -/
def execProcessorCycleEnd (s : State) : Host.Outcome State Fault Refusal := s.act Part.endCycle

/-- SETTLE_WRITE_START (R167). -/
def execSettleWriteStart (s : State) : Host.Outcome State Fault Refusal := s.act Part.startSettle

/-- SETTLE_WRITE_COMPLETE (R66). -/
def execSettleWriteComplete (s : State) : Host.Outcome State Fault Refusal := s.act Part.completeSettle

end Sys2Proof.Machine
end

