-- ==== Sys2Proof/Machine/Supply.lean ====
section
/-! DEFINITION. The supply controller (09_supply_retention_and_start_up.md): the supplies, lockout, the verification walk, the entry to RUN, falls of main supply, RESET_N; and their commands. -/

namespace Sys2Proof.Machine

/-! ## Main supply (R174, R184) -/

/-- R183, R184: every volatile item of every block but the memory path and the supply controller, as the entry to
RUN has it. -/
def Part.volatileInit (p : Part) : Part :=
  { p with
    arbiter := Arbiter.idle
    tableLost := false
    intake := Intake.draining
    setupIgnored := false
    contexts := ⟨.empty, .empty, .empty, .empty⟩
    awaitOrder := []
    journal := none
    counters := Counters.zero
    previousPage := .counters
    monitor := Monitor.released
    follow := Follow.empty
    sweep := none }

/-- R174, R177: VMAIN good where no cold initialisation is in progress: LOCKOUT, or the cold initialisation before it. -/
def Part.mainGoodNow (p : Part) (straps : BitVec 10) : Part :=
  match p.supply with
  | .off => p.beginCold (.atVmain straps)
  | .keep => if p.keepValid = some true then p.enterLockout straps else p.beginCold (.atVmain straps)
  | .lockout => p
  | .verify => p
  | .run => p

/-- R174: VMAIN good, which there is not where main supply already feeds a cold initialisation. -/
def Part.mainGood (p : Part) (straps : BitVec 10) : Part :=
  match p.initialising with
  | some (.atVmain _) => p
  | some .atVkeep => p.finishCold.mainGoodNow straps
  | none => p.mainGoodNow straps

/-- R78, R172: a settle write on the M-port at a fall may or may not reach memory. -/
def Part.cutSettle (p : Part) : Part :=
  match p.path.settleWrite with
  | none => p
  | some w =>
    let p1 := if Config.cutSettleWriteLands p.draws then p.writeMemory w.address (bytesOf w.value) else p
    { p1 with draws := p1.draws + 1 }

/-- The memory behind the part over a fall: what the backup cell keeps (log 5). -/
def Part.fadeMemory (p : Part) : Part :=
  { p with
    memory := p.memory.filter fun c => Config.memoryKept p.memoryEpoch c.1
    memoryEpoch := p.memoryEpoch + 1 }

/-- R184: main supply gone: every volatile item lost (the operation in progress and its changes, R22; intake, R52; the
journal assembly, R124; the sweep, R155), KEEP if VKEEP is good, or else OFF. -/
def Part.mainLost (p : Part) : Part :=
  let p1 := p.cutSettle.fadeMemory.volatileInit
  let p2 := { p1 with initialising := none, lockoutTimer := false, walk := none, path := MemoryPath.quiet none }
  if p2.vkeep = .good then { p2 with supply := .keep } else p2.enterOff

/-- R177, R184: a fall of main supply in OFF or KEEP, which there is only where it feeds a cold initialisation. -/
def Part.fallUnsupplied (p : Part) : Part :=
  match p.initialising with
  | some (.atVmain _) => p.cutCold
  | some .atVkeep => p
  | none => p

/-- R184: a fall of main supply. -/
def Part.mainFall (p : Part) : Part :=
  match p.supply with
  | .off => p.fallUnsupplied
  | .keep => p.fallUnsupplied
  | .lockout => p.mainLost
  | .verify => p.mainLost
  | .run => p.mainLost

/-! ## The backup supply (R174, R176) -/

/-- R174: VKEEP good; in OFF with main supply absent, cold initialisation begins. -/
def Part.keepGood (p : Part) : Part :=
  let p1 := { p with vkeep := .good }
  if p.supply = .off ∧ p.initialising = none then p1.beginCold .atVkeep else p1

/-- R176: VKEEP low; in KEEP with main supply absent, keep-valid becomes false. A cold initialisation at VKEEP good has
completed by then. -/
def Part.keepLow (p : Part) : Part :=
  let q := if p.initialising = some .atVkeep then p.finishCold else p
  let p1 := { q with vkeep := .low }
  if q.supply = .keep ∧ q.initialising = none then { p1 with keepValid := some false } else p1

/-- R174, R177: VKEEP lost, in KEEP with main supply absent or in a cold initialisation in OFF that it feeds. The
memory behind the part stands as it is (log 51). -/
def Part.keepLost (p : Part) : Part :=
  let p1 := { p with vkeep := .lost }
  if p.supply = .keep ∧ p.initialising = none ∨ p.supply = .off ∧ p.initialising = some .atVkeep then p1.enterOff
  else p1

/-! ## The verification walk (R179 to R182) -/

/-- R178: the lockout timer runs out. -/
def Part.lockoutEnds (p : Part) : Part :=
  if p.supply = .lockout then
    { p with supply := .verify, lockoutTimer := false, walk := some ⟨.entry 0, false⟩ }
  else p

/-- The walk as it stands. -/
def Part.walkNow (p : Part) : Walk := p.walk.getD ⟨.entry 0, false⟩

/-- The walk at a stage. -/
def Part.walkAt (p : Part) (stage : WalkStage) (failed : Bool) : Part := { p with walk := some ⟨stage, failed⟩ }

/-- R26: whether the check of entry `n` fails. -/
def Store.entryCheckFailsAt (st : Store) (n : Nat) : Bool := st.table.any fun x => x.1 == n && !x.2.checkHolds

/-- R181: stage 4. -/
def Part.verifySetup (p : Part) : Part :=
  if p.setupCheckHolds then p else { p with setup := Setup.cold, locked := false, setupFault := 0 }

/-- R181: the outcomes that stage 5 leaves, each with its place. -/
def verifiedOutcomes (l : List Outcome) : List Outcome := (l.filter fun o => !o.isReserved).map Outcome.detached

/-- R181: one outcome of stage 5; the place the walk goes on at. -/
def Part.verifyOutcome (p : Part) (n : Nat) (o : Outcome) : Part × Nat :=
  if o.isReserved then (p.withOutcomes (p.queue.outcomes.eraseIdx n), n)
  else (p.withOutcomes (p.queue.outcomes.set n o.detached), n + 1)

/-- R180: the table declared lost: the committed file number 0, the flag set. -/
def Part.declareLost (p : Part) : Part := { p with fileNumber := 0, fileNumberFault := 0, tableLost := true }

/-- R179, R180: the stages done: the rebuild is next where one of them found a failure. -/
def Part.afterStages (p : Part) (failed : Bool) : Part :=
  if failed then p.walkAt (.rebuild 0) true else p.walkAt .done false

/-- R180: one step of a rebuild; the first carries the declaration of loss with it (log 20). -/
def Part.rebuildStep (p : Part) (n : Nat) (failed : Bool) : Part :=
  let q := if n = 0 then p.declareLost else p
  if n + 1 < Config.tableSize then { q with store := q.store.rebuildEntry n }.walkAt (.rebuild (n + 1)) failed
  else { q with store := Store.cold }.walkAt .done failed

/-- R179: one step of the walk (log 20). -/
def Part.walkStep (p : Part) : Part :=
  let w := p.walkNow
  match w.stage with
  | .entry n =>
    if n < Config.tableSize then
      { p with store := p.store.verifyEntry n }.walkAt
        (if n + 1 < Config.tableSize then .entry (n + 1) else .structureCheck)
        (w.failed || p.store.entryCheckFailsAt n)
    else p.walkAt .structureCheck w.failed
  | .structureCheck => p.walkAt .fileNumber (w.failed || !p.store.structureCheckHolds)
  | .fileNumber => p.walkAt .setup (w.failed || !p.fileNumberCheckHolds)
  | .setup => p.verifySetup.walkAt .queueCheck w.failed
  | .queueCheck =>
    if p.queue.checkHolds then p.walkAt (.queueItem 0) w.failed else (p.withOutcomes []).afterStages w.failed
  | .queueItem n =>
    match p.queue.outcomes[n]? with
    | none => p.afterStages w.failed
    | some o => (p.verifyOutcome n o).1.walkAt (.queueItem (p.verifyOutcome n o).2) w.failed
  | .rebuild n => p.rebuildStep n w.failed
  | .done => p.walkAt .done w.failed

/-- The rest of the walk from the declaration on. -/
def Part.finishDeclare (p : Part) (failed : Bool) : Part :=
  if failed then { p.declareLost with store := Store.cold }.walkAt .done true else p.walkAt .done false

/-- The rest of the walk from an outcome on. -/
def Part.finishQueueItem (p : Part) (n : Nat) (failed : Bool) : Part :=
  (if n < p.queue.outcomes.length then
    p.withOutcomes (p.queue.outcomes.take n ++ verifiedOutcomes (p.queue.outcomes.drop n)) else p).finishDeclare failed

/-- The rest of the walk from stage 5 on. -/
def Part.finishQueue (p : Part) (failed : Bool) : Part :=
  if p.queue.checkHolds then p.finishQueueItem 0 failed else (p.withOutcomes []).finishDeclare failed

/-- The rest of the walk from stage 3 on. -/
def Part.finishFileNumber (p : Part) (failed : Bool) : Part :=
  p.verifySetup.finishQueue (failed || !p.fileNumberCheckHolds)

/-- The rest of the walk from stage 2 on. -/
def Part.finishStructure (p : Part) (failed : Bool) : Part :=
  p.finishFileNumber (failed || !p.store.structureCheckHolds)

/-- R179: the rest of the walk, whole: what the steps left to make come to. -/
def Part.finishWalk (p : Part) : Part :=
  let w := p.walkNow
  match w.stage with
  | .entry n =>
    { p with store := p.store.verifyFrom n }.finishStructure (w.failed || p.store.entryCheckFails n)
  | .structureCheck => p.finishStructure w.failed
  | .fileNumber => p.finishFileNumber w.failed
  | .setup => p.verifySetup.finishQueue w.failed
  | .queueCheck => p.finishQueue w.failed
  | .queueItem n => p.finishQueueItem n w.failed
  | .rebuild _ => p.finishDeclare true
  | .done => p.walkAt .done w.failed

/-! ## The entry to RUN (R183) -/

/-- R183: every block takes its entry values together; the table-lost flag as the walk found; an owed sweep starts.
The file window and what stands on P_D stay (log 42); the M-port carries nothing more of a cycle begun in VERIFY
(log 49). -/
def Part.enterRun (p : Part) : Part :=
  let p1 := p.volatileInit
  let p2 := { p1 with
    supply := .run
    walk := none
    tableLost := p.walkNow.failed
    path := { MemoryPath.quiet p.path.fileWindow with pd := p.path.pd } }
  p2.owedTrigger.grant

/-- R179, R183: the walk completes and the part enters RUN. -/
def Part.completeWalk (p : Part) : Part := if p.supply = .verify then p.finishWalk.enterRun else p

/-! ## RESET_N (R185) -/

/-- R171: the settle write on the M-port completes (log 21). -/
def Part.landSettle (p : Part) : Part :=
  match p.path.settleWrite with
  | none => p
  | some w => p.writeMemory w.address (bytesOf w.value)

/-- R171: the memory path at RESET_N; a cycle that waits for the settle write stays to be taken. What stands on P_D stays
(log 21); the M-port carries nothing more of a cycle that was in progress (log 49). -/
def Part.resetPath (p : Part) (straps : BitVec 10) : Part :=
  { p with path := { MemoryPath.quiet (some (fileWindowOf straps)) with
      waiting := p.path.waiting, pd := p.path.pd } }

/-- R185: RESET_N in RUN; it reaches the table only through the blocks it resets (R27). -/
def Part.resetRun (p : Part) (straps : BitVec 10) : Part :=
  let p1 := (p.landSettle.resetContexts.resetIntake).abandonAssembly
  let p2 := { p1 with monitor := Monitor.released, follow := Follow.empty }
  ((p2.resetPath straps).takeWaiting).grant

/-- R159, R185: RESET_N in LOCKOUT and VERIFY samples the straps. -/
def Part.sampleStraps (p : Part) (straps : BitVec 10) : Part :=
  { p with path := { p.path with fileWindow := some (fileWindowOf straps) } }

/-- R185: an assertion of RESET_N. -/
def Part.assertReset (p : Part) (straps : BitVec 10) : Part :=
  match p.supply with
  | .off => p
  | .keep => p
  | .lockout => p.sampleStraps straps
  | .verify => p.sampleStraps straps
  | .run => p.resetRun straps

/-! ## The commands, and the tick -/

/-- What the part does by itself while no command comes: in VERIFY the walk makes a step (log 19), and a cold
initialisation in progress completes (log 44). -/
def Part.tick (p : Part) : Part := if p.supply = .verify then p.walkStep else p.finishCold

/-- LOCKOUT_EXPIRY (R178). -/
def execLockoutExpiry (s : State) : Host.Outcome State Fault Refusal := s.actInitialised Part.lockoutEnds

/-- VERIFICATION_WALK_COMPLETE (R179). -/
def execVerificationWalkComplete (s : State) : Host.Outcome State Fault Refusal := s.act Part.completeWalk

/-- VMAIN_GOOD (R174). -/
def execVmainGood (straps : BitVec 10) (s : State) : Host.Outcome State Fault Refusal :=
  s.act fun p => p.mainGood straps

/-- VMAIN_FALL (R184). -/
def execVmainFall (s : State) : Host.Outcome State Fault Refusal := s.act Part.mainFall

/-- VKEEP_GOOD (R174). -/
def execVkeepGood (s : State) : Host.Outcome State Fault Refusal := s.act Part.keepGood

/-- VKEEP_LOW (R176). -/
def execVkeepLow (s : State) : Host.Outcome State Fault Refusal := s.act Part.keepLow

/-- VKEEP_LOST (R174). -/
def execVkeepLost (s : State) : Host.Outcome State Fault Refusal := s.act Part.keepLost

/-- RESET_N (R185). -/
def execResetN (straps : BitVec 10) (s : State) : Host.Outcome State Fault Refusal := 
  s.actInitialised fun p => p.assertReset straps

end Sys2Proof.Machine
end

