-- ==== Sys2Proof/Machine/Timers.lean ====
section
/-! DEFINITION. The commands that are a timer running out or a crystal count: what each does is the owning block's
rule; when one comes is the outside's (log 17). A timer that does not run cannot run out (log 2). -/

namespace Sys2Proof.Machine

/-- R62: the hold of a read in LOOKUP runs out: the presentation given up, the read answered from memory. -/
def Part.expireHold (p : Part) : Part :=
  match p.path.cycle with
  | some ⟨_, .context n, .read _ .hold⟩ =>
    (((p.abandon n).count fun c => { c with holdExpiries := raised c.holdExpiries }).answerHeldRead n).grant
  | _ => p

/-- R36: the hold of an intake write runs out: the write goes to memory and the file is refused STALL. -/
def Part.expireIntakeHold (p : Part) : Part :=
  match p.path.cycle with
  | some ⟨_, .fileIntake, .write _ .hold⟩ => (p.refuse .stall).grant
  | _ => p

/-- R74: the reservation of a presentation whose await has expired goes, counted unconfirmed. -/
def Part.giveUpResult (p : Part) (n : Fin 4) : Part := (p.releaseOutcome n).count Counters.unconfirmedOne

/-- R74: whether the await timer of a presentation runs. -/
def Presentation.awaiting (pr : Presentation) : Bool :=
  match pr.await with
  | .stopped => false
  | .running _ => true
  | .expired => false

/-- R74: the await of a context runs out. -/
def Part.expireAwait (p : Part) (n : Fin 4) : Part :=
  match p.context n with
  | .amended pr =>
    if pr.awaiting then (p.giveUpResult n).withContext n (.amended { pr with await := .expired }) else p
  | .settled pr =>
    if pr.awaiting then (((p.giveUpResult n).releasePin pr.entry).withContext n .empty).grant else p
  | .empty => p
  | .filling _ => p
  | .lookup _ _ => p

/-- R139: the attention hold runs out. -/
def Part.expireAttention (p : Part) : Part :=
  match p.monitor.timer with
  | none => p
  | some _ => p.releaseAttention

/-- R140: three marked slots after an unmarked one. -/
def Monitor.runOfThree (m : Monitor) : Bool := m.mark0 && m.mark1 && m.mark2 && !m.mark3

/-- R140: the marks moved back by one. -/
def Monitor.shifted (m : Monitor) : Monitor :=
  { m with mark0 := false, mark1 := m.mark0, mark2 := m.mark1, mark3 := m.mark2 }

/-- R140: a slot ends. -/
def Part.endSlot (p : Part) : Part :=
  if p.supply = .run then
    let p1 :=
      if p.setup.policy.attentionMode = .repeated ∧ p.monitor.runOfThree then p.assertAttention else p
    { p1 with monitor := p1.monitor.shifted }
  else p

/-- HOLD_EXPIRY (R62). -/
def execHoldExpiry (s : State) : Host.Outcome State Fault Refusal := s.act Part.expireHold

/-- INTAKE_HOLD_EXPIRY (R36). -/
def execIntakeHoldExpiry (s : State) : Host.Outcome State Fault Refusal := s.act Part.expireIntakeHold

/-- AWAIT_EXPIRY (R74). -/
def execAwaitExpiry (n : Fin 4) (s : State) : Host.Outcome State Fault Refusal := s.act fun p => p.expireAwait n

/-- ATTENTION_HOLD_EXPIRY (R139). -/
def execAttentionHoldExpiry (s : State) : Host.Outcome State Fault Refusal := s.act Part.expireAttention

/-- SLOT_END (R140). -/
def execSlotEnd (s : State) : Host.Outcome State Fault Refusal := s.act Part.endSlot

/-- CLOCK_SECOND (R143). -/
def execClockSecond (s : State) : Host.Outcome State Fault Refusal := s.actInitialised fun p =>
  p.crystalSecond.grant

end Sys2Proof.Machine
end

