-- ==== Sys2Proof/Machine/Dispatch.lean ====
section
/-! DEFINITION. One arm per command: the command's meaning. -/

namespace Sys2Proof.Machine

def exec (i : Instr) (s : State) : Host.Outcome State Fault Refusal :=
  match i with
  -- processor cycles
  | .fileWindowWrite word bytes => Sys2Proof.Machine.execFileWindowWrite word bytes s
  | .imageWindowWrite word bytes => Sys2Proof.Machine.execImageWindowWrite word bytes s
  | .imageWindowRead word lanes => Sys2Proof.Machine.execImageWindowRead word lanes s
  | .journalWrite word bytes => Sys2Proof.Machine.execJournalWrite word bytes s
  | .clockWordWrite word bytes => Sys2Proof.Machine.execClockWordWrite word bytes s
  | .passThroughCycle word access => Sys2Proof.Machine.execPassThroughCycle word access s
  | .processorCycleEnd => Sys2Proof.Machine.execProcessorCycleEnd s
  -- settle writes
  | .settleWriteStart => Sys2Proof.Machine.execSettleWriteStart s
  | .settleWriteComplete => Sys2Proof.Machine.execSettleWriteComplete s
  -- completions of the table arbiter's operations
  | .lookup => Sys2Proof.Machine.execLookup s
  | .confirmationMark => Sys2Proof.Machine.execConfirmationMark s
  | .stageEntry => Sys2Proof.Machine.execStageEntry s
  | .stagePass => Sys2Proof.Machine.execStagePass s
  | .commit => Sys2Proof.Machine.execCommit s
  | .discard => Sys2Proof.Machine.execDiscard s
  | .sweepStep => Sys2Proof.Machine.execSweepStep s
  | .pinRelease => Sys2Proof.Machine.execPinRelease s
  -- timers and the crystal
  | .holdExpiry => Sys2Proof.Machine.execHoldExpiry s
  | .intakeHoldExpiry => Sys2Proof.Machine.execIntakeHoldExpiry s
  | .awaitExpiry context => Sys2Proof.Machine.execAwaitExpiry context s
  | .attentionHoldExpiry => Sys2Proof.Machine.execAttentionHoldExpiry s
  | .slotEnd => Sys2Proof.Machine.execSlotEnd s
  | .clockSecond => Sys2Proof.Machine.execClockSecond s
  -- start-up, supplies, RESET_N
  | .lockoutExpiry => Sys2Proof.Machine.execLockoutExpiry s
  | .verificationWalkComplete => Sys2Proof.Machine.execVerificationWalkComplete s
  | .vmainGood straps => Sys2Proof.Machine.execVmainGood straps s
  | .vmainFall => Sys2Proof.Machine.execVmainFall s
  | .vkeepGood => Sys2Proof.Machine.execVkeepGood s
  | .vkeepLow => Sys2Proof.Machine.execVkeepLow s
  | .vkeepLost => Sys2Proof.Machine.execVkeepLost s
  | .resetN straps => Sys2Proof.Machine.execResetN straps s

end Sys2Proof.Machine
end

