-- ==== Sys2Proof/Machine/Step.lean ====
section
/-! DEFINITION. One step: the command at the front of the queue; on an empty queue the part is left to itself. -/

namespace Sys2Proof.Machine

/-- The state with another queue. -/
def State.withPending (s : State) (queue : List Instr) : State := { s with pending := queue }

/-- One step of the machine. -/
def step (s : State) : Host.Outcome State Fault Refusal :=
  match s.pending with
  | [] => s.act Part.tick
  | c :: rest => exec c (s.withPending rest)

/-- The state with the command that a word spells at the front of its queue. -/
def State.withFetchWord (s : State) (nbits w : Nat) : State :=
  match decodeTableWord nbits w with
  | none => s
  | some c => s.withPending (c :: s.pending)

end Sys2Proof.Machine
end

