-- ==== Sys2Proof/Machine/Outputs.lean ====
section
/-! DEFINITION. What the outside sees (R186): the outputs of the part, each derived from the state. -/

namespace Sys2Proof.Machine

/-- The level of an output that may not be driven. -/
inductive PinLevel where
  | notDriven
  | low
  | high
deriving DecidableEq, Repr

/-- What the M-port carries. -/
inductive MPort where
  | notDriven
  | inactive
  | read (word : BitVec 23) (lanes : Lanes)
  | write (word : BitVec 23) (bytes : LaneBytes)
deriving DecidableEq, Repr

/-- R165: PWAIT_N is asserted: a held cycle, or one that waits for a settle write. -/
def Part.waitAsserted (p : Part) : Bool := p.path.hold.isSome || p.path.waiting.isSome

/-- R138, R141: ATTN_N is asserted. -/
def Part.attentionAsserted (p : Part) : Bool := p.supply == .run && p.monitor.asserted

/-- R137: ACT is high. -/
def Part.actHigh (p : Part) : Bool := p.supply == .run && p.setup.policy.mode == .active

/-- R186: PWAIT_N, active low. In LOCKOUT and VERIFY it stays released for every cycle (R170, R178; log 48). -/
def Part.pwaitPin (p : Part) : PinLevel :=
  if p.supply = .off then .notDriven else if p.waitAsserted then .low else .high

/-- R186: ATTN_N, open drain: driven low, or not driven. -/
def Part.attnPin (p : Part) : PinLevel := if p.attentionAsserted then .low else .notDriven

/-- R137, R186: ACT. -/
def Part.actPin (p : Part) : PinLevel :=
  if p.supply = .off then .notDriven else if p.actHigh then .high else .low

/-- R162: what a cycle in progress has on the M-port. -/
def Cycle.onMPort (c : Cycle) : MPort :=
  match c.kind with
  | .read l .pass => .read c.word l
  | .read _ (.serve _) => .inactive
  | .read _ .hold => .inactive
  | .write b .pass => .write c.word b
  | .write _ (.substitute b) => .write c.word b
  | .write _ .hold => .inactive

/-- R162, R164, R167, R186: the M-port. With no cycle in progress it is inactive, also while the processor has not ended a
cycle whose record RESET_N or the entry to RUN has dropped (log 49). -/
def Part.mPort (p : Part) : MPort :=
  match p.supply with
  | .off => .notDriven
  | .keep => .inactive
  | _ =>
    match p.path.settleWrite, p.path.cycle with
    | some w, _ => .write w.address (bytesOf w.value)
    | none, some c => c.onMPort
    | none, none => .inactive

/-- R162, R164: what the part drives on P_D: nothing in KEEP and OFF. -/
def Part.pData (p : Part) : LaneBytes :=
  match p.supply with
  | .off => noBytes
  | .keep => noBytes
  | _ => p.path.pd

end Sys2Proof.Machine
end

