-- ==== Sys2Proof/Safety.lean ====
section
/-! DEFINITION. What counts as a safe run. The manual names no event that stops the part, so a run cannot fail; it
is safe as long as each of its states is sound in the senses below. -/

namespace Sys2Proof.Machine

/-- R19: no claim stands ungranted while the table is free. -/
def Part.claimsGranted (p : Part) : Prop := p.grant = p

/-- R126: the outcome queue never holds more than 64 outcomes. -/
def Part.queueWithin (p : Part) : Prop := p.queue.outcomes.length ≤ Config.queueSize

/-- R143: while the clock state is UNSET, the seconds hold 0. -/
def Part.clockHonest (p : Part) : Prop := p.clock.state = .unset → p.clock.seconds = 0

/-- R183: every context EMPTY. -/
def allEmpty : Four Context := ⟨.empty, .empty, .empty, .empty⟩

/-- The part keeps the processor waiting in a cycle. -/
def Cycle.isHeld (c : Cycle) : Bool :=
  match c.kind with
  | .read _ a => a == .hold
  | .write _ a => a == .hold

/-- R178, R184: outside RUN every block but the supply controller and the day clock is at rest: no file, context,
assembly, claim, operation, sweep, held cycle or settle write. -/
def Part.atRest (p : Part) : Prop :=
  p.contexts = allEmpty ∧ p.journal = none ∧ p.arbiter = Arbiter.idle ∧ p.intake = Intake.draining ∧ p.sweep = none
    ∧ p.monitor = Monitor.released ∧ p.path.hold = none ∧ p.path.waiting = none ∧ p.path.settleWrite = none
    ∧ ∀ c, p.path.cycle = some c → c.isHeld = false

/-- R178: the part is at rest outside RUN. -/
def Part.restsOutsideRun (p : Part) : Prop := p.supply ≠ .run → p.atRest

/-- R173: keep-valid has no value in OFF and has one in every other state. -/
def Part.keepValidPresent (p : Part) : Prop := p.keepValid = none ↔ p.supply = .off

/-- R38, R45: a file in hand, and a commit claimed or running, carries a number above the committed one; and an
answer to be ignored is that of a running operation whose file is gone. -/
def Part.numbersAbove (p : Part) : Prop :=
  (∀ f, p.intake.staging = some f → p.fileNumber.toNat < f.number.toNat)
    ∧ (∀ c, p.arbiter.intake = some (.commit c) → p.fileNumber.toNat < c.number.toNat)
    ∧ (∀ c, p.arbiter.op = some (.intake (.commit c)) → p.fileNumber.toNat < c.number.toNat)
    ∧ (∀ c, p.arbiter.op = some (.intake c) → p.arbiter.intake = none)
    ∧ (p.intake.answerIgnored = true → p.intake.staging = none ∧ ∃ c, p.arbiter.op = some (.intake c))

/-- R4: two entries of the table do not both carry a serial in a state that `c` picks. -/
def Store.atMostOne (st : Store) (c : Entry → Bool) : Prop :=
  ∀ m n a b, st.entry m = some a → st.entry n = some b → c a = true → c b = true → a.serial = b.serial → m = n

/-- R4: at most one visible entry carries a serial. -/
def Store.oneVisible (st : Store) : Prop := st.atMostOne Entry.visible

/-- R4: at most one STAGED entry carries a serial. -/
def Store.oneStaged (st : Store) : Prop := st.atMostOne fun e => e.state == .staged

/-- R10: the pass records held by the entries of a table. -/
def Store.heldPasses (st : Store) : Nat := (st.entries.map fun x => x.2.passes.length).sum

/-- R10: free and held pass records number 8,192 together. -/
def Store.poolWhole (st : Store) : Prop := st.freePasses + st.heldPasses = Config.poolSize

/-- R177: a cold initialisation is in progress only in OFF and KEEP, and at VKEEP good only in OFF. -/
def Part.coldUnsupplied (p : Part) : Prop :=
  (p.initialising ≠ none → p.supply = .off ∨ p.supply = .keep) ∧ (p.initialising = some .atVkeep → p.supply = .off)

/-- R30, R35 to R37, R165: file intake and the processor's cycle between two commands. The buffer holds two records at
most, and any under an operation outstanding or a discard owed; a record is held only with its write; no cycle is in
progress while one waits for a settle write; and the hold runs with a held cycle and with no other. -/
def Part.intakeWaits (p : Part) : Prop :=
  p.intake.buffer.length ≤ 2
    ∧ (p.intake.buffer ≠ [] → p.intakeOutstanding = true ∨ p.intake.discardOwed = true)
    ∧ (p.intake.held ≠ none → ∃ w b, p.path.cycle = some ⟨w, .fileIntake, .write b .hold⟩)
    ∧ (p.path.waiting ≠ none → p.path.cycle = none)
    ∧ ∀ c, p.path.cycle = some c → (c.isHeld = true ↔ p.path.hold ≠ none)

/-- R54: the overlay words of an amending presentation stand in ascending order. -/
def Part.overlaysAscend (p : Part) : Prop :=
  ∀ n pr, p.context n = .amended pr ∨ p.context n = .settled pr → pr.overlay.Pairwise fun a b => a.word < b.word

/-- R30: intake's claim, waiting or granted. -/
def Part.claims (p : Part) (c : IntakeClaim) : Prop := p.arbiter.intake = some c ∨ p.arbiter.op = some (.intake c)

/-- R11: entry `n` is a STAGED RESTORE entry. -/
def Store.stagedRestore (st : Store) (n : Nat) : Prop :=
  ∃ e r, st.entry n = some e ∧ e.state = .staged ∧ e.part = .restore r

/-- The passes of an entry part. -/
def ActionPart.passes (a : ActionPart) : List PassRecord :=
  match a with
  | .block _ => []
  | .restore r => r.passes

/-- R11, R39, R40: what intake has in hand for the table: a stage-pass names a STAGED RESTORE entry; a stage-entry brings
no passes, and for a BLOCK none is owed; where passes are owed and no stage-entry is outstanding, the RESTORE entry staged
last is STAGED; and no file is in hand while a discard is claimed or owed. -/
def Part.stagingHeld (p : Part) : Prop :=
  (∀ n q, p.claims (.stagePass (some n) q) → p.store.stagedRestore n)
    ∧ (∀ r number, p.claims (.stageEntry r number) →
        r.part.passes = [] ∧ ∀ flag f, r.part = .block flag → p.intake.staging = some f → f.owed = 0)
    ∧ (∀ f n, p.intake.staging = some f → f.owed ≠ 0 → (∀ r number, ¬ p.claims (.stageEntry r number)) →
        f.restoreEntry = some n → p.store.stagedRestore n)
    ∧ (p.claims .discard ∨ p.intake.discardOwed = true → p.intake.staging = none)

/-- R7, R10: the free list holds FREE entries, each once, and free and held pass records number 8,192 together; but for a
table that a rebuild has in hand (R180). -/
def Part.poolHonest (p : Part) : Prop :=
  p.store.rebuildMark = true
    ∨ Sparse.rising p.store.table ∧ (∀ n ∈ p.store.freeList, p.store.entry n = none) ∧ p.store.freeList.Nodup
      ∧ p.store.poolWhole ∧ p.stagingHeld

/-- R6: every entry stands in the chain of its serial's bucket. -/
def Store.linked (st : Store) : Prop := ∀ n e, st.entry n = some e → n ∈ st.chain (bucketOf e.serial)

/-- R4, R47: at most one visible and at most one STAGED entry carry a serial, and no visible entry's file tag is above the
committed file number; but for a table that a rebuild has in hand (R180). -/
def Part.visibleHonest (p : Part) : Prop :=
  p.store.rebuildMark = true
    ∨ Sparse.rising p.store.table ∧ p.store.linked ∧ p.store.oneVisible ∧ p.store.oneStaged
      ∧ ∀ n e, p.store.entry n = some e → e.visible = true → e.fileTag.toNat ≤ p.fileNumber.toNat

/-! ## Words in which claims are stated -/

/-- What byte `a` of memory reads as once a write of word `w` has driven the bytes `b`: the byte of its lane where
that lane was driven, the even byte on the upper lane; every other byte as before. -/
def Part.byteAfter (p : Part) (w : BitVec 23) (b : LaneBytes) (a : Nat) : Byte :=
  if a = 2 * w.toNat then b.upper.getD (p.memoryByte a)
  else if a = 2 * w.toNat + 1 then b.lower.getD (p.memoryByte a)
  else p.memoryByte a

/-- From `p` to `q` memory has taken one write, of word `w` with the bytes `b`, and no other. -/
def Part.memoryTakes (p q : Part) (w : BitVec 23) (b : LaneBytes) : Prop := ∀ a, q.memoryByte a = p.byteAfter w b a

/-- R157, R169: a cycle that arrives is taken at once: none is in progress or waiting, and no settle write is on the
M-port; and no claim stands ungranted. -/
def Part.takesAtOnce (p : Part) : Prop :=
  p.accepts = true ∧ p.path.settleWrite = none ∧ p.claimsGranted

/-- R35, R41, R46: intake once an answer has reached it: as `taken` says, or, where the answer is ignored, with nothing
gone but a TRAILER still in the buffer. A discard owed is claimed and owed no longer. -/
def Intake.afterAnswer (i taken : Intake) : Intake :=
  if i.answerIgnored then
    { i with
      answerIgnored := false, discardOwed := false, trailerBuffered := false
      buffer := if i.trailerBuffered then i.buffer.tail else i.buffer }
  else { taken with discardOwed := false }

/-- R41: the table free of the operation answered, and a discard claimed where intake owed one. -/
def Arbiter.afterAnswer (a : Arbiter) (i : Intake) : Arbiter :=
  { a with op := none, intake := if i.discardOwed then some .discard else a.intake }

/-- R41: the part once a file is refused with no operation of intake's in progress: records, staging file and cursor gone,
a discard claimed, one refusal counted. A held write is released beside it (`heldWriteReleased`). -/
def Part.fileRefused (p : Part) (reason : FileRefusal) : Part :=
  { p with
    arbiter := { p.arbiter with intake := some .discard }
    intake := { p.intake with
      state := .draining, cursor := .closed, assembly := [], buffer := [], staging := none
      trailerBuffered := false, held := none, discardOwed := false }
    counters := { p.counters with
      filesRefused := raised p.counters.filesRefused, lastRefusal := some reason, refusalMark := true } }

/-- R41: a discard is intake's claim, waiting or granted. -/
def Part.discardClaimed (p : Part) : Prop :=
  p.arbiter.intake = some .discard ∨ p.arbiter.op = some (.intake .discard)

/-- The memory path with a cycle in progress, its hold, and what stands on P_D. -/
def MemoryPath.carrying (m : MemoryPath) (c : Cycle) (hold : Option Nat) (pd : LaneBytes) : MemoryPath :=
  { m with cycle := some c, hold := hold, pd := pd }

/-- R36, R41: from `p` to `q` memory and the memory path change by the release of a held intake write, where one is held,
and by nothing else. -/
def Part.heldWriteReleased (p q : Part) : Prop :=
  (∀ w b, p.path.cycle = some ⟨w, .fileIntake, .write b .hold⟩ →
      p.memoryTakes q w b ∧ q.path = p.path.carrying ⟨w, .fileIntake, .write b .pass⟩ none ⟨none, none⟩)
    ∧ ((∀ w b, p.path.cycle ≠ some ⟨w, .fileIntake, .write b .hold⟩) → q.memory = p.memory ∧ q.path = p.path)

/-- A context as it gives up what it has in hand: with a presentation of an amending decision. -/
def Context.holds (c : Context) (pr : Presentation) : Prop := c = .amended pr ∨ c = .settled pr

/-- R69: how many presentations, of the contexts that `given` picks, name entry `k`. -/
def Part.pinsGiven (p : Part) (given : Fin 4 → Bool) (k : Nat) : Nat :=
  ((List.finRange 4).filter fun n => given n && match p.context n with
    | .amended pr => pr.entry == k
    | .settled pr => pr.entry == k
    | _ => false).length

/-- R69: how many presentations, of the contexts that `given` picks, count as unconfirmed when they are given up. -/
def Part.unconfirmedGiven (p : Part) (given : Fin 4 → Bool) : Nat :=
  ((List.finRange 4).filter fun n => given n && match p.context n with
    | .amended pr => !pr.confirmed && pr.await != .expired
    | .settled pr => !pr.confirmed && pr.await != .expired
    | _ => false).length

/-- R69: the outcomes left where the contexts that `given` picks give up what they hold RESERVED. -/
def Part.outcomesKept (p : Part) (given : Fin 4 → Bool) : List Outcome :=
  p.queue.outcomes.filter fun o => match o.state with
    | .reserved n => !(given n && match p.context n with
      | .amended _ => true
      | .settled _ => true
      | _ => false)
    | .attached _ => true
    | .unreported _ => true

/-- R18, R20: the arbiter after the contexts that `given` picks have withdrawn their lookups. -/
def Part.lookupsGiven (p : Part) (given : Fin 4 → Bool) : Arbiter :=
  let gone (n : Fin 4) : Bool := given n && match p.context n with
    | .lookup _ _ => true
    | _ => false
  { p.arbiter with
    lookups := p.arbiter.lookups.filter fun c => !gone c.1
    op := p.arbiter.op.map fun o => match o with
      | .lookup m serial wanted => .lookup m serial (wanted && !gone m)
      | x => x }

/-- R1, R6: entry `k` stands right after entry `n` in the bucket of a serial. -/
def Store.standsAfter (st : Store) (serial : BitVec 64) (n k : Nat) : Prop :=
  ∃ before after, st.chain (bucketOf serial) = before ++ n :: k :: after ∧ n ∉ before

/-- R1: the entry after an unlinked one, with the bucket position of that one as its own. -/
def Entry.movedUp (x unlinked : Entry) : Entry := { x with position := unlinked.position, checkFault := 0 }

/-- R121: the outcomes after the assembly in hand is abandoned. -/
def Part.outcomesDetached (p : Part) (l : List Outcome) : List Outcome :=
  match p.journal with
  | some ⟨_, .tap _ (.outcome _ _ _) false, _, _⟩ => l.map fun o => match o.state with
    | .reserved _ => o
    | .attached n => { o with state := .unreported n }
    | .unreported _ => o
  | _ => l

/-- R44: the byte ranges of the regions a windows part enables, each with its length. -/
def Windows.regions (w : Windows) : List (Nat × Nat) :=
  ([w.image.c0, w.image.c1, w.image.c2, w.image.c3].filterMap fun x => x.map fun b => (b.toNat * 64, 64))
    ++ (w.journal.map fun j => (j.base.toNat, 4096 * 2 ^ j.sizeCode)).toList
    ++ (w.clockWord.map fun a => (a.toNat, 4)).toList

/-- R44: two regions of a list share a byte. -/
def regionsMeet (l : List (Nat × Nat)) : Prop :=
  ∃ (i j x : Nat) (a b : Nat × Nat), i < j ∧ l[i]? = some a ∧ l[j]? = some b
    ∧ a.1 ≤ x ∧ x < a.1 + a.2 ∧ b.1 ≤ x ∧ x < b.1 + b.2

/-- What makes a state sound. -/
def State.sound (s : State) : Prop :=
  Memory.wf s.memory ∧ s.toPart.queueWithin ∧ s.toPart.clockHonest ∧ s.toPart.restsOutsideRun
    ∧ s.toPart.claimsGranted ∧ s.toPart.keepValidPresent ∧ s.toPart.coldUnsupplied ∧ s.toPart.overlaysAscend
    ∧ s.toPart.numbersAbove ∧ s.toPart.intakeWaits ∧ s.toPart.poolHonest ∧ s.toPart.visibleHonest

end Sys2Proof.Machine
end

