-- ==== Sys2Proof/Certificates/Slice0/Obligations.lean ====
section
/-! DEFINITION. The statements for the provers. `exec c s = .next t` says that command `c` completes in `s` with the
next state `t`; `t = { s with x := t.x }` says that no item but `x` changed. -/

open Sys2Proof Sys2Proof.Machine

/-! ## The queue of commands, and the part left to itself -/

/-- With a command at the front of the queue, a step is that command run on the state with the queue's rest. Every
command answers a next state, and none touches the queue. That a command whose event cannot occur in the state answers
one too is the model's choice (log 2), as is the queue (log 32). -/
def Obligations.StepRunsTheFrontCommand : Prop :=
  (∀ (s : State) (c : Instr) (rest : List Instr), s.pending = c :: rest → step s = exec c { s with pending := rest })
    ∧ ∀ (c : Instr) (s : State), ∃ t, exec c s = .next t ∧ t.pending = s.pending

/-- On an empty queue the part idles, but for two kinds of work of its own: in VERIFY the walk makes one step, and a cold
initialisation in progress completes, with the values of R177, in KEEP or in LOCKOUT. That these are what a step on an
empty queue does is the model's choice (logs 19, 32, 44), and that the crystal's count starts at 0 is log 18's. -/
def Obligations.EmptyQueueStep : Prop :=
  ∀ s : State, s.pending = [] →
    (s.supply ≠ .verify → (s.supply = .off ∨ s.supply = .keep → s.initialising = none) → step s = .next s)
      ∧ (s.supply = .verify → step s = .next { s with toPart := s.toPart.walkStep })
      ∧ (s.supply = .off ∨ s.supply = .keep → s.initialising = some .atVkeep →
        step s = .next { s with
          supply := .keep, initialising := none
          keepValid := some true, crystal := 0, store := Store.cold, fileNumber := 0, fileNumberFault := 0
          setup := Setup.cold, locked := false, setupFault := 0, queue := OutcomeQueue.cold
          clock := DayClock.cold })
      ∧ ∀ straps, s.supply = .off ∨ s.supply = .keep → s.initialising = some (.atVmain straps) →
        step s = .next { s with
          supply := .lockout, lockoutTimer := true, path := MemoryPath.quiet (some (fileWindowOf straps))
          initialising := none
          keepValid := some true, crystal := 0, store := Store.cold, fileNumber := 0, fileNumberFault := 0
          setup := Setup.cold, locked := false, setupFault := 0, queue := OutcomeQueue.cold
          clock := DayClock.cold }

/-- R24, R26, R179 to R182, R192: what one step of the verification walk tests and does, stage by stage: an entry, the
structure check, the file number's check, the setup, the queue check, one outcome, one entry of a rebuild. A failure of
the first three is remembered and leads, after stage 5, to the declaration of loss with the rebuild's first step. What
makes one step is the model's choice (log 20); a check that holds is the CRC-16 of its fields in an encoding left free
(log 10). -/
def Obligations.WalkStepTaken : Prop :=
  (∀ (s : State) (failed : Bool), s.pending = [] → s.supply = .verify →
    (∀ n, s.walk = some ⟨.entry n, failed⟩ → n < 16384 → Sparse.rising s.store.table →
      ∃ t, step s = .next t
        ∧ t = { s with
            store := { s.store with table := t.store.table }
            walk := some ⟨if n + 1 < 16384 then .entry (n + 1) else .structureCheck,
              failed || !(s.store.slot n).checkHolds⟩ }
        ∧ (∀ k, k ≠ n → t.store.slot k = s.store.slot k)
        ∧ (∀ f, s.store.slot n = .free f → t.store.slot n = .free f)
        ∧ (∀ e, s.store.slot n = .held e → e.checkFault ≠ 0 → t.store.slot n = .held e)
        ∧ ∀ e, s.store.slot n = .held e → e.checkFault = 0 → t.store.slot n =
            .held { e with state := if e.state = .staged then .dead else e.state, pins := 0 })
      ∧ (s.walk = some ⟨.structureCheck, failed⟩ → step s = .next { s with
          walk := some ⟨.fileNumber, failed || (s.store.structureFault != 0 || s.store.rebuildMark)⟩ })
      ∧ (s.walk = some ⟨.fileNumber, failed⟩ → step s = .next { s with
          walk := some ⟨.setup, failed || s.fileNumberFault != 0⟩ })
      ∧ (s.walk = some ⟨.setup, failed⟩ → s.setupFault = 0 → step s = .next { s with
          walk := some ⟨.queueCheck, failed⟩ })
      ∧ (s.walk = some ⟨.setup, failed⟩ → s.setupFault ≠ 0 → step s = .next { s with
          setup := Setup.cold, locked := false, setupFault := 0, walk := some ⟨.queueCheck, failed⟩ })
      ∧ (s.walk = some ⟨.queueCheck, failed⟩ → s.queue.checkFault = 0 → step s = .next { s with
          walk := some ⟨.queueItem 0, failed⟩ })
      ∧ (s.walk = some ⟨.queueCheck, failed⟩ → s.queue.checkFault ≠ 0 → step s = .next { s with
          queue := { s.queue with outcomes := [], checkFault := 0 }
          walk := some (if failed then ⟨.rebuild 0, true⟩ else ⟨.done, false⟩) })
      ∧ (∀ n, s.walk = some ⟨.queueItem n, failed⟩ →
        (s.queue.outcomes[n]? = none → step s = .next { s with
            walk := some (if failed then ⟨.rebuild 0, true⟩ else ⟨.done, false⟩) })
          ∧ (∀ o m, s.queue.outcomes[n]? = some o → o.state = .reserved m → step s = .next { s with
            queue := { s.queue with outcomes := s.queue.outcomes.eraseIdx n, checkFault := 0 }
            walk := some ⟨.queueItem n, failed⟩ })
          ∧ (∀ o q, s.queue.outcomes[n]? = some o → o.state = .attached q → step s = .next { s with
            queue := { s.queue with
              outcomes := s.queue.outcomes.set n { o with state := .unreported q }, checkFault := 0 }
            walk := some ⟨.queueItem (n + 1), failed⟩ })
          ∧ ∀ o q, s.queue.outcomes[n]? = some o → o.state = .unreported q → step s = .next { s with
            queue := { s.queue with checkFault := 0 }, walk := some ⟨.queueItem (n + 1), failed⟩ })
      ∧ (∀ n, s.walk = some ⟨.rebuild n, failed⟩ → n + 1 < 16384 → Sparse.rising s.store.table →
        ∃ t, step s = .next t
          ∧ t = { s with
              fileNumber := if n = 0 then 0 else s.fileNumber
              fileNumberFault := if n = 0 then 0 else s.fileNumberFault
              tableLost := if n = 0 then true else s.tableLost
              store := { s.store with rebuildMark := true, table := t.store.table }
              walk := some ⟨.rebuild (n + 1), failed⟩ }
          ∧ t.store.slot n = .free 0 ∧ ∀ k, k ≠ n → t.store.slot k = s.store.slot k)
      ∧ (s.walk = some ⟨.rebuild 16383, failed⟩ → step s = .next { s with
          store := Store.cold, walk := some ⟨.done, failed⟩ })
      ∧ (s.walk = some ⟨.done, failed⟩ → step s = .next s))
    ∧ (∀ fields, internalCheck fields = crc16 (Config.checkEncoding fields))
    ∧ (∀ x : Slot, x.checkHolds = true ↔ x.storedCheck = internalCheck x.fields)
    ∧ (∀ st : Store, st.structureFault = 0 ↔ st.storedStructureCheck = internalCheck st.structureFields)
    ∧ ∀ p : Part, (p.fileNumberFault = 0 ↔ p.storedFileNumberCheck = internalCheck [p.fileNumber.toNat])
        ∧ (p.setupFault = 0 ↔ p.storedSetupCheck = internalCheck p.setupFields)
        ∧ (p.queue.checkFault = 0 ↔ p.queue.storedCheck = internalCheck p.queue.fields)

/-! ## Processor cycles and the memory path -/

/-- R157, R160, R162, R169, R170: a write that no region decodes reaches memory as driven and touches nothing else. A read
of any word but an image window's returns memory's data in the lanes selected; memory and every block stay as they were,
and so for any read with neither lane selected. A cycle that is not held ends, and the processor is idle. A cycle that
arrives while a settle write is on the M-port waits for it; that one with neither lane selected waits too is the model's
choice (log 39), as is that PROCESSOR_CYCLE_END of a held cycle changes nothing (log 2). -/
def Obligations.UndecodedCyclePasses : Prop :=
  (∀ (s : State) (w : BitVec 23) (b : LaneBytes), s.takesAtOnce →
    s.region w = .outside ∨ (b.upper = none ∧ b.lower = none) →
    ∃ t, exec (.passThroughCycle w (.write b)) s = .next t
      ∧ t = { s with
          path := s.path.carrying ⟨w, .none, .write b .pass⟩ none ⟨none, none⟩, memory := t.memory }
      ∧ s.memoryTakes t.toPart w b)
    ∧ (∀ (s : State) (w : BitVec 23) (l : Lanes), s.takesAtOnce →
      (∀ n k, s.region w ≠ .image n k) ∨ (l.upper = false ∧ l.lower = false) →
      exec (.passThroughCycle w (.read l)) s =
        .next { s with
          path := s.path.carrying ⟨w, .none, .read l .pass⟩ none
            ⟨if l.upper then some (s.memoryByte (2 * w.toNat)) else none,
              if l.lower then some (s.memoryByte (2 * w.toNat + 1)) else none⟩ })
    ∧ ∀ s : State,
      (s.path.hold = none → exec .processorCycleEnd s =
          .next { s with path := { s.path with cycle := none, pd := ⟨none, none⟩ } })
        ∧ (s.path.hold ≠ none → exec .processorCycleEnd s = .next s)
        ∧ ∀ (w : BitVec 23) (a : Access) (x : SettleWrite), s.accepts = true → s.path.settleWrite = some x →
            exec (.passThroughCycle w a) s = .next { s with path := { s.path with waiting := some (w, a) } }

/-- R29, R53, R105, R145, R159 to R161, R170: where a word is decoded. Outside RUN nowhere; in RUN a word of the file
window in force is its, whatever other region it lies in. In ACTIVE a word of an enabled image window is that window's,
and a word of an enabled journal window is its; in BYPASS neither is. A word of the clock word is its in either mode. A
word of none of them is decoded nowhere. The file window of a strap level has the size that STRAP[9:8] gives and the base
of STRAP[7:0], aligned down to that size. -/
def Obligations.RegionsDecoded : Prop :=
  (∀ (s : State) (w : BitVec 23),
    (s.supply ≠ .run → s.region w = .outside)
      ∧ (s.setup.policy.mode = .bypass → (∀ n k, s.region w ≠ .image n k) ∧ ∀ r k, s.region w ≠ .journal r k)
      ∧ (∀ f : FileWindow, s.supply = .run → s.path.fileWindow = some f → f.base.toNat / 2 ≤ w.toNat →
          w.toNat < f.base.toNat / 2 + f.bytes / 2 → s.region w = .file (w.toNat - f.base.toNat / 2))
      ∧ (s.supply = .run →
          (∀ f, s.path.fileWindow = some f →
            ¬ (f.base.toNat / 2 ≤ w.toNat ∧ w.toNat < f.base.toNat / 2 + f.bytes / 2)) →
          (∀ n b, s.setup.policy.mode = .active → fourAt s.setup.windows.image n = some b →
              w.toNat / 32 = b.toNat → (∀ m, m ≠ n → fourAt s.setup.windows.image m ≠ some b) →
              s.region w = .image n (w.toNat % 32))
            ∧ (∀ j, s.setup.policy.mode = .active → s.setup.windows.journal = some j →
              j.base.toNat / 2 ≤ w.toNat → w.toNat < j.base.toNat / 2 + 2048 * 2 ^ j.sizeCode →
              (∀ n b, fourAt s.setup.windows.image n = some b → w.toNat / 32 ≠ b.toNat) →
              s.region w = .journal ((w.toNat - j.base.toNat / 2) / 32) ((w.toNat - j.base.toNat / 2) % 32))
            ∧ ∀ (a : BitVec 24) (second : Bool), s.setup.windows.clockWord = some a →
              w.toNat = a.toNat / 2 + (if second then 1 else 0) →
              (s.setup.policy.mode = .active →
                (∀ n b, fourAt s.setup.windows.image n = some b → w.toNat / 32 ≠ b.toNat)
                  ∧ ∀ j, s.setup.windows.journal = some j →
                    ¬ (j.base.toNat / 2 ≤ w.toNat ∧ w.toNat < j.base.toNat / 2 + 2048 * 2 ^ j.sizeCode)) →
              s.region w = .clock second)
      ∧ (s.supply = .run →
          (∀ f, s.path.fileWindow = some f →
            ¬ (f.base.toNat / 2 ≤ w.toNat ∧ w.toNat < f.base.toNat / 2 + f.bytes / 2)) →
          (s.setup.policy.mode = .active →
            (∀ n b, fourAt s.setup.windows.image n = some b → w.toNat / 32 ≠ b.toNat)
              ∧ ∀ j, s.setup.windows.journal = some j →
                ¬ (j.base.toNat / 2 ≤ w.toNat ∧ w.toNat < j.base.toNat / 2 + 2048 * 2 ^ j.sizeCode)) →
          (∀ a, s.setup.windows.clockWord = some a → w.toNat ≠ a.toNat / 2 ∧ w.toNat ≠ a.toNat / 2 + 1) →
          s.region w = .outside))
    ∧ ∀ straps : BitVec 10,
      (fileWindowOf straps).sizeCode = straps.toNat / 256
        ∧ (fileWindowOf straps).bytes = 65536 * 2 ^ (straps.toNat / 256)
        ∧ (fileWindowOf straps).base.toNat % (fileWindowOf straps).bytes = 0
        ∧ (fileWindowOf straps).base.toNat ≤ straps.toNat % 256 * 65536
        ∧ straps.toNat % 256 * 65536 < (fileWindowOf straps).base.toNat + (fileWindowOf straps).bytes

/-- R66, R167, R168: with the processor idle, the M-port is granted to the first context, in the order of turns after the
last granted one, whose request stands; its request becomes the settle write in progress, memory yet unwritten. The
request that a context in AMENDED keeps standing is for its lowest PENDING word; none stands while its own settle write is
on the M-port, or in any other state. -/
def Obligations.SettleWriteGrantedInTurn : Prop :=
  (∀ (s : State) (n : Fin 4) (before after : List (Fin 4)) (o : OverlayWord) (base : BitVec 18),
    s.supply = .run → s.path.cycle = none → s.path.waiting = none → s.path.settleWrite = none →
    [s.path.lastGranted + 1, s.path.lastGranted + 2, s.path.lastGranted + 3, s.path.lastGranted]
      = before ++ n :: after →
    (∀ m ∈ before, s.settleRequest m = none) → s.settleRequest n = some o →
    fourAt s.setup.windows.image n = some base →
    exec .settleWriteStart s =
      .next { s with path := { s.path with
        settleWrite := some ⟨n, o.word, BitVec.ofNat 23 (base.toNat * 32 + o.word), o.value, true⟩
        lastGranted := n } })
    ∧ ∀ (s : State) (n : Fin 4),
      (∀ (pr : Presentation) (o : OverlayWord), s.context n = .amended pr →
        pr.overlay.Pairwise (fun a b => a.word < b.word) →
        (∀ x, s.path.settleWrite = some x → x.owned = true → x.context ≠ n) →
        (s.settleRequest n = some o ↔
          o ∈ pr.overlay ∧ o.pending = true ∧ ∀ x ∈ pr.overlay, x.pending = true → o.word ≤ x.word))
        ∧ (∀ x, s.path.settleWrite = some x → x.owned = true → x.context = n → s.settleRequest n = none)
        ∧ ((∀ pr, s.context n ≠ .amended pr) → s.settleRequest n = none)

/-- R66, R67, R69, R12, R169: a settle write completes: memory takes its value in both lanes and, where its context still
holds the presentation, its word is WRITTEN. Settling goes on while a word is PENDING. Where none is, an unconfirmed
presentation whose await runs is SETTLED, and otherwise the context is EMPTY and its entry reference is released: at once,
or, while an operation is in progress, as a release to be taken (log 15). A cycle that waited is then taken as one that
arrives. -/
def Obligations.SettleWriteCompletes : Prop :=
  (∀ (s : State) (x : SettleWrite), s.path.settleWrite = some x → s.path.waiting = none → s.claimsGranted →
    ∃ t, exec .settleWriteComplete s = .next t
      ∧ s.memoryTakes t.toPart x.address ⟨some (highByte x.value), some (lowByte x.value)⟩
      ∧ (x.owned = false ∨ (∀ pr, s.context x.context ≠ .amended pr) →
          t = { s with memory := t.memory, path := { s.path with settleWrite := none } })
      ∧ ∀ pr, x.owned = true → s.context x.context = .amended pr →
        ((pr.markWritten x.word).overlay.any (·.pending) = true →
          t = { s with
            memory := t.memory, path := { s.path with settleWrite := none }
            contexts := fourWith s.contexts x.context (.amended (pr.markWritten x.word)) })
        ∧ ((pr.markWritten x.word).overlay.any (·.pending) = false → pr.confirmed = false →
          ∀ limit, pr.await = .running limit →
            t = { s with
              memory := t.memory, path := { s.path with settleWrite := none }
              contexts := fourWith s.contexts x.context (.settled (pr.markWritten x.word)) })
        ∧ ((pr.markWritten x.word).overlay.any (·.pending) = false →
          pr.confirmed = true ∨ (∀ limit, pr.await ≠ .running limit) →
            t = { s with
              memory := t.memory, path := { s.path with settleWrite := none }
              contexts := fourWith s.contexts x.context .empty
              store := if s.arbiter.op = none then s.store.unpin pr.entry else s.store
              arbiter := if s.arbiter.op = none then s.arbiter
                else { s.arbiter with releases := s.arbiter.releases ++ [pr.entry] } }))
    ∧ (∀ (pr : Presentation) (k : Nat), pr.markWritten k = { pr with
        overlay := pr.overlay.map fun o => if o.word = k then { o with pending := false } else o })
    ∧ ∀ (s : State) (x : SettleWrite) (w : BitVec 23) (a : Access), s.path.settleWrite = some x →
      s.path.waiting = some (w, a) → s.path.cycle = none → s.supply = .run → s.claimsGranted →
      ∃ q, exec .settleWriteComplete { s with path := { s.path with waiting := none } } = .next q
        ∧ exec .settleWriteComplete s = exec (.passThroughCycle w a) q

/-! ## The file window -/

/-- R32, R35: in RECEIVING a write to the word at the cursor, not the last of its record, reaches memory as driven and
enters the record assembly; a word whose lanes are all written moves the cursor on. Records that wait in the buffer, an
operation outstanding and an answer to be ignored stand as they are. Its premise on intake is an invariant of its own:
BoundsAndRestKept. -/
def Obligations.FileWordAccepted : Prop :=
  ∀ (s : State) (w : BitVec 23) (b written : LaneBytes) (k : Nat), s.takesAtOnce → s.region w = .file k →
    b.upper.isSome ∨ b.lower.isSome → s.toPart.intakeWaits → s.intake.state = .receiving →
    s.intake.cursor = .onWord k written → k % 16 ≠ 15 →
    ∃ t, exec (.fileWindowWrite w b) s = .next t
      ∧ s.memoryTakes t.toPart w b
      ∧ t = { s with
          path := s.path.carrying ⟨w, .fileIntake, .write b .pass⟩ none ⟨none, none⟩
          memory := t.memory
          intake := match (overlaid written b).upper, (overlaid written b).lower with
            | some u, some l => { s.intake with
                cursor := .onWord (k + 1) ⟨none, none⟩, assembly := s.intake.assembly ++ [joinBytes u l] }
            | _, _ => { s.intake with cursor := .onWord k (overlaid written b) } }

/-- R31, R33, R41: a write to word 0 begins a file: intake is RECEIVING, with nothing staged and the write as its first.
From IDLE and DRAINING nothing else changes. In RECEIVING, with the cursor not on word 0, the file in hand is abandoned:
its records and staging are gone, one refusal ABANDONED is counted, and a discard is claimed, or owed while an operation
of intake's is in progress, whose answer is then ignored. While the file's own commit is in progress nothing is abandoned:
the records wait and only the answer of that commit no longer concerns intake's state. Where the commit in progress is an
older file's, its answer ignored already, the file in hand is a newer one and is abandoned like any other: the model's
choice (log 31). -/
def Obligations.FileBegins : Prop :=
  ∀ (s : State) (w : BitVec 23) (b : LaneBytes), s.takesAtOnce → s.region w = .file 0 →
    b.upper.isSome ∨ b.lower.isSome → s.intake.held = none →
    let begun (i : Intake) : Intake :=
      { i with
        state := .receiving, staging := none
        cursor := match b.upper, b.lower with
          | some _, some _ => .onWord 1 ⟨none, none⟩
          | _, _ => .onWord 0 b
        assembly := match b.upper, b.lower with
          | some u, some l => [joinBytes u l]
          | _, _ => [] }
    let passed : MemoryPath := s.path.carrying ⟨w, .fileIntake, .write b .pass⟩ none ⟨none, none⟩
    let abandoned : Counters :=
      { s.counters with
        filesRefused := raised s.counters.filesRefused, lastRefusal := some .abandoned, refusalMark := true }
    (s.intake.state ≠ .receiving → s.intake.buffer = [] →
        ∃ t, exec (.fileWindowWrite w b) s = .next t
          ∧ s.memoryTakes t.toPart w b
          ∧ t = { s with path := passed, memory := t.memory, intake := begun s.intake })
      ∧ (s.intake.state = .receiving → (∀ written, s.intake.cursor ≠ .onWord 0 written) →
        (s.intakeRunning = none →
            ∃ t, exec (.fileWindowWrite w b) s = .next t
              ∧ s.memoryTakes t.toPart w b
              ∧ t.discardClaimed
              ∧ t = { s with
                  toPart := Part.grant { s.toPart with
                    path := passed, memory := t.memory, counters := abandoned
                    arbiter := { s.arbiter with intake := some .discard }
                    intake := begun { s.intake with buffer := [], trailerBuffered := false } } })
          ∧ (∀ c, s.arbiter.op = some (.intake c) → (∀ m, c ≠ .commit m) ∨ s.intake.answerIgnored = true →
            ∃ t, exec (.fileWindowWrite w b) s = .next t
              ∧ s.memoryTakes t.toPart w b
              ∧ t = { s with
                  path := passed, memory := t.memory, counters := abandoned
                  intake := begun { s.intake with
                    buffer := [], trailerBuffered := false, answerIgnored := true, discardOwed := true } })
          ∧ (∀ m, s.arbiter.op = some (.intake (.commit m)) → s.intake.answerIgnored = false →
            ∃ t, exec (.fileWindowWrite w b) s = .next t
              ∧ s.memoryTakes t.toPart w b
              ∧ t = { s with
                  path := passed, memory := t.memory, intake := begun { s.intake with answerIgnored := true } }))

/-- R32, R34, R36, R41: a file refused in the middle. In RECEIVING a write off the cursor, other than to word 0, refuses
the file with ORDER; the hold of an intake write running out refuses it with STALL. The file is gone, one refusal is
counted, a discard is claimed, or owed while an operation of intake's is in progress; the write reaches memory as driven;
table, setup, clock and committed file number stand. With the cursor CLOSED, and in IDLE and DRAINING, a write other than
to word 0 passes and changes nothing. -/
def Obligations.FileRefusedMidway : Prop :=
  let ended (i : Intake) : Intake :=
    { i with
      state := .draining, cursor := .closed, assembly := [], buffer := [], staging := none,
      trailerBuffered := false, held := none }
  let refused (c : Counters) (reason : FileRefusal) : Counters :=
    { c with filesRefused := raised c.filesRefused, lastRefusal := some reason, refusalMark := true }
  (∀ (s : State) (w : BitVec 23) (b written : LaneBytes) (k c : Nat), s.takesAtOnce → s.region w = .file k →
    b.upper.isSome ∨ b.lower.isSome → s.intake.state = .receiving → s.intake.cursor = .onWord c written →
    k ≠ c → k ≠ 0 →
    (s.intakeRunning = none →
        ∃ t, exec (.fileWindowWrite w b) s = .next t
          ∧ s.memoryTakes t.toPart w b
          ∧ t.discardClaimed
          ∧ t = { s with
              toPart := Part.grant { s.toPart with
                path := s.path.carrying ⟨w, .fileIntake, .write b .pass⟩ none ⟨none, none⟩
                memory := t.memory
                arbiter := { s.arbiter with intake := some .discard }
                intake := ended s.intake, counters := refused s.counters .order } })
      ∧ ∀ o, s.arbiter.op = some (.intake o) →
        ∃ t, exec (.fileWindowWrite w b) s = .next t
          ∧ s.memoryTakes t.toPart w b
          ∧ t = { s with
              path := s.path.carrying ⟨w, .fileIntake, .write b .pass⟩ none ⟨none, none⟩
              memory := t.memory
              intake := { ended s.intake with answerIgnored := true, discardOwed := true }
              counters := refused s.counters .order })
    ∧ (∀ (s : State) (w : BitVec 23) (b : LaneBytes),
      s.path.cycle = some ⟨w, .fileIntake, .write b .hold⟩ →
      (s.intakeRunning = none →
          ∃ t, exec .intakeHoldExpiry s = .next t
            ∧ s.memoryTakes t.toPart w b
            ∧ t.discardClaimed
            ∧ t = { s with
                toPart := Part.grant { s.toPart with
                  path := s.path.carrying ⟨w, .fileIntake, .write b .pass⟩ none ⟨none, none⟩
                  memory := t.memory
                  arbiter := { s.arbiter with intake := some .discard }
                  intake := ended s.intake, counters := refused s.counters .stall } })
        ∧ ∀ o, s.arbiter.op = some (.intake o) →
          ∃ t, exec .intakeHoldExpiry s = .next t
            ∧ s.memoryTakes t.toPart w b
            ∧ t = { s with
                path := s.path.carrying ⟨w, .fileIntake, .write b .pass⟩ none ⟨none, none⟩
                memory := t.memory
                intake := { ended s.intake with answerIgnored := true, discardOwed := true }
                counters := refused s.counters .stall })
    ∧ ∀ (s : State) (w : BitVec 23) (b : LaneBytes) (k : Nat), s.takesAtOnce → s.region w = .file k →
      b.upper.isSome ∨ b.lower.isSome → k ≠ 0 → s.intake.state ≠ .receiving ∨ s.intake.cursor = .closed →
      s.intake.held = none → s.intake.buffer = [] ∨ s.intakeOutstanding = true →
      ∃ t, exec (.fileWindowWrite w b) s = .next t
        ∧ s.memoryTakes t.toPart w b
        ∧ t = { s with
            path := s.path.carrying ⟨w, .fileIntake, .write b .pass⟩ none ⟨none, none⟩, memory := t.memory }

/-- R37: the checks of a record in their order, each with its reason; the first that fails refuses the file. With none of
the first seven failing, the checks of the record's kind decide. Check 6 is not made of the HEADER itself (log 23). -/
def Obligations.RecordChecksInOrder : Prop :=
  ∀ (committed : BitVec 32) (f : FileWindow) (staging : Option StagingFile) (r : FileRecord),
    let kind : Nat := (highByte (wordAt r 0)).toNat
    let ordinal : Nat := (wordAt r 1).toNat
    let taken : Nat := (staging.map (·.taken)).getD 0
    let owed : Nat := (staging.map (·.owed)).getD 0
    let capacity : Nat := 2048 * 2 ^ f.sizeCode
    let fails1 : Prop := wordAt r 15 ≠ crc16 (r.take 15)
    let fails2 : Prop := ordinal ≠ taken
    let fails3 : Prop := taken = 0 ∧ kind ≠ 1
    let fails4 : Prop := kind = 0 ∨ 11 < kind ∨ (kind = 1 ∧ taken ≠ 0)
    let fails5 : Prop := taken + 1 = capacity ∧ kind ≠ 11
    let fails6 : Prop := kind ≠ 11 ∧ ∃ x, staging = some x ∧ x.expected ≤ ordinal
    let fails7 : Prop := (owed ≠ 0 ∧ kind ≠ 4) ∨ (owed = 0 ∧ kind = 4)
    let check := checkRecord committed (some f) staging r
    (fails1 → check = .error .badCheck)
      ∧ (¬ fails1 → fails2 → check = .error .order)
      ∧ (¬ fails1 → ¬ fails2 → fails3 → check = .error .noHeader)
      ∧ (¬ fails1 → ¬ fails2 → ¬ fails3 → fails4 → check = .error .shape)
      ∧ (¬ fails1 → ¬ fails2 → ¬ fails3 → ¬ fails4 → fails5 → check = .error .overrun)
      ∧ (¬ fails1 → ¬ fails2 → ¬ fails3 → ¬ fails4 → ¬ fails5 → fails6 → check = .error .count)
      ∧ (¬ fails1 → ¬ fails2 → ¬ fails3 → ¬ fails4 → ¬ fails5 → ¬ fails6 → fails7 → check = .error .shape)
      ∧ (¬ fails1 → ¬ fails2 → ¬ fails3 → ¬ fails4 → ¬ fails5 → ¬ fails6 → ¬ fails7 →
        check = kindCheck committed (some f) capacity staging r)

/-- R38, R39, R40, R42, R45, R191: the checks of a HEADER, BLOCK, RESTORE, PASS, CANCEL, CLOCK, SWEEP and TRAILER, and
what each asks for once it has passed them. An effect record for which 64 effects are held already is refused SHAPE; that
its own checks come before that one is the model's choice (log 46). -/
def Obligations.RecordKindsChecked : Prop :=
  ∀ (committed : BitVec 32) (f : FileWindow) (capacity : Nat) (staging : Option StagingFile) (r : FileRecord),
    let kind : Nat := (highByte (wordAt r 0)).toNat
    let word (k : Nat) : Nat := (wordAt r k).toNat
    let field (k : Nat) : BitVec 32 := joinWords (wordAt r k) (wordAt r (k + 1))
    let serial : BitVec 64 := joinSerial (wordAt r 2) (wordAt r 3) (wordAt r 4) (wordAt r 5)
    let full : Prop := ∃ x, staging = some x ∧ 64 ≤ x.effects.length
    let check := kindCheck committed (some f) capacity staging r
    (kind = 1 →
        (word 4 ≠ 1 ∧ word 4 ≠ 2 → check = .error .shape)
          ∧ (word 4 = 1 ∨ word 4 = 2 → word 7 < 1 ∨ capacity - 1 < word 7 → check = .error .shape)
          ∧ (word 4 = 1 ∨ word 4 = 2 → 1 ≤ word 7 → word 7 ≤ capacity - 1 →
            ((field 2).toNat ≤ committed.toNat → check = .error .stale)
              ∧ (committed.toNat < (field 2).toNat → word 4 = 1 → check = .ok (.header (field 2) .full (word 7)))
              ∧ (committed.toNat < (field 2).toNat → word 4 = 2 → field 5 ≠ committed ∨ committed = 0 →
                check = .error .base)
              ∧ (committed.toNat < (field 2).toNat → word 4 = 2 → field 5 = committed → committed ≠ 0 →
                check = .ok (.header (field 2) .delta (word 7)))))
      ∧ (kind = 2 →
        (serial = 0 ∨ field 6 = 0 ∨ 1 < word 9 → check = .error .shape)
          ∧ (¬ (serial = 0 ∨ field 6 = 0 ∨ 1 < word 9) →
            check = .ok (.entry ⟨serial, field 6, wordAt r 8, .block (decide (word 9 = 1))⟩ 0)))
      ∧ (kind = 3 →
        (serial = 0 ∨ field 6 = 0 ∨ 2000000 < (field 10).toNat ∨ 4 < word 14 → check = .error .shape)
          ∧ (¬ (serial = 0 ∨ field 6 = 0 ∨ 2000000 < (field 10).toNat ∨ 4 < word 14) →
            check = .ok (.entry
              ⟨serial, field 6, wordAt r 13, .restore ⟨field 8, field 10, wordAt r 12, []⟩⟩ (word 14))))
      ∧ (kind = 4 →
        (word 2 = 0 ∨ word 5 < word 4 ∨ word 6 = 0 ∨ 2 < word 6 → check = .error .shape)
          ∧ (¬ (word 2 = 0 ∨ word 5 < word 4 ∨ word 6 = 0 ∨ 2 < word 6) →
            check = .ok (.pass ⟨wordAt r 2, wordAt r 3, wordAt r 4, wordAt r 5,
              if word 6 = 1 then .fill else .replace⟩)))
      ∧ (kind = 5 →
        (serial = 0 ∨ field 6 = 0 ∨ full → check = .error .shape)
          ∧ (¬ (serial = 0 ∨ field 6 = 0 ∨ full) → check = .ok (.effect (.cancel serial (field 6)))))
      ∧ (kind = 9 → (full → check = .error .shape) ∧ (¬ full → check = .ok (.effect (.clock (field 2)))))
      ∧ (kind = 10 → (full → check = .error .shape) ∧ (¬ full → check = .ok (.effect .sweep)))
      ∧ (kind = 11 → ∀ x, staging = some x →
        (word 2 ≠ x.expected ∨ word 1 ≠ x.expected → check = .error .count)
          ∧ (word 2 = x.expected → word 1 = x.expected → field 5 ≠ x.number ∨ field 3 ≠ ~~~x.crc →
            check = .error .fileCheck)
          ∧ (word 2 = x.expected → word 1 = x.expected → field 5 = x.number → field 3 = ~~~x.crc →
            check = .ok .trailer))

/-- R43, R44, R191: the checks of SETUP-WINDOWS, SETUP-POLICY and SETUP-KEYS. A field out of range refuses the file with
SETUP-RANGE; windows in range of which two share a byte, or one a byte with the file window, refuse it with SETUP-
CONFLICT; any other record asks for the setup part its fields spell, unless 64 effects are held already (SHAPE; tested
last: log 46). A disabled region holds no base (log 26). -/
def Obligations.SetupRecordsChecked : Prop :=
  ∀ (committed : BitVec 32) (f : FileWindow) (capacity : Nat) (staging : Option StagingFile) (r : FileRecord),
    let kind : Nat := (highByte (wordAt r 0)).toNat
    let word (k : Nat) : Nat := (wordAt r k).toNat
    let high (k : Nat) : Nat := (highByte (wordAt r k)).toNat
    let low (k : Nat) : Nat := (lowByte (wordAt r k)).toNat
    let field (k : Nat) : Nat := (joinWords (wordAt r k) (wordAt r (k + 1))).toNat
    let full : Prop := ∃ x, staging = some x ∧ 64 ≤ x.effects.length
    let check := kindCheck committed (some f) capacity staging r
    (kind = 6 →
        let image (k : Nat) : Option (BitVec 18) :=
          if (wordAt r k).getLsbD 15 then some (lowByte (wordAt r k) ++ (wordAt r (k + 1)).extractLsb' 6 10) else none
        let address (k : Nat) : BitVec 24 := lowByte (wordAt r k) ++ wordAt r (k + 1)
        let windows : Windows :=
          ⟨⟨image 2, image 4, image 6, image 8⟩,
            if high 12 = 1 then some ⟨address 10, low 12⟩ else none,
            if (wordAt r 13).getLsbD 15 then some (address 13) else none⟩
        let outOfRange : Prop :=
          1 < high 12 ∨ (high 12 = 1 ∧ (6 < low 12 ∨ (address 10).toNat % (4096 * 2 ^ low 12) ≠ 0))
            ∨ ((wordAt r 13).getLsbD 15 = true ∧ ((address 13).toNat % 2 ≠ 0 ∨ 0xFFFFFC < (address 13).toNat))
        let conflict : Prop := regionsMeet ((f.base.toNat, f.bytes) :: windows.regions)
        (outOfRange → check = .error .setupRange)
          ∧ (¬ outOfRange → conflict → check = .error .setupConflict)
          ∧ (¬ outOfRange → ¬ conflict → full → check = .error .shape)
          ∧ (¬ outOfRange → ¬ conflict → ¬ full → check = .ok (.effect (.windows windows))))
      ∧ (kind = 7 →
        let inRange : Prop :=
          high 2 ≤ 1 ∧ low 2 ≤ 1 ∧ 2 ≤ word 3 ∧ word 3 ≤ 250 ∧ 1 ≤ word 4 ∧ word 4 ≤ 60 ∧ 1 ≤ high 5 ∧ low 5 ≤ 30
            ∧ field 6 ≤ 86399 ∧ high 8 ≤ 7 ∧ low 8 ≤ 1 ∧ (word 9 ≤ 23 ∨ word 9 = 255)
            ∧ (word 10 ≤ 59 ∨ word 10 = 255) ∧ 1 ≤ field 11 ∧ field 11 ≤ 2000000 ∧ high 13 ≤ 2
            ∧ 1 ≤ low 13 ∧ low 13 ≤ 15
        (¬ inRange → check = .error .setupRange)
          ∧ (inRange → full → check = .error .shape)
          ∧ (inRange → ¬ full → check = .ok (.effect (.policy
            { mode := if high 2 = 1 then .active else .bypass
              holdLimit := word 3, awaitLimit := word 4, followTolerance := high 5, retentionDays := low 5
              serviceOffset := field 6, sweepWeekday := high 8, scheduleEnabled := decide (low 8 = 1)
              sweepHour := word 9, sweepMinute := word 10, purseCeiling := field 11
              attentionMode := if high 13 = 0 then .off else if high 13 = 1 then .single else .repeated
              attentionHold := low 13 }
            (decide (low 2 = 1))))))
      ∧ (kind = 8 →
        let key (k : Nat) : JournalKey :=
          ⟨highByte (wordAt r (2 + 2 * k)), lowByte (wordAt r (2 + 2 * k)),
            if word (3 + 2 * k) = 0 then .none else if word (3 + 2 * k) = 1 then .tap else .heartbeat⟩
        let inRange : Prop := word 3 ≤ 2 ∧ word 5 ≤ 2 ∧ word 7 ≤ 2 ∧ word 9 ≤ 2
        (¬ inRange → check = .error .setupRange)
          ∧ (inRange → full → check = .error .shape)
          ∧ (inRange → ¬ full → check = .ok (.effect (.keys ⟨key 0, key 1, key 2, key 3⟩))))

/-- R32, R35 to R42, R45, R193: the write that completes word 15 of a record, at the cursor. The cursor moves on, or is
CLOSED after a record of kind TRAILER (past the window's last word it stands one word beyond: log 45). With two records
buffered the write is held with its record. Otherwise the record joins the buffer and the write passes; where intake had
nothing in hand it is taken at once: refused for the reason its checks give, or dealt with according to its kind. When an
answer frees a place and the next record is staged in its turn, the held record joins the buffer and its write is
released. What the model chooses here: where the cursor stands past the window's last word (log 45), that the held write
has moved the cursor (log 30), that the checks of a record fall in the step of the write or answer that lets them be made
(log 38), and that the claim they bring competes for the next grant (log 14). -/
def Obligations.RecordCompleted : Prop :=
  (∀ (s : State) (w : BitVec 23) (b written : LaneBytes) (k : Nat) (u l : Byte), s.takesAtOnce →
    s.region w = .file k → b.upper.isSome ∨ b.lower.isSome → s.intake.state = .receiving →
    s.intake.cursor = .onWord k written → k % 16 = 15 → overlaid written b = ⟨some u, some l⟩ → s.intake.held = none →
    let r : FileRecord := s.intake.assembly ++ [joinBytes u l]
    let entered (i : Intake) : Intake :=
      { i with
        assembly := []
        cursor := if (highByte (wordAt r 0)).toNat = 11 then .closed else .onWord (k + 1) ⟨none, none⟩ }
    let passed : MemoryPath := s.path.carrying ⟨w, .fileIntake, .write b .pass⟩ none ⟨none, none⟩
    (s.intakeOutstanding = true → 2 ≤ s.intake.buffer.length →
        exec (.fileWindowWrite w b) s = .next { s with
          path := s.path.carrying ⟨w, .fileIntake, .write b .hold⟩ (some s.setup.policy.holdLimit) ⟨none, none⟩
          intake := { entered s.intake with held := some r } })
      ∧ (s.intakeOutstanding = true → s.intake.buffer.length < 2 →
        ∃ t, exec (.fileWindowWrite w b) s = .next t
          ∧ s.memoryTakes t.toPart w b
          ∧ t = { s with
              path := passed, memory := t.memory
              intake := { entered s.intake with buffer := s.intake.buffer ++ [r] } })
      ∧ (s.intakeOutstanding = false → s.intake.discardOwed = false → s.intake.buffer = [] →
        let comesTo (q : Part → Part) : Prop :=
          ∃ t, exec (.fileWindowWrite w b) s = .next t
            ∧ s.memoryTakes t.toPart w b
            ∧ t = { s with toPart := Part.grant (q { s.toPart with path := passed, memory := t.memory }) }
        (∀ reason, checkRecord s.fileNumber s.path.fileWindow s.intake.staging r = .error reason →
            comesTo fun p => { p with
              arbiter := { s.arbiter with intake := some .discard }
              intake := { s.intake with
                state := .draining, cursor := .closed, assembly := [], buffer := [], staging := none,
                trailerBuffered := false, held := none }
              counters := { s.counters with
                filesRefused := raised s.counters.filesRefused, lastRefusal := some reason, refusalMark := true } })
          ∧ (∀ number kind expected, checkRecord s.fileNumber s.path.fileWindow s.intake.staging r
              = .ok (.header number kind expected) →
            comesTo fun p => { p with
              intake := { entered s.intake with
                staging := some
                  { number := number, kind := kind, expected := expected, taken := 1
                    crc := crc32Run 0xFFFFFFFF r, owed := 0, effects := [], restoreEntry := none } } })
          ∧ ∀ f, s.intake.staging = some f →
            (∀ e owed, checkRecord s.fileNumber s.path.fileWindow (some f) r = .ok (.entry e owed) →
                comesTo fun p => { p with
                  arbiter := { s.arbiter with intake := some (.stageEntry e f.number) }
                  intake := { entered s.intake with
                    buffer := [r]
                    staging := some { f with taken := f.taken + 1, crc := crc32Run f.crc r, owed := owed } } })
              ∧ (∀ q, checkRecord s.fileNumber s.path.fileWindow (some f) r = .ok (.pass q) →
                comesTo fun p => { p with
                  arbiter := { s.arbiter with intake := some (.stagePass f.restoreEntry q) }
                  intake := { entered s.intake with
                    buffer := [r], staging := some { f with taken := f.taken + 1, crc := crc32Run f.crc r } } })
              ∧ (∀ x, checkRecord s.fileNumber s.path.fileWindow (some f) r = .ok (.effect x) →
                comesTo fun p => { p with
                  intake := { entered s.intake with
                    staging := some
                      { f with taken := f.taken + 1, crc := crc32Run f.crc r, effects := f.effects ++ [x] } } })
              ∧ (checkRecord s.fileNumber s.path.fileWindow (some f) r = .ok .trailer →
                comesTo fun p => { p with
                  arbiter := { s.arbiter with intake := some (.commit ⟨f.number, f.kind, f.effects⟩) }
                  intake := { entered s.intake with
                    buffer := [r], trailerBuffered := true, staging := some { f with taken := f.taken + 1 } } })))
    ∧ ∀ (s : State) (w : BitVec 23) (b : LaneBytes) (n : Nat) (q : PassRecord) (first next held : FileRecord)
      (f : StagingFile) (e : EntryRecord) (owed : Nat), 0 < s.store.freePasses →
      s.path.cycle = some ⟨w, .fileIntake, .write b .hold⟩ →
      s.arbiter.op = some (.intake (.stagePass (some n) q)) → s.arbiter.intake = none →
      s.intake.answerIgnored = false → s.intake.discardOwed = false →
      s.intake.buffer = [first, next] → s.intake.held = some held → s.intake.staging = some f →
      checkRecord s.fileNumber s.path.fileWindow (some { f with owed := f.owed - 1 }) next = .ok (.entry e owed) →
      ∃ t, exec .stagePass s = .next t
        ∧ s.memoryTakes t.toPart w b
        ∧ t = { s with
            toPart := Part.grant { s.toPart with
              path := s.path.carrying ⟨w, .fileIntake, .write b .pass⟩ none ⟨none, none⟩
              memory := t.memory, store := t.store
              arbiter := { s.arbiter with op := none, intake := some (.stageEntry e f.number) }
              intake := { s.intake with
                buffer := [next, held], held := none
                staging := some
                  { f with taken := f.taken + 1, crc := crc32Run f.crc next, owed := owed } } } }

/-- R35 to R45: what file intake does with its buffer before it waits again. With an operation outstanding, a discard
owed or an empty buffer, and no record held, nothing. A held record joins the buffer where a place is free, and its write
goes to memory. With nothing outstanding or owed the head record is taken: the file is refused for the reason its checks
give, a held write released, or the record is dealt with according to its kind; and intake goes on with the records that
are left. That all of it falls in the step of the write or answer that sets it off is the model's choice (log 38). -/
def Obligations.IntakeGoesOn : Prop :=
  ∀ p : Part,
    let busy : Prop := p.intakeOutstanding = true ∨ p.intake.discardOwed = true
    (p.intake.held = none → p.intake.buffer = [] ∨ busy → p.intakeWork = p)
      ∧ (busy → 2 ≤ p.intake.buffer.length → p.intakeWork = p)
      ∧ (∀ w b r, p.path.cycle = some ⟨w, .fileIntake, .write b .hold⟩ → p.intake.held = some r →
        let joined (q : Part) : Prop :=
          p.memoryTakes q w b
            ∧ q = { p with
                path := p.path.carrying ⟨w, .fileIntake, .write b .pass⟩ none ⟨none, none⟩, memory := q.memory
                intake := { p.intake with buffer := p.intake.buffer ++ [r], held := none } }
        (busy → p.intake.buffer.length < 2 → joined p.intakeWork)
          ∧ (¬ busy → p.intake.buffer = [] → ∃ q, joined q ∧ p.intakeWork = q.intakeWork))
      ∧ ∀ r rest, p.intake.buffer = r :: rest → rest.length < 2 → ¬ busy →
        (∀ reason, checkRecord p.fileNumber p.path.fileWindow p.intake.staging r = .error reason →
            p.heldWriteReleased p.intakeWork
              ∧ p.intakeWork =
                { p.fileRefused reason with path := p.intakeWork.path, memory := p.intakeWork.memory })
          ∧ (∀ number kind expected,
            checkRecord p.fileNumber p.path.fileWindow p.intake.staging r = .ok (.header number kind expected) →
            p.intakeWork = Part.intakeWork { p with
              intake := { p.intake with
                buffer := rest
                staging := some
                  { number := number, kind := kind, expected := expected, taken := 1
                    crc := crc32Run 0xFFFFFFFF r, owed := 0, effects := [], restoreEntry := none } } })
          ∧ ∀ f, p.intake.staging = some f →
            let check := checkRecord p.fileNumber p.path.fileWindow (some f) r
            let counted : StagingFile := { f with taken := f.taken + 1, crc := crc32Run f.crc r }
            (∀ e owed, check = .ok (.entry e owed) →
                p.intakeWork = Part.intakeWork { p with
                  arbiter := { p.arbiter with intake := some (.stageEntry e f.number) }
                  intake := { p.intake with staging := some { counted with owed := owed } } })
              ∧ (∀ q, check = .ok (.pass q) →
                p.intakeWork = Part.intakeWork { p with
                  arbiter := { p.arbiter with intake := some (.stagePass f.restoreEntry q) }
                  intake := { p.intake with staging := some counted } })
              ∧ (∀ x, check = .ok (.effect x) →
                p.intakeWork = Part.intakeWork { p with
                  intake := { p.intake with
                    buffer := rest, staging := some { counted with effects := f.effects ++ [x] } } })
              ∧ (check = .ok .trailer →
                p.intakeWork = Part.intakeWork { p with
                  arbiter := { p.arbiter with intake := some (.commit ⟨f.number, f.kind, f.effects⟩) }
                  intake := { p.intake with
                    trailerBuffered := true, staging := some { f with taken := f.taken + 1 } } })

/-! ## The image windows -/

/-- R53, R56, R57, R59: a write to the window of a context with no presentation in hand, or with one in FILLING or LOOKUP
that goes on. Word 0 begins a presentation in EMPTY, and in FILLING begins it afresh unless it drives the one lane of word
0 not yet written. In FILLING any other write enters the image copy; in LOOKUP a write to words 1 to 31 is noted. In EMPTY
a write to words 1 to 31 is unobserved. Every such write reaches memory as driven and changes nothing else. -/
def Obligations.ImageWritesFollowed : Prop :=
  ∀ (s : State) (w : BitVec 23) (b : LaneBytes) (n : Fin 4) (k : Nat) (c : Context), s.takesAtOnce →
    s.region w = .image n k → b.upper.isSome ∨ b.lower.isSome →
    let afresh : Context := .filling ((List.replicate 32 ⟨none, none⟩).set 0 b)
    let drivesOtherLane (x : LaneBytes) : Prop :=
      x.upper.isSome ≠ x.lower.isSome ∧ b.upper.isSome = x.lower.isSome ∧ b.lower.isSome = x.upper.isSome
    (s.context n = .empty ∧ k = 0 ∧ c = afresh
      ∨ s.context n = .empty ∧ k ≠ 0 ∧ c = .empty
      ∨ (∃ copy, s.context n = .filling copy ∧ k = 0 ∧ ¬ drivesOtherLane (lanesAt copy 0) ∧ c = afresh)
      ∨ (∃ copy, s.context n = .filling copy ∧ (k = 0 → drivesOtherLane (lanesAt copy 0))
          ∧ (k = 31 → complete (overlaid (lanesAt copy 31) b) = false)
          ∧ c = .filling (copy.set k (overlaid (lanesAt copy k) b)))
      ∨ ∃ snapshot written, s.context n = .lookup snapshot written ∧ k ≠ 0
          ∧ c = .lookup snapshot (written.set k
            ⟨(written.getD k ⟨false, false⟩).upper || b.upper.isSome,
              (written.getD k ⟨false, false⟩).lower || b.lower.isSome⟩)) →
    ∃ t, exec (.imageWindowWrite w b) s = .next t
      ∧ s.memoryTakes t.toPart w b
      ∧ t = { s with
          path := s.path.carrying ⟨w, .context n, .write b .pass⟩ none ⟨none, none⟩
          memory := t.memory
          contexts := fourWith s.contexts n c }

/-- R58, R19: the write that completes word 31 closes the image: a whole, good image is snapshotted and a lookup claimed,
behind those that wait, and granted where it falls to be; any other leaves the context EMPTY. -/
def Obligations.ImageCloses : Prop :=
  ∀ (s : State) (w : BitVec 23) (b : LaneBytes) (n : Fin 4) (copy : List LaneBytes) (image : List Word),
    s.takesAtOnce → s.region w = .image n 31 → b.upper.isSome ∨ b.lower.isSome →
    s.context n = .filling copy → complete (overlaid (lanesAt copy 31) b) = true → copy.length = 32 →
    image = (copy.set 31 (overlaid (lanesAt copy 31) b)).map
      (fun x => joinBytes (x.upper.getD 0) (x.lower.getD 0)) →
    let good : Prop :=
      (∀ k < 31, complete (lanesAt copy k) = true) ∧ wordAt image 31 = crc16 (image.take 31) ∧ imageSerial image ≠ 0
    let passed : MemoryPath := s.path.carrying ⟨w, .context n, .write b .pass⟩ none ⟨none, none⟩
    (good →
        ∃ t, exec (.imageWindowWrite w b) s = .next t
          ∧ s.memoryTakes t.toPart w b
          ∧ t = { s with
              toPart := Part.grant { s.toPart with
                path := passed, memory := t.memory
                contexts := fourWith s.contexts n (.lookup image (List.replicate 32 ⟨false, false⟩))
                arbiter := { s.arbiter with lookups := s.arbiter.lookups ++ [(n, imageSerial image)] } } })
      ∧ (¬ good →
        ∃ t, exec (.imageWindowWrite w b) s = .next t
          ∧ s.memoryTakes t.toPart w b
          ∧ t = { s with path := passed, memory := t.memory, contexts := fourWith s.contexts n .empty })

/-- R12, R18, R20, R69 to R71: a write to word 0 in LOOKUP, AMENDED or SETTLED gives up the presentation in hand and
begins the next. In LOOKUP its waiting lookup is withdrawn, the answer of a granted one will be discarded, and nothing is
counted. In AMENDED and SETTLED its entry reference is released, its RESERVED outcome leaves the queue, and it is counted
where it is unconfirmed and its await has not expired. The write reaches memory as driven. That a release which meets an
operation waits to be taken is the model's choice (log 15). -/
def Obligations.PresentationOvertaken : Prop :=
  ∀ (s : State) (w : BitVec 23) (b : LaneBytes) (n : Fin 4), s.takesAtOnce → s.region w = .image n 0 →
    b.upper.isSome ∨ b.lower.isSome →
    let passed : MemoryPath := s.path.carrying ⟨w, .context n, .write b .pass⟩ none ⟨none, none⟩
    let begun : Context := .filling ((List.replicate 32 ⟨none, none⟩).set 0 b)
    (∀ snapshot written, s.context n = .lookup snapshot written →
        ∃ t, exec (.imageWindowWrite w b) s = .next t
          ∧ s.memoryTakes t.toPart w b
          ∧ t = { s with
              path := passed, memory := t.memory, contexts := fourWith s.contexts n begun
              arbiter := { s.arbiter with
                lookups := s.arbiter.lookups.filter fun c => c.1 != n
                op := s.arbiter.op.map fun o => match o with
                  | .lookup m serial wanted => .lookup m serial (wanted && m != n)
                  | x => x } })
      ∧ ∀ pr, (s.context n).holds pr →
        ∃ t, exec (.imageWindowWrite w b) s = .next t
          ∧ s.memoryTakes t.toPart w b
          ∧ t = { s with
              path := passed, memory := t.memory, contexts := fourWith s.contexts n begun
              store := if s.arbiter.op = none then s.store.unpin pr.entry else s.store
              arbiter := if s.arbiter.op = none then s.arbiter
                else { s.arbiter with releases := s.arbiter.releases ++ [pr.entry] }
              queue := { s.queue with
                checkFault := 0, outcomes := s.queue.outcomes.filter fun o => o.state != .reserved n }
              counters := if pr.confirmed = false ∧ pr.await ≠ .expired
                then { s.counters with unconfirmed := raised s.counters.unconfirmed } else s.counters }

/-- R60, R65, R164: a read of the window of a context in LOOKUP is held against the hold limit. A read of a PENDING
overlay word in AMENDED is served in both lanes; a read of any other word of the window outside LOOKUP returns memory's
data. None of them changes anything but the cycle in progress. -/
def Obligations.ImageReadAnswered : Prop :=
  ∀ (s : State) (w : BitVec 23) (l : Lanes) (n : Fin 4) (k : Nat), s.takesAtOnce → s.region w = .image n k →
    l.upper = true ∨ l.lower = true →
    (∀ snapshot written, s.context n = .lookup snapshot written →
        exec (.imageWindowRead w l) s =
          .next { s with
            path := s.path.carrying ⟨w, .context n, .read l .hold⟩ (some s.setup.policy.holdLimit) ⟨none, none⟩ })
      ∧ (∀ pr o, s.context n = .amended pr → pr.overlay.find? (·.word == k) = some o → o.pending = true →
        exec (.imageWindowRead w l) s =
          .next { s with
            path := s.path.carrying ⟨w, .context n, .read l (.serve o.value)⟩ none
              ⟨some (highByte o.value), some (lowByte o.value)⟩ })
      ∧ ((∀ snapshot written, s.context n ≠ .lookup snapshot written) →
          (∀ pr o, s.context n = .amended pr → pr.overlay.find? (·.word == k) = some o → o.pending = false) →
          exec (.imageWindowRead w l) s =
            .next { s with
              path := s.path.carrying ⟨w, .context n, .read l .pass⟩ none
                ⟨if l.upper then some (s.memoryByte (2 * w.toNat)) else none,
                  if l.lower then some (s.memoryByte (2 * w.toNat + 1)) else none⟩ })

/-- R54, R67, R68, R163: a write to words 1 to 31 in AMENDED and SETTLED is noted in the words-written record (log 27),
and drops its word from the overlay. Memory takes the bytes driven, and, where the word is PENDING and one lane is driven,
the overlay's byte in the other lane. In AMENDED settling ends with the drop of the last PENDING word: SETTLED where the
presentation is unconfirmed and its await runs, and otherwise EMPTY, its entry reference released (as a release to be
taken where an operation is in progress: log 15). -/
def Obligations.OverlayWordWritten : Prop :=
  ∀ (s : State) (w : BitVec 23) (b : LaneBytes) (n : Fin 4) (k : Nat) (pr : Presentation),
    s.takesAtOnce → s.region w = .image n k → k ≠ 0 → b.upper.isSome ∨ b.lower.isSome →
    let noted : Presentation :=
      { pr with
        written := pr.written.set k
          ⟨(pr.written.getD k ⟨false, false⟩).upper || b.upper.isSome,
            (pr.written.getD k ⟨false, false⟩).lower || b.lower.isSome⟩ }
    let dropped : Presentation := { noted with overlay := pr.overlay.filter (·.word != k) }
    let comesTo (taken : LaneBytes) (answer : WriteAnswer) (c : Context) (released : Bool) : Prop :=
      ∃ t, exec (.imageWindowWrite w b) s = .next t
        ∧ s.memoryTakes t.toPart w taken
        ∧ t = { s with
            path := s.path.carrying ⟨w, .context n, .write b answer⟩ none ⟨none, none⟩
            memory := t.memory
            contexts := fourWith s.contexts n c
            store := if released = true ∧ s.arbiter.op = none then s.store.unpin pr.entry else s.store
            arbiter := if released = true ∧ s.arbiter.op ≠ none
              then { s.arbiter with releases := s.arbiter.releases ++ [pr.entry] } else s.arbiter }
    (pr.overlay.find? (·.word == k) = none →
        (s.context n = .amended pr → comesTo b .pass (.amended noted) false)
          ∧ (s.context n = .settled pr → comesTo b .pass (.settled noted) false))
      ∧ ∀ o, pr.overlay.find? (·.word == k) = some o →
        let taken : LaneBytes :=
          if o.pending then ⟨some (b.upper.getD (highByte o.value)), some (b.lower.getD (lowByte o.value))⟩ else b
        let answer : WriteAnswer :=
          if o.pending = true ∧ ¬ (b.upper.isSome ∧ b.lower.isSome) then .substitute taken else .pass
        (s.context n = .settled pr → comesTo taken answer (.settled dropped) false)
          ∧ (s.context n = .amended pr → dropped.overlay.any (·.pending) = true →
            comesTo taken answer (.amended dropped) false)
          ∧ (s.context n = .amended pr → dropped.overlay.any (·.pending) = false →
            (pr.confirmed = false → ∀ limit, pr.await = .running limit → comesTo taken answer (.settled dropped) false)
              ∧ (pr.confirmed = true ∨ (∀ limit, pr.await ≠ .running limit) → comesTo taken answer .empty true))

/-! ## The journal -/

/-- R107: a key matches a kind byte that agrees with its value in every bit position where its mask holds 0; mask FF hex
matches every byte, mask 00 hex the value alone; the first key of the four that matches gives the role, NONE if no key
does; after a cold start, and after verification has found the setup damaged, every key holds value 0, mask 0 and role
NONE, and no kind byte then has a role other than NONE. -/
def Obligations.FirstMatchingKeyGivesRole : Prop :=
  (∀ (k : JournalKey) (kind : Byte),
      (k.matchesKind kind = true ↔
          ∀ i < 8, k.mask.getLsbD i = false → kind.getLsbD i = k.value.getLsbD i)
        ∧ (k.mask = 0xFF → k.matchesKind kind = true)
        ∧ (k.mask = 0x00 → (k.matchesKind kind = true ↔ kind = k.value)))
    ∧ (∀ (keys : Four JournalKey) (kind : Byte),
      roleOf keys kind =
        (([keys.c0, keys.c1, keys.c2, keys.c3].find? fun k => k.matchesKind kind).map (·.role)).getD .none)
    ∧ (∀ p : Part,
      p.coldInit.setup.keys = ⟨⟨0, 0, .none⟩, ⟨0, 0, .none⟩, ⟨0, 0, .none⟩, ⟨0, 0, .none⟩⟩
        ∧ (p.setupFault ≠ 0 →
          p.verifySetup.setup.keys = ⟨⟨0, 0, .none⟩, ⟨0, 0, .none⟩, ⟨0, 0, .none⟩, ⟨0, 0, .none⟩⟩))
    ∧ ∀ kind : Byte, roleOf ⟨⟨0, 0, .none⟩, ⟨0, 0, .none⟩, ⟨0, 0, .none⟩, ⟨0, 0, .none⟩⟩ kind = .none

/-- R106, R108, R110, R117, R121: a write to a record's word 0 reaches memory as driven. Where it drives the one lane of
word 0 that the assembly of that record lacks, it completes the word there. Any other begins an assembly, and the assembly
in hand is abandoned: an ATTACHED outcome that an amendable tap record holds becomes UNREPORTED in its place, with its
number. A word 0 complete gives the role its kind byte has; a heartbeat's report is frozen then and the recorded-since-
freeze marks cleared. -/
def Obligations.JournalRecordBegins : Prop :=
  ∀ (s : State) (w : BitVec 23) (b : LaneBytes) (r : Nat), s.takesAtOnce → s.region w = .journal r 0 →
    b.upper.isSome ∨ b.lower.isSome →
    let drivesOtherLane (x : LaneBytes) : Prop :=
      x.upper.isSome ≠ x.lower.isSome ∧ b.upper.isSome = x.lower.isSome ∧ b.lower.isSome = x.upper.isSome
    let passed : MemoryPath := s.path.carrying ⟨w, .journalWatcher, .write b .pass⟩ none ⟨none, none⟩
    let marks (kind : Byte) : Counters :=
      match roleOf s.setup.keys kind with
      | .none => s.counters
      | .tap => s.counters
      | .heartbeat => { s.counters with refusalMark := false, deferralMark := false }
    let role (kind : Byte) (report : Report) : AssemblyRole :=
      match roleOf s.setup.keys kind with
      | .none => .none
      | .tap => .tap false .notAsked false
      | .heartbeat => .heartbeat report
    (∀ queue : OutcomeQueue,
      (s.journal = none ∨ ∃ a, s.journal = some a ∧ ¬ (a.record = r ∧ drivesOtherLane (lanesAt a.copy 0))) →
      ((∀ a offered o q c, s.journal = some a → a.role ≠ .tap offered (.outcome o q c) false) → queue = s.queue) →
      (∀ a offered o q c, s.journal = some a → a.role = .tap offered (.outcome o q c) false →
        queue = { s.queue with
          checkFault := 0
          outcomes := s.queue.outcomes.map fun x => match x.state with
            | .reserved _ => x
            | .attached n => { x with state := .unreported n }
            | .unreported _ => x }) →
      (∀ kind sub, b = ⟨some kind, some sub⟩ →
          ∃ t, exec (.journalWrite w b) s = .next t
            ∧ s.memoryTakes t.toPart w b
            ∧ t = { s with
                path := passed, memory := t.memory, queue := queue, counters := marks kind
                journal := some
                  { record := r, role := role kind { s.toPart with queue := queue }.report
                    copy := (List.replicate 32 ⟨none, none⟩).set 0 b, closing := none } })
        ∧ (b.upper = none ∨ b.lower = none →
          ∃ t, exec (.journalWrite w b) s = .next t
            ∧ s.memoryTakes t.toPart w b
            ∧ t = { s with
                path := passed, memory := t.memory, queue := queue
                journal := some
                  { record := r, role := .pending
                    copy := (List.replicate 32 ⟨none, none⟩).set 0 b, closing := none } }))
      ∧ ∀ a kind sub, s.journal = some a → a.record = r → drivesOtherLane (lanesAt a.copy 0) →
        overlaid (lanesAt a.copy 0) b = ⟨some kind, some sub⟩ →
        ∃ t, exec (.journalWrite w b) s = .next t
          ∧ s.memoryTakes t.toPart w b
          ∧ t = { s with
              path := passed, memory := t.memory
              counters := if a.role = .pending then marks kind else s.counters
              journal := some { a with
                copy := a.copy.set 0 ⟨some kind, some sub⟩
                role := if a.role = .pending then role kind s.toPart.report else a.role } }

/-- R23, R131 to R133, R189: a report carries the oldest UNREPORTED outcome if there is one and the previous completed
page is COUNTERS, and the counters otherwise; its summary carries the part's figures at the freeze. Its 23 words are the
page in words 8 to 19 and the summary in words 20 to 30 of the record. -/
def Obligations.ReportFreezesFigures : Prop :=
  (∀ s : State,
    (∀ (before after : List Outcome) (o : Outcome), s.previousPage = .counters →
        s.queue.outcomes = before ++ o :: after → (∀ x ∈ before, x.isUnreported = false) → o.isUnreported = true →
        s.toPart.report.page = .outcome o)
      ∧ ((s.previousPage = .outcome ∨ ∀ x ∈ s.queue.outcomes, x.isUnreported = false) →
          s.toPart.report.page = .counters s.counters)
      ∧ s.toPart.report = { s.toPart.report with
          supply := s.supply, mode := s.setup.policy.mode, fileNumber := s.fileNumber
          visible := (s.store.entries.filter fun x => x.2.visible).length
          available := (16384 - s.store.entries.length)
            + (s.store.entries.filter fun x => x.2.state == .dead && x.2.pins == 0).length
          freePasses := s.store.freePasses
          unreported := (s.queue.outcomes.filter fun o => o.isUnreported).length
          reservedOrAttached := (s.queue.outcomes.filter fun o => !o.isUnreported).length
          seconds := s.clock.seconds, clockState := s.clock.state, locked := s.locked, tableLost := s.tableLost
          setupIgnored := s.setupIgnored, sweepRunning := s.sweep.isSome, ordinal := s.queue.ordinal })
    ∧ (∀ x : Report,
      (∀ o q, x.page = .outcome o → o.state = .unreported q → x.words.take 12 =
          [1, serialWord o.serial 0, serialWord o.serial 1, serialWord o.serial 2, serialWord o.serial 3,
            highWord o.action, lowWord o.action, highWord o.value, lowWord o.value, joinBytes o.kind.code 0,
            joinBytes (BitVec.ofNat 8 o.passes) (BitVec.ofNat 8 o.passesDropped), q])
        ∧ (∀ c, x.page = .counters c → x.words.take 12 =
          [2, c.presentations, c.restoresConfirmed, c.blocksConfirmed, c.observed, c.deferrals, c.unconfirmed,
            c.holdExpiries, c.filesCommitted, c.filesRefused,
            joinBytes ((c.lastRefusal.map FileRefusal.code).getD 0) ((c.lastDeferral.map DeferReason.code).getD 0),
            c.observedDropped])
        ∧ x.words.drop 12 =
          [joinBytes x.supply.code x.mode.code, highWord x.fileNumber, lowWord x.fileNumber,
            BitVec.ofNat 16 x.visible, BitVec.ofNat 16 x.available, BitVec.ofNat 16 x.freePasses,
            joinBytes (BitVec.ofNat 8 x.unreported) (BitVec.ofNat 8 x.reservedOrAttached),
            if x.clockState = .unset then 0 else highWord x.seconds,
            if x.clockState = .unset then 0 else lowWord x.seconds,
            BitVec.ofNat 16 (x.clockState.code.toNat + (if x.locked then 4 else 0) + (if x.tableLost then 8 else 0)
              + (if x.setupIgnored then 16 else 0) + (if x.sweepRunning then 32 else 0)),
            x.ordinal])
    ∧ (∀ e : Entry, e.visible = true ↔ e.state = .live ∨ ∃ d, e.state = .applied d)
    ∧ [OutcomeKind.restored, .captured, .observed].map OutcomeKind.code = [1, 2, 3]
    ∧ [SupplyState.off, .keep, .lockout, .verify, .run].map SupplyState.code = [0, 1, 2, 3, 4]
    ∧ [Mode.bypass, .active].map Mode.code = [0, 1]
    ∧ [ClockState.unset, .set, .following].map ClockState.code = [0, 1, 2]
    ∧ [DeferReason.clockUnset, .notYet, .backlog, .noRoom].map DeferReason.code = [1, 2, 3, 4]
    ∧ [FileRefusal.order, .stall, .badCheck, .noHeader, .stale, .base, .shape, .setupRange, .setupConflict, .tableFull,
        .poolFull, .overrun, .count, .fileCheck, .abandoned].map FileRefusal.code
      = [1, 2, 3, 4, 5, 6, 7, 8, 9, 10, 11, 12, 13, 14, 15]

/-- R72, R73, R113, R129: the write that completes word 4 of a tap record, words 0 to 3 complete and no annex word
written, confirms the RESTORE context in AMENDED that its serial matches: the outcome takes the sequence number and is
ATTACHED, a mark is claimed and one restore counted. The write reaches memory as driven. -/
def Obligations.SerialConfirmsRestore : Prop :=
  ∀ (s : State) (w : BitVec 23) (b : LaneBytes) (r : Nat) (a : Assembly) (n : Fin 4) (pr : Presentation)
    (o : Outcome) (limit : Nat),
    s.takesAtOnce → s.arbiter.op ≠ none → s.region w = .journal r 4 → s.journal = some a → a.record = r →
    a.role = .tap false .notAsked false → a.offers b = true → (a.enter 4 b).serial ≠ 0 →
    s.toPart.matching (a.enter 4 b).serial = some n → s.context n = .amended pr → pr.confirmed = false →
    pr.await = .running limit → pr.decision = .restore → s.toPart.outcomeHeld n = some o →
    ∃ t, exec (.journalWrite w b) s = .next t
      ∧ s.memoryTakes t.toPart w b
      ∧ t = { s with
          path := s.path.carrying ⟨w, .journalWatcher, .write b .pass⟩ none ⟨none, none⟩, memory := t.memory
          queue := { s.queue with
            checkFault := 0
            nextSequence := s.queue.nextSequence + 1
            outcomes := s.queue.outcomes.map fun x =>
              if x.state = .reserved n then { x with state := .attached s.queue.nextSequence } else x }
          counters := { s.counters with restoresConfirmed := raised s.counters.restoresConfirmed }
          arbiter := { s.arbiter with
            marks := s.arbiter.marks ++ [⟨pr.entry, imageSerial pr.snapshot, pr.action⟩] }
          contexts := fourWith s.contexts n (.amended { pr with confirmed := true, await := .stopped })
          journal := some { a with
            copy := a.copy.set 4 (overlaid (lanesAt a.copy 4) b)
            role := .tap true (.outcome o s.queue.nextSequence s.clock.state) false } }

/-- R72, R73, R113, R114, R129: a serial offered, of an amendable record or of one whose annex was written early. It
matches the context open to confirmation that carries it and whose await timer started first; serial 0 matches none. With
no match the record keeps NO-MATCH and nothing else changes. A match confirms its context: the outcome it holds takes the
sequence number, ATTACHED or, under an annex written early, UNREPORTED; a RESTORE claims its mark; a restore or a block is
counted; a context in SETTLED is EMPTY, its entry reference released (log 15), and one in AMENDED goes on settling. -/
def Obligations.SerialOffered : Prop :=
  (∀ (p : Part) (serial : BitVec 64),
    let opens (n : Fin 4) : Prop := ∃ pr limit, (p.context n).holds pr ∧ pr.confirmed = false
      ∧ pr.await = .running limit ∧ imageSerial pr.snapshot = serial
    (∀ n, p.matching serial = some n ↔
        ∃ before after, p.awaitOrder = before ++ n :: after ∧ opens n ∧ ∀ m ∈ before, ¬ opens m)
      ∧ (p.matching serial = none ↔ ∀ m ∈ p.awaitOrder, ¬ opens m))
    ∧ (∀ (a : Assembly) (b : LaneBytes), a.copy.length = 32 →
      (a.offers b = true ↔ complete (lanesAt a.copy 4) = false ∧ complete (overlaid (lanesAt a.copy 4) b) = true
          ∧ ∀ k < 4, complete (lanesAt a.copy k) = true)
        ∧ ∀ x1 x2 x3 x4 : Word, lanesAt a.copy 1 = ⟨some (highByte x1), some (lowByte x1)⟩ →
          lanesAt a.copy 2 = ⟨some (highByte x2), some (lowByte x2)⟩ →
          lanesAt a.copy 3 = ⟨some (highByte x3), some (lowByte x3)⟩ →
          overlaid (lanesAt a.copy 4) b = ⟨some (highByte x4), some (lowByte x4)⟩ →
          (a.enter 4 b).serial = joinSerial x1 x2 x3 x4)
    ∧ ∀ (s : State) (w : BitVec 23) (b : LaneBytes) (r : Nat) (a : Assembly) (early : Bool), s.takesAtOnce →
      s.region w = .journal r 4 → s.journal = some a → a.record = r → a.role = .tap false .notAsked early →
      a.offers b = true →
      let serial : BitVec 64 := (a.enter 4 b).serial
      let passed : MemoryPath := s.path.carrying ⟨w, .journalWatcher, .write b .pass⟩ none ⟨none, none⟩
      let kept (answer : TapMatch) : Assembly :=
        { a with copy := a.copy.set 4 (overlaid (lanesAt a.copy 4) b), role := .tap true answer early }
      (serial = 0 ∨ s.toPart.matching serial = none →
          ∃ t, exec (.journalWrite w b) s = .next t
            ∧ s.memoryTakes t.toPart w b
            ∧ t = { s with path := passed, memory := t.memory, journal := some (kept .noMatch) })
        ∧ ∀ n pr, serial ≠ 0 → s.toPart.matching serial = some n → (s.context n).holds pr →
          let own : Option Outcome := s.queue.outcomes.find? fun o => o.state == .reserved n
          let settled : Prop := s.context n = .settled pr
          ∃ t, exec (.journalWrite w b) s = .next t
            ∧ s.memoryTakes t.toPart w b
            ∧ t = { s with
                toPart := Part.grant { s.toPart with
                  path := passed, memory := t.memory
                  journal := some (kept (match own with
                    | none => .matchOnly
                    | some o => .outcome o s.queue.nextSequence s.clock.state))
                  queue := match own with
                    | none => s.queue
                    | some _ => { s.queue with
                        checkFault := 0, nextSequence := s.queue.nextSequence + 1
                        outcomes := s.queue.outcomes.map fun x => if x.state = .reserved n then
                          { x with state :=
                              if early then .unreported s.queue.nextSequence else .attached s.queue.nextSequence }
                          else x }
                  counters := match pr.decision with
                    | .restore => { s.counters with restoresConfirmed := raised s.counters.restoresConfirmed }
                    | .block => { s.counters with blocksConfirmed := raised s.counters.blocksConfirmed }
                    | .blockOnly => { s.counters with blocksConfirmed := raised s.counters.blocksConfirmed }
                  arbiter := { s.arbiter with
                    marks := if pr.decision = .restore
                      then s.arbiter.marks ++ [⟨pr.entry, imageSerial pr.snapshot, pr.action⟩] else s.arbiter.marks
                    releases := if settled ∧ s.arbiter.op ≠ none then s.arbiter.releases ++ [pr.entry]
                      else s.arbiter.releases }
                  store := if settled ∧ s.arbiter.op = none then s.store.unpin pr.entry else s.store
                  contexts := fourWith s.contexts n
                    (if settled then .empty else .amended { pr with confirmed := true, await := .stopped }) } }

/-- R108, R111, R112, R114 to R116, R118, R163, R188: writes to words 1 to 31 of a journal record. Words 24 to 30 of an
amendable tap record with an outcome, and words 8 to 30 of a heartbeat, take the part's bytes in the lanes driven, in
memory and in the record copy; nothing else changes. Between the two lane writes of word 31 words 24 to 30 of the tap
record pass; that words 8 to 30 of a heartbeat are substituted there too is the model's deduction (log 41). The seven annex words are the outcome's kind and passes, action number, value, passes dropped
with the clock state, and sequence number. A write that the part does not substitute reaches memory as driven. With no
assembly in hand, or one of another record, it is unobserved. The assembly of its record enters it: role PENDING becomes
NONE, and the first annex word of a tap record whose serial has not been offered marks it written early. A record of role
NONE, or a tap record without an annex to carry, ends with the write that completes its word 31. -/
def Obligations.JournalWordsCarried : Prop :=
  (∀ (s : State) (w : BitVec 23) (b : LaneBytes) (r k : Nat) (a : Assembly) (words : List Word) (first : Nat),
    s.takesAtOnce → s.region w = .journal r k → b.upper.isSome ∨ b.lower.isSome → s.journal = some a →
    a.record = r → complete (lanesAt a.copy 31) = false → k ≤ 30 →
    ((∃ o q c, a.role = .tap true (.outcome o q c) false ∧ a.closing = none ∧ words = annexWords o q c ∧ first = 24
        ∧ 24 ≤ k)
      ∨ ∃ x, a.role = .heartbeat x ∧ words = x.words ∧ first = 8 ∧ 8 ≤ k) →
    let given : LaneBytes :=
      ⟨b.upper.map fun _ => highByte (wordAt words (k - first)),
        b.lower.map fun _ => lowByte (wordAt words (k - first))⟩
    ∃ t, exec (.journalWrite w b) s = .next t
      ∧ s.memoryTakes t.toPart w given
      ∧ t = { s with
          path := s.path.carrying ⟨w, .journalWatcher, .write b (.substitute given)⟩ none ⟨none, none⟩
          memory := t.memory
          journal := some { a with copy := a.copy.set k (overlaid (lanesAt a.copy k) given) } })
    ∧ (∀ (o : Outcome) (q : Word) (c : ClockState), annexWords o q c =
      [joinBytes o.kind.code (BitVec.ofNat 8 o.passes), highWord o.action, lowWord o.action, highWord o.value,
        lowWord o.value, joinBytes (BitVec.ofNat 8 o.passesDropped) c.code, q])
    ∧ ∀ (s : State) (w : BitVec 23) (b : LaneBytes) (r k : Nat), s.takesAtOnce → s.region w = .journal r k → k ≠ 0 →
      k < 32 → b.upper.isSome ∨ b.lower.isSome →
      let comesTo (journal : Option Assembly) : Prop :=
        ∃ t, exec (.journalWrite w b) s = .next t
          ∧ s.memoryTakes t.toPart w b
          ∧ t = { s with
              path := s.path.carrying ⟨w, .journalWatcher, .write b .pass⟩ none ⟨none, none⟩
              memory := t.memory, journal := journal }
      (s.journal = none → comesTo none)
        ∧ ∀ a, s.journal = some a →
          (a.record ≠ r → comesTo (some a))
            ∧ (a.record = r → a.copy.length = 32 → complete (lanesAt a.copy 31) = false →
              let entered : Assembly := { a with copy := a.copy.set k (overlaid (lanesAt a.copy k) b) }
              (k < 31 →
                  (a.role = .pending ∨ a.role = .none → comesTo (some { entered with role := .none }))
                    ∧ (∀ x, a.role = .heartbeat x → k < 8 → comesTo (some entered))
                    ∧ (∀ offered answer early, a.role = .tap offered answer early → k < 24 → ¬ (k = 4 ∧ a.offers b = true) →
                      comesTo (some entered))
                    ∧ (∀ offered answer early, a.role = .tap offered answer early → 24 ≤ k →
                      a.closing ≠ none ∨ (∀ o q c, answer = .outcome o q c → early = true) →
                      comesTo (some { entered with role := .tap offered answer (early || !offered) })))
                ∧ (k = 31 → a.role = .pending ∨ a.role = .none →
                  (complete (overlaid (lanesAt a.copy 31) b) = true → comesTo none)
                    ∧ (complete (overlaid (lanesAt a.copy 31) b) = false → comesTo (some { entered with role := .none })))
                ∧ (k = 31 → ∀ offered answer early, a.role = .tap offered answer early →
                  (∀ o q c, answer = .outcome o q c → early = true) →
                  (complete (overlaid (lanesAt a.copy 31) b) = true → comesTo none)
                    ∧ (complete (overlaid (lanesAt a.copy 31) b) = false →
                      comesTo (some { entered with closing := some a.closingCheck }))))

/-- R112, R116, R130: word 31 of an amendable tap record with an outcome, written whole or one lane at a time. The first
write to it fixes the closing check: WHOLE with the check word of words 0 to 30 where all are complete, or else BROKEN; a
later one keeps it. WHOLE: memory and the record copy take the check word in the lanes driven; BROKEN: the bytes driven.
With a lane still unwritten the assembly goes on. With both written it ends: the ATTACHED outcome leaves the queue where
WHOLE, and becomes UNREPORTED where BROKEN. That a write which repeats the one lane written is taken like the first is the
model's choice (log 50). -/
def Obligations.TapRecordEnds : Prop :=
  ∀ (s : State) (w : BitVec 23) (b : LaneBytes) (r : Nat) (a : Assembly) (o : Outcome) (q : Word) (c : ClockState),
    s.takesAtOnce → s.region w = .journal r 31 → b.upper.isSome ∨ b.lower.isSome → s.journal = some a → a.record = r →
    a.copy.length = 32 → a.role = .tap true (.outcome o q c) false →
    let both : Prop := complete (overlaid (lanesAt a.copy 31) b) = true
    (∀ v, a.closing = some (.whole v)
          ∨ a.closing = none ∧ (∀ k < 31, complete (lanesAt a.copy k) = true) ∧ v = crc16 (copyWords (a.copy.take 31)) →
        let given : LaneBytes := ⟨b.upper.map fun _ => highByte v, b.lower.map fun _ => lowByte v⟩
        ∃ t, exec (.journalWrite w b) s = .next t
          ∧ s.memoryTakes t.toPart w given
          ∧ (both → t = { s with
              path := s.path.carrying ⟨w, .journalWatcher, .write b (.substitute given)⟩ none ⟨none, none⟩
              memory := t.memory, journal := none
              queue := { s.queue with
                checkFault := 0, outcomes := s.queue.outcomes.filter fun x => !x.isAttached } })
          ∧ (¬ both → t = { s with
              path := s.path.carrying ⟨w, .journalWatcher, .write b (.substitute given)⟩ none ⟨none, none⟩
              memory := t.memory
              journal := some { a with
                copy := a.copy.set 31 (overlaid (lanesAt a.copy 31) given), closing := some (.whole v) } }))
      ∧ (a.closing = some .broken ∨ a.closing = none ∧ (∃ k < 31, complete (lanesAt a.copy k) = false) →
        ∃ t, exec (.journalWrite w b) s = .next t
          ∧ s.memoryTakes t.toPart w b
          ∧ (both → t = { s with
              path := s.path.carrying ⟨w, .journalWatcher, .write b .pass⟩ none ⟨none, none⟩
              memory := t.memory, journal := none
              queue := { s.queue with
                checkFault := 0
                outcomes := s.queue.outcomes.map fun x => match x.state with
                  | .reserved _ => x
                  | .attached n => { x with state := .unreported n }
                  | .unreported _ => x } })
          ∧ (¬ both → t = { s with
              path := s.path.carrying ⟨w, .journalWatcher, .write b .pass⟩ none ⟨none, none⟩
              memory := t.memory
              journal := some { a with
                copy := a.copy.set 31 (overlaid (lanesAt a.copy 31) b), closing := some .broken } }))

/-- R112, R119, R135: word 31 of a heartbeat, written whole or one lane at a time. The first write to it fixes the closing
check, and a later one keeps it. WHOLE: memory and the record copy take the check word in the lanes driven, and with both
lanes written the report completes: its outcome leaves the queue or each of its counters is taken off, the ordinal is
incremented, the page becomes the previous one, and the flags it carried set are cleared. A last-reason field in which
nothing was recorded since the freeze is cleared by a COUNTERS page; an OUTCOME page leaves counters and last reasons as
they stand (log 25). BROKEN: memory takes the bytes driven, and the completed record changes nothing else. With a lane
still unwritten the assembly goes on; that a write which repeats the one lane written is taken like the first is the
model's choice (log 50). -/
def Obligations.HeartbeatEnds : Prop :=
  ∀ (s : State) (w : BitVec 23) (b : LaneBytes) (r : Nat) (a : Assembly) (x : Report),
    s.takesAtOnce → s.region w = .journal r 31 → b.upper.isSome ∨ b.lower.isSome → s.journal = some a → a.record = r →
    a.copy.length = 32 → a.role = .heartbeat x →
    let both : Prop := complete (overlaid (lanesAt a.copy 31) b) = true
    (∀ v, a.closing = some (.whole v)
          ∨ a.closing = none ∧ (∀ k < 31, complete (lanesAt a.copy k) = true) ∧ v = crc16 (copyWords (a.copy.take 31)) →
        let given : LaneBytes := ⟨b.upper.map fun _ => highByte v, b.lower.map fun _ => lowByte v⟩
        let written : Part := { s.toPart with
          path := s.path.carrying ⟨w, .journalWatcher, .write b (.substitute given)⟩ none ⟨none, none⟩ }
        let carried : Part := { written with
          journal := none
          tableLost := s.tableLost && !x.tableLost
          setupIgnored := s.setupIgnored && !x.setupIgnored }
        ∃ t, exec (.journalWrite w b) s = .next t
          ∧ s.memoryTakes t.toPart w given
          ∧ (¬ both → t = { s with
              toPart := { written with
                memory := t.memory
                journal := some { a with
                  copy := a.copy.set 31 (overlaid (lanesAt a.copy 31) given), closing := some (.whole v) } } })
          ∧ (∀ o, both → x.page = .outcome o → t = { s with
              toPart := { carried with
                memory := t.memory
                previousPage := .outcome
                queue := { s.queue with
                  checkFault := 0, ordinal := s.queue.ordinal + 1, outcomes := s.queue.outcomes.erase o } } })
          ∧ ∀ c, both → x.page = .counters c → t = { s with
              toPart := { carried with
                memory := t.memory
                previousPage := .counters
                queue := { s.queue with ordinal := s.queue.ordinal + 1 }
                counters :=
                  { s.counters with
                    presentations := s.counters.presentations - c.presentations
                    restoresConfirmed := s.counters.restoresConfirmed - c.restoresConfirmed
                    blocksConfirmed := s.counters.blocksConfirmed - c.blocksConfirmed
                    observed := s.counters.observed - c.observed
                    deferrals := s.counters.deferrals - c.deferrals
                    unconfirmed := s.counters.unconfirmed - c.unconfirmed
                    holdExpiries := s.counters.holdExpiries - c.holdExpiries
                    filesCommitted := s.counters.filesCommitted - c.filesCommitted
                    filesRefused := s.counters.filesRefused - c.filesRefused
                    observedDropped := s.counters.observedDropped - c.observedDropped
                    lastRefusal := if s.counters.refusalMark then s.counters.lastRefusal else none
                    lastDeferral := if s.counters.deferralMark then s.counters.lastDeferral else none } } })
      ∧ (a.closing = some .broken ∨ a.closing = none ∧ (∃ k < 31, complete (lanesAt a.copy k) = false) →
        ∃ t, exec (.journalWrite w b) s = .next t
          ∧ s.memoryTakes t.toPart w b
          ∧ t = { s with
              path := s.path.carrying ⟨w, .journalWatcher, .write b .pass⟩ none ⟨none, none⟩
              memory := t.memory
              journal := if both then none else some { a with
                copy := a.copy.set 31 (overlaid (lanesAt a.copy 31) b), closing := some .broken } })

/-! ## The clock word -/

/-- R146: a completed clock-word value V is adopted when a last value P is present with P ≤ V and V − P within the follow
tolerance of the committed setup: the seconds take V and the clock is FOLLOWING. Otherwise neither changes. In every case
V becomes the last value. A write that leaves some lane of the clock word unwritten enters the half-written value and
changes nothing more (R145). -/
def Obligations.ClockValueFollowed : Prop :=
  (∀ (s : State) (w : BitVec 23) (b : LaneBytes) (second : Bool) (hu hl lu ll : Byte), s.takesAtOnce →
    s.region w = .clock second → b.upper.isSome ∨ b.lower.isSome →
    (s.follow.entered second b).half0 = ⟨some hu, some hl⟩ → (s.follow.entered second b).half1 = ⟨some lu, some ll⟩ →
    ∃ t, exec (.clockWordWrite w b) s = .next t
      ∧ s.memoryTakes t.toPart w b
      ∧ t = { s with
          path := s.path.carrying ⟨w, .dayClock, .write b .pass⟩ none ⟨none, none⟩
          memory := t.memory
          clock := t.clock
          follow := ⟨some (joinWords (joinBytes hu hl) (joinBytes lu ll)), ⟨none, none⟩, ⟨none, none⟩⟩ }
      ∧ ((∃ p, s.follow.last = some p ∧ p.toNat ≤ (joinWords (joinBytes hu hl) (joinBytes lu ll)).toNat
            ∧ (joinWords (joinBytes hu hl) (joinBytes lu ll)).toNat - p.toNat ≤ s.setup.policy.followTolerance) →
          t.clock = { s.clock with
            seconds := joinWords (joinBytes hu hl) (joinBytes lu ll), state := .following })
      ∧ (¬ (∃ p, s.follow.last = some p ∧ p.toNat ≤ (joinWords (joinBytes hu hl) (joinBytes lu ll)).toNat
            ∧ (joinWords (joinBytes hu hl) (joinBytes lu ll)).toNat - p.toNat ≤ s.setup.policy.followTolerance) →
          t.clock = s.clock))
    ∧ ∀ (s : State) (w : BitVec 23) (b : LaneBytes) (second : Bool), s.takesAtOnce → s.region w = .clock second →
      b.upper.isSome ∨ b.lower.isSome →
      ¬ (complete (s.follow.entered second b).half0 = true ∧ complete (s.follow.entered second b).half1 = true) →
      ∃ t, exec (.clockWordWrite w b) s = .next t
        ∧ s.memoryTakes t.toPart w b
        ∧ t = { s with
            path := s.path.carrying ⟨w, .dayClock, .write b .pass⟩ none ⟨none, none⟩
            memory := t.memory
            follow := if second then { s.follow with half1 := overlaid s.follow.half1 b }
              else { s.follow with half0 := overlaid s.follow.half0 b } }

/-! ## The table arbiter and lookups -/

/-- R19: where the table is free and no release stands to be taken, the oldest mark is granted if 4 or more wait;
otherwise one claim of the first class that has one waiting: lookups, marks, intake operations, sweep steps. Where the
table is not free nothing is granted, and nothing while a release of an entry reference waits to be taken: the latter is
the model's choice (log 15). A mark takes the service day of its grant (R143). -/
def Obligations.GrantOrder : Prop :=
  ∀ p : Part,
    (p.arbiter.op ≠ none → p.grant = p)
      ∧ (p.arbiter.releases ≠ [] → p.grant = p)
      ∧ (p.arbiter.op = none → p.arbiter.releases = [] →
        (∀ m ms, p.arbiter.marks = m :: ms → 4 ≤ p.arbiter.marks.length ∨ p.arbiter.lookups = [] →
            p.grant = { p with arbiter := { p.arbiter with marks := ms, op := some (.mark m p.serviceDay) } })
          ∧ (∀ n serial ls, p.arbiter.lookups = (n, serial) :: ls → p.arbiter.marks.length < 4 →
            p.grant = { p with arbiter := { p.arbiter with lookups := ls, op := some (.lookup n serial true) } })
          ∧ (p.arbiter.marks = [] → p.arbiter.lookups = [] →
            (∀ c, p.arbiter.intake = some c →
                p.grant = { p with arbiter := { p.arbiter with intake := none, op := some (.intake c) } })
              ∧ (p.arbiter.intake = none → p.arbiter.sweep = true →
                p.grant = { p with arbiter := { p.arbiter with sweep := false, op := some .sweep } })
              ∧ (p.arbiter.intake = none → p.arbiter.sweep = false → p.grant = p)))

/-- R17: a lookup answers with a visible entry of its serial's bucket that carries the serial, the first such one in the
bucket's order; NONE only where the bucket holds none. -/
def Obligations.LookupAnswersVisible : Prop :=
  ∀ (st : Store) (serial : BitVec 64),
    (∀ n e, st.lookup serial = some (n, e) →
        st.entry n = some e ∧ e.visible = true ∧ e.serial = serial
          ∧ ∃ before after, st.chain (bucketOf serial) = before ++ n :: after
            ∧ ∀ m ∈ before, ∀ x, st.entry m = some x → ¬ (x.visible = true ∧ x.serial = serial))
      ∧ (st.lookup serial = none →
        ∀ m ∈ st.chain (bucketOf serial), ∀ x, st.entry m = some x → ¬ (x.visible = true ∧ x.serial = serial))

/-- R12, R61, R64, R79, R98, R99: a decision of RESTORE is carried out inside the lookup: one presentation counted, a
RESERVED outcome at the queue's tail, the entry pinned, and the context AMENDED with its overlay and await timer, or
SETTLED where the overlay is empty. A decision's inputs are the snapshot, the service day, the purse ceiling and the
queue's free places. The overlay is of the words, in ascending order, in which the amended image differs from the snapshot
and of which no lane has been written since, with the amended values, PENDING. A pin raises its entry's pin count by one
and a release lowers it by one; neither changes anything else. -/
def Obligations.RestoreTaken : Prop :=
  (∀ (s : State) (n : Fin 4) (serial : BitVec 64) (snapshot image : List Word) (written : List Lanes) (k : Nat)
    (e : Entry) (placed dropped : Nat),
    s.arbiter.op = some (.lookup n serial true) → s.context n = .lookup snapshot written →
    (∀ c, s.path.cycle = some c → ∀ l, c.kind ≠ .read l .hold) →
    s.store.lookup (imageSerial snapshot) = some (k, e) →
    decideFor (s.toPart.inputs snapshot) (some e) = .restore image placed dropped →
    exec .lookup s =
      .next { s with
        toPart := Part.grant { s.toPart with
          arbiter := { s.arbiter with op := none }
          counters := { s.counters with presentations := raised s.counters.presentations }
          queue := { s.queue with
            checkFault := 0
            outcomes := s.queue.outcomes ++
              [⟨.restored, imageSerial snapshot, e.action, e.amount, placed, dropped, .reserved n⟩] }
          store := s.store.pin k
          awaitOrder := s.awaitOrder.filter (· != n) ++ [n]
          contexts := fourWith s.contexts n
            (let pr : Presentation :=
              { snapshot := snapshot, written := written, decision := .restore, entry := k, action := e.action
                overlay := overlayOf snapshot image written, confirmed := false
                await := .running s.setup.policy.awaitLimit }
            if (overlayOf snapshot image written).isEmpty then .settled pr else .amended pr) } })
    ∧ (∀ (p : Part) (snapshot : List Word), p.inputs snapshot =
      ⟨snapshot, p.serviceDay, p.setup.policy.purseCeiling, 64 - p.queue.outcomes.length⟩)
    ∧ (∀ e : Entry, (∀ r, e.part = .restore r → e.amount = r.amount ∧ e.passes = r.passes)
        ∧ (e.flagged = true ↔ e.part = .block true))
    ∧ (∀ (snapshot image : List Word) (written : List Lanes),
      (overlayOf snapshot image written).Pairwise (fun a b => a.word < b.word)
        ∧ ∀ o, o ∈ overlayOf snapshot image written ↔
          o.word < 32 ∧ wordAt image o.word ≠ wordAt snapshot o.word
            ∧ written.getD o.word ⟨false, false⟩ = ⟨false, false⟩ ∧ o.value = wordAt image o.word ∧ o.pending = true)
    ∧ ∀ (st : Store) (n : Nat) (e : Entry), st.entry n = some e →
      (st.pin n).entry n = some { e with pins := e.pins + 1 }
        ∧ (st.unpin n).entry n = some { e with pins := e.pins - 1 }
        ∧ (∀ k, k ≠ n → (st.pin n).entry k = st.entry k ∧ (st.unpin n).entry k = st.entry k)
        ∧ st.pin n = { st with table := (st.pin n).table } ∧ st.unpin n = { st with table := (st.unpin n).table }

/-- R61, R64, R98, R99, R138: a decision of BLOCK or BLOCK-ONLY is carried out inside the lookup. A BLOCK reserves a
CAPTURED outcome with the snapshot's purse and the cleared count; a BLOCK-ONLY reserves none. An entry flagged for
attention hands an attention event to the monitor. -/
def Obligations.BlockTaken : Prop :=
  ∀ (s : State) (n : Fin 4) (serial : BitVec 64) (snapshot image : List Word) (written : List Lanes) (k : Nat)
    (e : Entry) (cleared : Nat) (only : Bool),
    s.arbiter.op = some (.lookup n serial true) → s.context n = .lookup snapshot written →
    (∀ c, s.path.cycle = some c → ∀ l, c.kind ≠ .read l .hold) →
    s.store.lookup (imageSerial snapshot) = some (k, e) →
    decideFor (s.toPart.inputs snapshot) (some e) = (if only then .blockOnly image else .block image cleared) →
    exec .lookup s =
      .next { s with
        toPart := Part.grant { s.toPart with
          arbiter := { s.arbiter with op := none }
          counters := { s.counters with presentations := raised s.counters.presentations }
          queue := if only then s.queue else { s.queue with
            checkFault := 0
            outcomes := s.queue.outcomes ++
              [⟨.captured, imageSerial snapshot, e.action, joinWords (wordAt snapshot 5) (wordAt snapshot 6),
                cleared, 0, .reserved n⟩] }
          store := s.store.pin k
          awaitOrder := s.awaitOrder.filter (· != n) ++ [n]
          monitor := match e.flagged, s.setup.policy.attentionMode with
            | true, .single => { s.monitor with asserted := true, timer := some s.setup.policy.attentionHold }
            | true, .repeated => { s.monitor with mark0 := true }
            | _, _ => s.monitor
          contexts := fourWith s.contexts n
            (let pr : Presentation :=
              { snapshot := snapshot, written := written, decision := if only then .blockOnly else .block
                entry := k, action := e.action
                overlay := overlayOf snapshot image written, confirmed := false
                await := .running s.setup.policy.awaitLimit }
            if (overlayOf snapshot image written).isEmpty then .settled pr else .amended pr) } }

/-- R18, R61, R98, R100, R101, R138: what the other decisions do: the context is EMPTY and one presentation counted. NONE
and a SKIP of an APPLIED entry do no more; a SKIP on a BLOCK entry flagged for attention hands an attention event to the
monitor; a DEFER counts and records its reason; an EXPIRED entry becomes DEAD; a restore found already on the card becomes
APPLIED and is inserted as OBSERVED, or counted as dropped. An answer its context no longer waits for is discarded. -/
def Obligations.OtherDecisionsTaken : Prop :=
  ∀ (s : State) (n : Fin 4) (serial : BitVec 64) (snapshot : List Word) (written : List Lanes),
    (s.arbiter.op = some (.lookup n serial false) →
        exec .lookup s = .next { s with toPart := Part.grant { s.toPart with arbiter := { s.arbiter with op := none } } })
      ∧ (s.arbiter.op = some (.lookup n serial true) → s.context n = .lookup snapshot written →
        (∀ c, s.path.cycle = some c → ∀ l, c.kind ≠ .read l .hold) →
        let q : Part := { s.toPart with
          arbiter := { s.arbiter with op := none }
          counters := { s.counters with presentations := raised s.counters.presentations }
          contexts := fourWith s.contexts n .empty }
        (s.store.lookup (imageSerial snapshot) = none → exec .lookup s = .next { s with toPart := q.grant })
          ∧ ∀ k e, s.store.lookup (imageSerial snapshot) = some (k, e) →
            let d := decideFor (s.toPart.inputs snapshot) (some e)
            (d = .skipApplied → exec .lookup s = .next { s with toPart := q.grant })
              ∧ (∀ r, d = .defer r → exec .lookup s =
                .next { s with
                  toPart := Part.grant { q with
                    counters := { q.counters with
                      deferrals := raised s.counters.deferrals, lastDeferral := some r, deferralMark := true } } })
              ∧ (d = .expired → exec .lookup s =
                .next { s with toPart := Part.grant { q with store := s.store.update k fun x => x.become .dead } })
              ∧ (d = .skipBlock → exec .lookup s =
                .next { s with
                  toPart := Part.grant { q with
                    monitor := match e.flagged, s.setup.policy.attentionMode with
                      | true, .single => { s.monitor with asserted := true, timer := some s.setup.policy.attentionHold }
                      | true, .repeated => { s.monitor with mark0 := true }
                      | _, _ => s.monitor } })
              ∧ (∀ day, d = .skipLive true → s.toPart.serviceDay = some day → exec .lookup s =
                .next { s with
                  toPart := Part.grant { q with
                    store := s.store.update k fun x => x.become (.applied day)
                    counters := { q.counters with observed := raised s.counters.observed }
                    queue := { s.queue with
                      checkFault := 0
                      nextSequence := s.queue.nextSequence + 1
                      outcomes := s.queue.outcomes ++ [⟨.observed, imageSerial snapshot, e.action, e.amount,
                        e.passes.length, 0, .unreported s.queue.nextSequence⟩] } } })
              ∧ (∀ day, d = .skipLive false → s.toPart.serviceDay = some day → exec .lookup s =
                .next { s with
                  toPart := Part.grant { q with
                    store := s.store.update k fun x => x.become (.applied day)
                    counters := { q.counters with
                      observed := raised s.counters.observed
                      observedDropped := raised s.counters.observedDropped } } }))

/-- R61, R62: a lookup that completes while a read is held does all that it does with no read held. A read held for its
own context is released and answered as the state the context has entered gives: with the value of a PENDING overlay word,
or with memory's data. A read held for another context stays held. -/
def Obligations.HeldReadAnswered : Prop :=
  ∀ (s : State) (n m : Fin 4) (serial : BitVec 64) (snapshot : List Word) (written : List Lanes) (w : BitVec 23)
    (l : Lanes),
    s.arbiter.op = some (.lookup n serial true) → s.context n = .lookup snapshot written →
    s.path.cycle = some ⟨w, .context m, .read l .hold⟩ →
    ∃ t u, exec .lookup s = .next t
      ∧ exec .lookup { s with path := { s.path with cycle := none, hold := none } } = .next u
      ∧ t = { u with path := t.path } ∧ t.memory = s.memory
      ∧ (m ≠ n → t.path = s.path)
      ∧ (m = n → ∀ pr o, t.context n = .amended pr → pr.overlay.find? (·.word == w.toNat % 32) = some o →
        o.pending = true →
        t.path = s.path.carrying ⟨w, .context n, .read l (.serve o.value)⟩ none
          ⟨some (highByte o.value), some (lowByte o.value)⟩)
      ∧ (m = n →
        (∀ pr o, t.context n = .amended pr → pr.overlay.find? (·.word == w.toNat % 32) = some o → o.pending = false) →
        t.path = s.path.carrying ⟨w, .context n, .read l .pass⟩ none
          ⟨if l.upper then some (s.memoryByte (2 * w.toNat)) else none,
            if l.lower then some (s.memoryByte (2 * w.toNat + 1)) else none⟩)

/-! ## Presentation decisions -/

/-- R84, R85, R86: the tests of a decision in their order, for a LIVE RESTORE entry, a LIVE BLOCK entry, and an APPLIED
RESTORE entry. -/
def Obligations.DecisionTestsInOrder : Prop :=
  ∀ (i : DecisionInputs) (e : Entry),
    (∀ r, e.part = .restore r → e.state = .live →
        (i.day = none → decideFor i (some e) = .defer .clockUnset)
          ∧ ∀ d, i.day = some d →
            (e.expiry ≠ 0xFFFF ∧ e.expiry.toNat < d → decideFor i (some e) = .expired)
              ∧ (¬ (e.expiry ≠ 0xFFFF ∧ e.expiry.toNat < d) →
                (d < r.notBefore.toNat → decideFor i (some e) = .defer .notYet)
                  ∧ (r.notBefore.toNat ≤ d →
                    (r.precondition.toNat ≤ (imageApplied i.snapshot).toNat →
                        decideFor i (some e) = .skipLive (decide (1 ≤ i.free)))
                      ∧ ((imageApplied i.snapshot).toNat < r.precondition.toNat →
                        (i.free < 5 → decideFor i (some e) = .defer .backlog)
                          ∧ (5 ≤ i.free → restoreFit i d r = none → decideFor i (some e) = .defer .noRoom)
                          ∧ (∀ w, 5 ≤ i.free → restoreFit i d r = some w →
                            ∃ image, decideFor i (some e) = .restore image w.placed w.dropped)))))
      ∧ (∀ flag, e.part = .block flag → e.state = .live →
        ((∃ d, i.day = some d ∧ e.expiry ≠ 0xFFFF ∧ e.expiry.toNat < d) → decideFor i (some e) = .expired)
          ∧ (¬ (∃ d, i.day = some d ∧ e.expiry ≠ 0xFFFF ∧ e.expiry.toNat < d) →
            (e.action.toNat ≤ (imageApplied i.snapshot).toNat → decideFor i (some e) = .skipBlock)
              ∧ ((imageApplied i.snapshot).toNat < e.action.toNat →
                (1 ≤ i.free → ∃ image cleared, decideFor i (some e) = .block image cleared)
                  ∧ (i.free = 0 → ∃ image, decideFor i (some e) = .blockOnly image))))
      ∧ (∀ r day, e.part = .restore r → e.state = .applied day → decideFor i (some e) = .skipApplied)
      ∧ decideFor i none = .none

/-- R87 to R89, R187: the fit of a restore. Purse and amount together are at most the ceiling, the sum formed exactly, and
every live pass finds a slot. The passes are taken in their order, each on the slots as the passes before it left them:
one whose end day has passed is dropped and counted; a live one is placed and counted, or the restore does not fit. A FILL
pass takes the first slot with product code 0; a REPLACE pass the first slot of its own product, or else the first with
product code 0. -/
def Obligations.RestoreFit : Prop :=
  (∀ (i : DecisionInputs) (day : Nat) (r : RestorePart),
    (imagePurse i.snapshot + (r.amount.toNat : Int) ≤ (i.ceiling : Int) →
        restoreFit i day r = placeAll day r.passes ⟨imageSlots i.snapshot, 0, 0⟩)
      ∧ ((i.ceiling : Int) < imagePurse i.snapshot + (r.amount.toNat : Int) → restoreFit i day r = none))
    ∧ (∀ image : List Word,
      imagePurse image = (joinWords (wordAt image 5) (wordAt image 6)).toInt
        ∧ imageApplied image = joinWords (wordAt image 8) (wordAt image 9)
        ∧ imageSerial image = joinSerial (wordAt image 0) (wordAt image 1) (wordAt image 2) (wordAt image 3)
        ∧ imageSlots image =
          [⟨wordAt image 10, wordAt image 11, wordAt image 12, wordAt image 13⟩,
            ⟨wordAt image 14, wordAt image 15, wordAt image 16, wordAt image 17⟩,
            ⟨wordAt image 18, wordAt image 19, wordAt image 20, wordAt image 21⟩,
            ⟨wordAt image 22, wordAt image 23, wordAt image 24, wordAt image 25⟩])
    ∧ (∀ (day : Nat) (w : Placed), placeAll day [] w = some w)
    ∧ (∀ (day : Nat) (p : PassRecord) (rest : List PassRecord) (w : Placed),
      (p.endDay.toNat < day → placeAll day (p :: rest) w = placeAll day rest { w with dropped := w.dropped + 1 })
        ∧ (day ≤ p.endDay.toNat →
          (placePass p w.slots = none → placeAll day (p :: rest) w = none)
            ∧ ∀ slots, placePass p w.slots = some slots →
              placeAll day (p :: rest) w = placeAll day rest { w with slots := slots, placed := w.placed + 1 }))
    ∧ ∀ (p : PassRecord) (slots : List PassSlot),
      let written : PassSlot := ⟨p.product, p.zones, p.startDay, p.endDay⟩
      let none0 (l : List PassSlot) : Prop := ∀ x ∈ l, x.product ≠ 0
      let noneOwn (l : List PassSlot) : Prop := ∀ x ∈ l, x.product ≠ p.product
      (∀ before x after, slots = before ++ x :: after →
          (p.placement = .replace → noneOwn before → x.product = p.product →
              placePass p slots = some (before ++ written :: after))
            ∧ (p.placement = .fill ∨ noneOwn slots → none0 before → x.product = 0 →
              placePass p slots = some (before ++ written :: after)))
        ∧ (p.placement = .fill ∨ noneOwn slots → none0 slots → placePass p slots = none)

/-- R87 to R90, R92, R93, R95, R96: what each amended image changes in a snapshot of 32 words, and what it keeps. A
RESTORE is made only where the restore fits, on a set clock: its pass slots are those of the working copy, placed and
dropped passes as counted there make the pass list together, and the purse is the exact sum and at most the ceiling. -/
def Obligations.AmendedImages : Prop :=
  ∀ (i : DecisionInputs) (e : Entry) (image : List Word), i.snapshot.length = 32 → i.ceiling ≤ 2000000 →
    (∀ placed dropped, decideFor i (some e) = .restore image placed dropped →
        image.length = 32 ∧ (∀ k, k ≤ 4 ∨ k = 7 ∨ 26 ≤ k ∧ k ≤ 30 → wordAt image k = wordAt i.snapshot k)
          ∧ imagePurse image = imagePurse i.snapshot + (e.amount.toNat : Int)
          ∧ imagePurse image ≤ (i.ceiling : Int)
          ∧ imageApplied image = e.action ∧ wordAt image 31 = crc16 (image.take 31)
          ∧ placed + dropped = e.passes.length
          ∧ ∃ r day w, e.part = .restore r ∧ i.day = some day ∧ restoreFit i day r = some w
            ∧ imageSlots image = w.slots ∧ placed = w.placed ∧ dropped = w.dropped)
      ∧ (∀ cleared, decideFor i (some e) = .block image cleared →
        image.length = 32 ∧ (∀ k, k ≤ 3 ∨ k = 7 ∨ 26 ≤ k ∧ k ≤ 30 → wordAt image k = wordAt i.snapshot k)
          ∧ highByte (wordAt image 4) = 2 ∧ lowByte (wordAt image 4) = lowByte (wordAt i.snapshot 4)
          ∧ imagePurse image = 0 ∧ (∀ k, 10 ≤ k → k ≤ 25 → wordAt image k = 0)
          ∧ imageApplied image = e.action ∧ wordAt image 31 = crc16 (image.take 31)
          ∧ cleared = ((imageSlots i.snapshot).filter fun x => x.product != 0).length)
      ∧ (decideFor i (some e) = .blockOnly image →
        image.length = 32 ∧ (∀ k, k ≤ 30 → k ≠ 4 → wordAt image k = wordAt i.snapshot k)
          ∧ highByte (wordAt image 4) = 2 ∧ lowByte (wordAt image 4) = lowByte (wordAt i.snapshot 4)
          ∧ wordAt image 31 = crc16 (image.take 31))

/-! ## The operations on the table -/

/-- R16: a confirmation mark makes its entry APPLIED with the service day of its grant where it is LIVE, of kind RESTORE,
and carries the mark's serial and action number; otherwise it changes nothing. A mark granted with the clock UNSET takes a
day the model leaves free (log 28). -/
def Obligations.ConfirmationMarkTaken : Prop :=
  ∀ (s : State) (m : MarkClaim) (day : Option Nat), s.arbiter.op = some (.mark m day) →
    ∃ (t : State) (d : Nat), exec .confirmationMark s = .next t ∧ (∀ x, day = some x → d = x)
      ∧ (day ≠ none → t.draws = s.draws)
      ∧ t = { s with
          toPart := Part.grant { s.toPart with
            arbiter := { s.arbiter with op := none }, store := t.store, draws := t.draws } }
      ∧ (∀ k, k ≠ m.entry → t.store.entry k = s.store.entry k)
      ∧ (∀ e r, s.store.entry m.entry = some e → e.state = .live → e.part = .restore r → e.serial = m.serial →
          e.action = m.action → t.store.entry m.entry = some { e with state := .applied d, checkFault := 0 })
      ∧ ((∀ e, s.store.entry m.entry = some e →
            ¬ (e.state = .live ∧ (∃ r, e.part = .restore r) ∧ e.serial = m.serial ∧ e.action = m.action)) →
          t.store.entry m.entry = s.store.entry m.entry)
      ∧ t.store.freeList = s.store.freeList ∧ t.store.buckets = s.store.buckets
      ∧ t.store.freePasses = s.store.freePasses

/-- R1, R6 to R9, R13, R39: a stage-entry takes the entry at the head of the free list, fills it, STAGED and unpinned, and
links it at the tail of its bucket; an earlier STAGED entry of the serial becomes DEAD; no other entry and no other bucket
changes. With the free list empty it reclaims the lowest-numbered DEAD entry without pins, that earlier entry among them,
and takes that: it leaves its bucket, the order of the rest kept and the entry after it with its bucket position, and its
passes are free. On STAGED the record leaves the buffer. With no room anywhere the table stands and the file is refused
TABLE-FULL, a held write released. An answer that intake ignores does neither (R41); a discard owed is then claimed.
Intake goes on with what its buffer holds (IntakeGoesOn). -/
def Obligations.EntryStaged : Prop :=
  (∀ (s : State) (r : EntryRecord) (number : BitVec 32), s.arbiter.op = some (.intake (.stageEntry r number)) →
    (∀ n rest, s.store.freeList = n :: rest → s.store.entry n = none →
        ∃ t, exec .stageEntry s = .next t
          ∧ t = { s with
              toPart := Part.grant (Part.intakeWork { s.toPart with
                arbiter := s.arbiter.afterAnswer s.intake
                store := t.store
                intake := s.intake.afterAnswer { s.intake with
                  buffer := s.intake.buffer.tail
                  staging := match r.part with
                    | .block _ => s.intake.staging
                    | .restore _ => s.intake.staging.map fun x => { x with restoreEntry := some n } } }) }
          ∧ t.store.entry n = some
              { serial := r.serial, part := r.part, state := .staged, action := r.action, expiry := r.expiry
                fileTag := number, pins := 0
                position := (s.store.chain (bucketOf r.serial)).getLast?, checkFault := 0 }
          ∧ (∀ k, k ≠ n → t.store.entry k =
              if s.store.stagedOf r.serial = some k then (s.store.entry k).map (·.become .dead)
              else s.store.entry k)
          ∧ (∀ b, t.store.chain b = s.store.chain b ++ if b = bucketOf r.serial then [n] else [])
          ∧ t.store.freeList = rest ∧ t.store.freePasses = s.store.freePasses)
      ∧ (s.store.freeList = [] → s.store.stagedOf r.serial = none →
        (∀ x ∈ s.store.entries, x.2.reclaimable = false) →
        ∃ t, exec .stageEntry s = .next t
          ∧ (s.intake.answerIgnored = false →
            s.heldWriteReleased t.toPart
              ∧ t = { s with
                  toPart := Part.grant { Part.fileRefused { s.toPart with
                    arbiter := { s.arbiter with op := none } } .tableFull with
                      path := t.path, memory := t.memory } }
              ∧ t.discardClaimed)
          ∧ (s.intake.answerIgnored = true → t = { s with
              toPart := Part.grant (Part.intakeWork { s.toPart with
                arbiter := s.arbiter.afterAnswer s.intake, intake := s.intake.afterAnswer s.intake }) })))
    ∧ (∀ (s : State) (r : EntryRecord) (number : BitVec 32) (n : Nat) (e : Entry),
      s.arbiter.op = some (.intake (.stageEntry r number)) →
      Sparse.rising s.store.table → Sparse.rising s.store.buckets → s.store.freeList = [] →
      let after (k : Nat) : Option Entry :=
        if s.store.stagedOf r.serial = some k then (s.store.entry k).map fun x => { x with state := .dead, checkFault := 0 }
        else s.store.entry k
      let rest (b : Nat) : List Nat :=
        if b = bucketOf e.serial then (s.store.chain b).erase n else s.store.chain b
      after n = some e → e.state = .dead → e.pins = 0 →
      (∀ k < n, ∀ x, after k = some x → ¬ (x.state = .dead ∧ x.pins = 0)) →
      ∃ t, exec .stageEntry s = .next t
        ∧ t = { s with
            toPart := Part.grant (Part.intakeWork { s.toPart with
              arbiter := s.arbiter.afterAnswer s.intake
              store := t.store
              intake := s.intake.afterAnswer { s.intake with
                buffer := s.intake.buffer.tail
                staging := match r.part with
                  | .block _ => s.intake.staging
                  | .restore _ => s.intake.staging.map fun x => { x with restoreEntry := some n } } }) }
        ∧ t.store.entry n = some
            { serial := r.serial, part := r.part, state := .staged, action := r.action, expiry := r.expiry
              fileTag := number, pins := 0, position := (rest (bucketOf r.serial)).getLast?, checkFault := 0 }
        ∧ (∀ k, k ≠ n → (s.store.standsAfter e.serial n k → t.store.entry k = (after k).map (·.movedUp e))
          ∧ (¬ s.store.standsAfter e.serial n k → t.store.entry k = after k))
        ∧ (∀ b, t.store.chain b = rest b ++ if b = bucketOf r.serial then [n] else [])
        ∧ t.store.freeList = [] ∧ t.store.freePasses = s.store.freePasses + e.passes.length)
    ∧ ∀ (st : Store) (serial : BitVec 64),
      (∀ k, st.stagedOf serial = some k → k ∈ st.chain (bucketOf serial)
          ∧ ∃ e, st.entry k = some e ∧ e.state = .staged ∧ e.serial = serial)
        ∧ (st.stagedOf serial = none →
          ∀ k ∈ st.chain (bucketOf serial), ∀ e, st.entry k = some e → ¬ (e.state = .staged ∧ e.serial = serial))

/-- R1, R8, R11, R40: a stage-pass appends its pass record at the tail of the pass list of the RESTORE entry staged last,
taking a free record. With the pool empty it reclaims the lowest-numbered DEAD entry without pins that holds passes: FREE
at the free list's tail, out of its bucket with the order of the rest kept and the entry after it with its bucket
position, its passes free. On STAGED the record leaves the buffer and one pass less is owed. With nothing to reclaim the
table stands and the file is refused POOL-FULL, a held write released. An answer that intake ignores does neither (R41); a
discard owed is then claimed. Intake goes on with what its buffer holds (IntakeGoesOn). -/
def Obligations.PassStaged : Prop :=
  (∀ (s : State) (n : Nat) (q : PassRecord) (e : Entry) (r : RestorePart),
    s.arbiter.op = some (.intake (.stagePass (some n) q)) →
    s.store.entry n = some e → e.part = .restore r →
    (0 < s.store.freePasses →
        ∃ t, exec .stagePass s = .next t
          ∧ t = { s with
              toPart := Part.grant (Part.intakeWork { s.toPart with
                arbiter := s.arbiter.afterAnswer s.intake
                store := t.store
                intake := s.intake.afterAnswer { s.intake with
                  buffer := s.intake.buffer.tail
                  staging := s.intake.staging.map fun x => { x with owed := x.owed - 1 } } }) }
          ∧ t.store.entry n = some
              { e with part := .restore { r with passes := r.passes ++ [q] }, checkFault := 0 }
          ∧ (∀ k, k ≠ n → t.store.entry k = s.store.entry k)
          ∧ t.store.freePasses + 1 = s.store.freePasses ∧ t.store.freeList = s.store.freeList
          ∧ t.store.buckets = s.store.buckets)
      ∧ (s.store.freePasses = 0 → (∀ x ∈ s.store.entries, x.2.reclaimable = true → x.2.passes = []) →
        ∃ t, exec .stagePass s = .next t
          ∧ (s.intake.answerIgnored = false →
            s.heldWriteReleased t.toPart
              ∧ t = { s with
                  toPart := Part.grant { Part.fileRefused { s.toPart with
                    arbiter := { s.arbiter with op := none } } .poolFull with
                      path := t.path, memory := t.memory } }
              ∧ t.discardClaimed)
          ∧ (s.intake.answerIgnored = true → t = { s with
              toPart := Part.grant (Part.intakeWork { s.toPart with
                arbiter := s.arbiter.afterAnswer s.intake, intake := s.intake.afterAnswer s.intake }) })))
    ∧ ∀ (s : State) (n m : Nat) (q : PassRecord) (e x : Entry) (r : RestorePart),
      s.arbiter.op = some (.intake (.stagePass (some n) q)) →
      Sparse.rising s.store.table → Sparse.rising s.store.buckets → s.store.freePasses = 0 →
      s.store.entry n = some e → e.state = .staged → e.part = .restore r →
      s.store.entry m = some x → x.state = .dead → x.pins = 0 → x.passes ≠ [] →
      (∀ k < m, ∀ y, s.store.entry k = some y → ¬ (y.state = .dead ∧ y.pins = 0 ∧ y.passes ≠ [])) →
      ∃ t, exec .stagePass s = .next t
        ∧ t = { s with
            toPart := Part.grant (Part.intakeWork { s.toPart with
              arbiter := s.arbiter.afterAnswer s.intake
              store := t.store
              intake := s.intake.afterAnswer { s.intake with
                buffer := s.intake.buffer.tail
                staging := s.intake.staging.map fun x => { x with owed := x.owed - 1 } } }) }
        ∧ (s.store.standsAfter x.serial m n → t.store.entry n = some
            { e with part := .restore { r with passes := r.passes ++ [q] }, position := x.position, checkFault := 0 })
        ∧ (¬ s.store.standsAfter x.serial m n → t.store.entry n = some
            { e with part := .restore { r with passes := r.passes ++ [q] }, checkFault := 0 })
        ∧ t.store.entry m = none
        ∧ (∀ k, k ≠ n → k ≠ m →
          (s.store.standsAfter x.serial m k → t.store.entry k = (s.store.entry k).map (·.movedUp x))
            ∧ (¬ s.store.standsAfter x.serial m k → t.store.entry k = s.store.entry k))
        ∧ (∀ b, t.store.chain b = if b = bucketOf x.serial then (s.store.chain b).erase m else s.store.chain b)
        ∧ t.store.freeList = s.store.freeList ++ [m] ∧ t.store.freePasses + 1 = x.passes.length

/-- R15, R33, R46 to R48, R147, R150, R152: a commit completes: the committed file number is the file's, one committed
file is counted, and a CLOCK record sets the clock where it is UNSET. SWEEP records, however many, are one trigger: it
starts a sweep where none runs, with the service day and retention as the commit leaves them. Intake is IDLE with its
cursor CLOSED, the TRAILER out of the buffer; where a write to word 0 or RESET_N has ended the file meanwhile, its answer
is ignored: only a TRAILER still buffered leaves, and a discard owed is claimed. Intake goes on with what its buffer holds
(IntakeGoesOn). A file that carries no setup record, or whose setup records the lock has ignored, changes nothing more
than the table, the clock and the sweep it triggers, and sets the setup-ignored flag in the second case. Memory, supply
state and page history stand whatever the file carries, but for a held write that intake then releases. -/
def Obligations.CommitCompletes : Prop :=
  ∀ (s : State) (c : CommitPayload), s.arbiter.op = some (.intake (.commit c)) →
    ∃ q : Part, exec .commit s = .next { s with toPart := Part.grant (Part.intakeWork q) }
      ∧ q = { s.toPart with
          arbiter := q.arbiter, store := q.store, fileNumber := c.number, fileNumberFault := 0, setup := q.setup
          locked := q.locked, setupFault := q.setupFault, setupIgnored := q.setupIgnored, contexts := q.contexts
          journal := q.journal, queue := q.queue, counters := q.counters, monitor := q.monitor, clock := q.clock
          follow := q.follow, sweep := q.sweep, path := q.path
          intake := s.intake.afterAnswer { s.intake with
            state := .idle, cursor := .closed, staging := none, buffer := s.intake.buffer.tail
            trailerBuffered := false } }
      ∧ q.arbiter.op = none ∧ q.arbiter.marks = s.arbiter.marks
      ∧ q.arbiter.intake = (if s.intake.discardOwed then some .discard else s.arbiter.intake)
      ∧ q.counters = { s.counters with
          filesCommitted := raised s.counters.filesCommitted, unconfirmed := q.counters.unconfirmed }
      ∧ ((∀ x ∈ c.effects, x.isSetup = false) ∨ s.locked = true →
          q = { s.toPart with
            arbiter := { s.arbiter.afterAnswer s.intake with sweep := q.arbiter.sweep }
            store := s.store.commit c, fileNumber := c.number, fileNumberFault := 0
            setupIgnored := s.setupIgnored || c.effects.any (·.isSetup)
            clock := q.clock, sweep := q.sweep, intake := q.intake
            counters := { s.counters with filesCommitted := raised s.counters.filesCommitted } })
      ∧ (∀ before after v, c.effects = before ++ .clock v :: after → (∀ x, .clock x ∉ after) →
          q.clock.state = (if s.clock.state = .unset then .set else s.clock.state)
            ∧ q.clock.seconds = (if s.clock.state = .unset then v else s.clock.seconds))
      ∧ ((∀ x, .clock x ∉ c.effects) → q.clock = s.clock)
      ∧ (.sweep ∉ c.effects → q.sweep = s.sweep ∧ q.arbiter.sweep = s.arbiter.sweep)
      ∧ (∀ x, s.sweep = some x → q.sweep = some x ∧ q.arbiter.sweep = s.arbiter.sweep)
      ∧ (.sweep ∈ c.effects → s.sweep = none →
          q.sweep = some ⟨q.serviceDay, q.setup.policy.retentionDays, 0⟩ ∧ q.arbiter.sweep = true)

/-- R4, R15: what a commit makes of each entry of the table. STAGED becomes LIVE; then a visible entry becomes DEAD where
its file tag is not the file's number and the file staged its serial or is FULL, or where a CANCEL names its serial and
action number; every other entry stands. A commit keeps at most one visible entry of a serial, where at most one visible
and at most one STAGED entry carried it before and no visible entry carried the file's own number. That the serials the
file staged are read from the entries STAGED at the commit is the model's deduction (log 24). -/
def Obligations.CommitEntryStates : Prop :=
  (∀ (st : Store) (c : CommitPayload), Sparse.rising st.table →
    (∀ n, st.entry n = none → (st.commit c).entry n = none)
      ∧ ∀ n e, st.entry n = some e →
        let killed : Prop :=
          (e.fileTag ≠ c.number ∧
              (c.kind = .full ∨ ∃ m a, st.entry m = some a ∧ a.state = .staged ∧ a.serial = e.serial))
            ∨ .cancel e.serial e.action ∈ c.effects
        (e.state = .dead → (st.commit c).entry n = some e)
          ∧ (e.state ≠ .dead → killed → (st.commit c).entry n = some { e with state := .dead, checkFault := 0 })
          ∧ (e.state = .staged → ¬ killed → (st.commit c).entry n = some { e with state := .live, checkFault := 0 })
          ∧ (e.visible = true → ¬ killed → (st.commit c).entry n = some e))
    ∧ ∀ (st : Store) (c : CommitPayload), Sparse.rising st.table → st.oneVisible → st.oneStaged →
      (∀ n e, st.entry n = some e → e.visible = true → e.fileTag ≠ c.number) → (st.commit c).oneVisible

/-- R48: at a commit each part of the setup for which the file carries a record takes the last such record whole, and a
part the file does not carry keeps its values; the lock is set where the file's last SETUP-POLICY asks for it. Under the
lock no setup record is applied and the setup-ignored flag is set. -/
def Obligations.CommitSetup : Prop :=
  ∀ (s : State) (c : CommitPayload), s.arbiter.op = some (.intake (.commit c)) →
    ∃ t, exec .commit s = .next t
      ∧ ((∀ x ∈ c.effects, x.isSetup = false) →
          t.setup = s.setup ∧ t.locked = s.locked ∧ t.setupIgnored = s.setupIgnored)
      ∧ ((∃ x ∈ c.effects, x.isSetup = true) → s.locked = true →
          t.setup = s.setup ∧ t.locked = true ∧ t.setupIgnored = true)
      ∧ (s.locked = false →
          (∀ before after w, c.effects = before ++ .windows w :: after → (∀ x, .windows x ∉ after) →
              t.setup.windows = w)
            ∧ ((∀ x, .windows x ∉ c.effects) → t.setup.windows = s.setup.windows)
            ∧ (∀ before after y lock, c.effects = before ++ .policy y lock :: after →
              (∀ x l, .policy x l ∉ after) → t.setup.policy = y ∧ t.locked = lock)
            ∧ ((∀ x l, .policy x l ∉ c.effects) → t.setup.policy = s.setup.policy ∧ t.locked = false)
            ∧ (∀ before after k, c.effects = before ++ .keys k :: after → (∀ x, .keys x ∉ after) →
              t.setup.keys = k)
            ∧ ((∀ x, .keys x ∉ c.effects) → t.setup.keys = s.setup.keys)
            ∧ t.setupIgnored = s.setupIgnored)

/-- R12, R46, R49, R63, R69, R75, R122, R141, R145: what a commit that applies setup records does to the other blocks.
Each context whose window the commit moves or disables, and under BYPASS every one, is EMPTY: its lookup is withdrawn, its
presentation given up with its entry reference, its outcome and its settle write, and counted where it is due; a read held
for it is answered from memory. An assembly is abandoned where the journal window changes or the mode is BYPASS. A clock
word changed discards its values. A changed attention mode clears the slot marks, and mode OFF releases ATTN_N. The file's
own effects are those of CommitCompletes and CommitSetup. All of this holds where intake ignores the commit's answer too,
a write to word 0 or RESET_N having ended the file (R33, R51); intake then goes on with what its buffer holds
(IntakeGoesOn). That the pins of those contexts are lowered within the commit's completion, before the next grant, is the
model's choice (log 35). -/
def Obligations.SetupFollowed : Prop :=
  ∀ (s : State) (c : CommitPayload) (given : Fin 4 → Bool), s.arbiter.op = some (.intake (.commit c)) →
    s.locked = false → (∃ x ∈ c.effects, x.isSetup = true) →
    let y : Setup := s.setup.applied c.effects
    (∀ n, given n = true ↔ y.policy.mode = .bypass ∨ fourAt y.windows.image n ≠ fourAt s.setup.windows.image n) →
    let unwatched : Prop := y.policy.mode = .bypass ∨ y.windows.journal ≠ s.setup.windows.journal
    let kept (n : Fin 4) : Context := if given n = true then .empty else s.context n
    let settling : Option SettleWrite := s.path.settleWrite.map fun x =>
      { x with owned := x.owned && !(given x.context && match s.context x.context with
          | .amended _ => true
          | .settled _ => true
          | _ => false) }
    ∃ q : Part, exec .commit s = .next { s with toPart := Part.grant (Part.intakeWork q) }
      ∧ q = { s.toPart with
          arbiter := { s.toPart.lookupsGiven given with
            op := none, intake := if s.intake.discardOwed then some .discard else s.arbiter.intake
            sweep := s.arbiter.sweep || (c.effects.contains .sweep && s.sweep.isNone) }
          store := q.store, fileNumber := c.number, fileNumberFault := 0
          setup := y, locked := q.locked, setupFault := 0
          contexts := ⟨kept 0, kept 1, kept 2, kept 3⟩
          journal := if unwatched then none else s.journal
          queue := { s.queue with
            checkFault := q.queue.checkFault
            outcomes := if unwatched then s.toPart.outcomesDetached (s.toPart.outcomesKept given)
              else s.toPart.outcomesKept given }
          counters := { s.counters with
            filesCommitted := raised s.counters.filesCommitted
            unconfirmed := raised^[s.toPart.unconfirmedGiven given] s.counters.unconfirmed }
          monitor :=
            let m : Monitor := if y.policy.attentionMode ≠ s.setup.policy.attentionMode
              then ⟨s.monitor.asserted, s.monitor.timer, false, false, false, false⟩ else s.monitor
            if y.policy.attentionMode = .off then { m with asserted := false, timer := none } else m
          follow := if y.windows.clockWord ≠ s.setup.windows.clockWord
            then ⟨none, ⟨none, none⟩, ⟨none, none⟩⟩ else s.follow
          clock := q.clock, sweep := q.sweep, path := q.path
          intake := s.intake.afterAnswer { s.intake with
            state := .idle, cursor := .closed, staging := none, buffer := s.intake.buffer.tail
            trailerBuffered := false } }
      ∧ q.store = { s.store.commit c with table := q.store.table }
      ∧ (∀ k, q.store.entry k =
          ((s.store.commit c).entry k).map fun e => { e with pins := e.pins - s.toPart.pinsGiven given k })
      ∧ (s.queue.checkFault = 0 → q.queue.checkFault = 0)
      ∧ (∀ w n l, s.path.cycle = some ⟨w, .context n, .read l .hold⟩ → given n = true →
          q.path = { s.path with
            settleWrite := settling, hold := none, cycle := some ⟨w, .context n, .read l .pass⟩
            pd := ⟨if l.upper then some (s.memoryByte (2 * w.toNat)) else none,
              if l.lower then some (s.memoryByte (2 * w.toNat + 1)) else none⟩ })
      ∧ ((∀ w n l, s.path.cycle = some ⟨w, .context n, .read l .hold⟩ → given n = false) →
          q.path = { s.path with settleWrite := settling })

/-- R12, R14, R31, R41: a discard makes every STAGED entry DEAD and changes no other entry; the entries keep their places
and passes. Intake then goes on with the records that have waited in its buffer for the answer (IntakeGoesOn); an answer
that intake ignores is followed by the discard owed. A release of an entry reference, taken between two operations, lowers
its entry's pin count by one. That it is a command of its own, which grants wait for, is the model's choice (log 15). -/
def Obligations.DiscardAndRelease : Prop :=
  (∀ s : State, s.arbiter.op = some (.intake .discard) →
    ∃ t, exec .discard s = .next t
      ∧ t = { s with
          toPart := Part.grant (Part.intakeWork { s.toPart with
            arbiter := s.arbiter.afterAnswer s.intake, store := t.store
            intake := s.intake.afterAnswer s.intake }) }
      ∧ (∀ n e, s.store.entry n = some e → t.store.entry n = some
          (if e.state = .staged then { e with state := .dead, checkFault := 0 } else e))
      ∧ (∀ n, s.store.entry n = none → t.store.entry n = none)
      ∧ t.store.freeList = s.store.freeList ∧ t.store.buckets = s.store.buckets
      ∧ t.store.freePasses = s.store.freePasses)
    ∧ ∀ (s : State) (n : Nat) (rest : List Nat) (e : Entry), s.arbiter.op = none → s.arbiter.releases = n :: rest →
      s.store.entry n = some e →
      ∃ t, exec .pinRelease s = .next t
        ∧ t = { s with
            toPart := Part.grant { s.toPart with
              arbiter := { s.arbiter with releases := rest }, store := t.store } }
        ∧ t.store.entry n = some { e with pins := e.pins - 1 }
        ∧ (∀ k, k ≠ n → t.store.entry k = s.store.entry k)
        ∧ t.store.freeList = s.store.freeList ∧ t.store.buckets = s.store.buckets
        ∧ t.store.freePasses = s.store.freePasses

/-- R1, R6 to R8, R150, R153: a sweep step retires an expired LIVE entry or an APPLIED one past its retention: DEAD, and
reclaimed at once if unpinned; it reclaims an unpinned DEAD entry and leaves every other, a FREE one among them. A
reclaimed entry is FREE at the free list's tail and out of its bucket, the order of the rest kept and the entry after it
with its bucket position, its passes in the pool. The next step is claimed, or the sweep ends after entry 16,383. -/
def Obligations.SweepStepTaken : Prop :=
  ∀ (s : State) (w : Sweep), s.arbiter.op = some .sweep → s.sweep = some w →
    Sparse.rising s.store.table → Sparse.rising s.store.buckets →
    ∃ t, exec .sweepStep s = .next t
      ∧ t = { s with
          toPart := Part.grant { s.toPart with
            store := t.store
            arbiter := { s.arbiter with
              op := none, sweep := if w.next + 1 < 16384 then true else s.arbiter.sweep }
            sweep := if w.next + 1 < 16384 then some { w with next := w.next + 1 } else none } }
      ∧ (s.store.entry w.next = none → t.store = s.store)
      ∧ ∀ e, s.store.entry w.next = some e →
        (let retired : Prop := ∃ d, w.day = some d ∧
            (e.state = .live ∧ e.expiry ≠ 0xFFFF ∧ e.expiry.toNat < d
              ∨ ∃ a, e.state = .applied a ∧ a + w.retention < d)
        (¬ retired → ¬ (e.state = .dead ∧ e.pins = 0) → t.store = s.store)
          ∧ (retired → e.pins ≠ 0 →
            t.store.entry w.next = some { e with state := .dead, checkFault := 0 }
              ∧ (∀ k, k ≠ w.next → t.store.entry k = s.store.entry k)
              ∧ t.store = { s.store with table := t.store.table })
          ∧ (retired ∨ e.state = .dead → e.pins = 0 →
            t.store.entry w.next = none
              ∧ (∀ k, k ≠ w.next →
                (s.store.standsAfter e.serial w.next k → t.store.entry k = (s.store.entry k).map (·.movedUp e))
                  ∧ (¬ s.store.standsAfter e.serial w.next k → t.store.entry k = s.store.entry k))
              ∧ (∀ b, t.store.chain b =
                if b = bucketOf e.serial then (s.store.chain b).erase w.next else s.store.chain b)
              ∧ t.store.freeList = s.store.freeList ++ [w.next]
              ∧ t.store.freePasses = s.store.freePasses + e.passes.length))

/-! ## Timers -/

/-- R20, R62, R74, R139, R140: the timers. The hold of a read in LOOKUP runs out: the read is answered from memory, the
context is EMPTY, one hold expiry is counted, a waiting lookup claim is withdrawn and the answer of a granted one will be
discarded. An await runs out: the RESERVED outcome is given up and one unconfirmed presentation counted; a context in
AMENDED goes on settling, one in SETTLED is EMPTY and releases its pin (log 15). The attention hold running out releases
ATTN_N. At a slot end the marks move back by one; in mode REPEAT, where the current slot and the two before it are marked
and the one before those is not, ATTN_N is asserted and the hold timer starts afresh. That an expiry with no such timer
running changes nothing is the model's choice (log 2). -/
def Obligations.TimersRunOut : Prop :=
  (∀ (s : State) (w : BitVec 23) (l : Lanes) (n : Fin 4) (snapshot : List Word) (written : List Lanes),
    s.path.cycle = some ⟨w, .context n, .read l .hold⟩ → s.context n = .lookup snapshot written →
    exec .holdExpiry s =
      .next { s with
        toPart := Part.grant { s.toPart with
          contexts := fourWith s.contexts n .empty
          counters := { s.counters with holdExpiries := raised s.counters.holdExpiries }
          arbiter := { s.arbiter with
            lookups := s.arbiter.lookups.filter fun c => c.1 != n
            op := s.arbiter.op.map fun o => o.unwanted n }
          path := s.path.carrying ⟨w, .context n, .read l .pass⟩ none
            ⟨if l.upper then some (s.memoryByte (2 * w.toNat)) else none,
              if l.lower then some (s.memoryByte (2 * w.toNat + 1)) else none⟩ } })
    ∧ (∀ (s : State) (n : Fin 4) (pr : Presentation) (limit : Nat), pr.await = .running limit →
      (s.context n = .amended pr →
          exec (.awaitExpiry n) s =
            .next { s with
              contexts := fourWith s.contexts n (.amended { pr with await := .expired })
              counters := { s.counters with unconfirmed := raised s.counters.unconfirmed }
              queue := { s.queue with
                checkFault := 0, outcomes := s.queue.outcomes.filter fun o => o.state != .reserved n } })
        ∧ (s.context n = .settled pr →
          exec (.awaitExpiry n) s =
            .next { s with
              toPart := Part.grant { s.toPart with
                contexts := fourWith s.contexts n .empty
                counters := { s.counters with unconfirmed := raised s.counters.unconfirmed }
                store := if s.arbiter.op = none then s.store.unpin pr.entry else s.store
                arbiter := if s.arbiter.op = none then s.arbiter
                  else { s.arbiter with releases := s.arbiter.releases ++ [pr.entry] }
                queue := { s.queue with
                  checkFault := 0, outcomes := s.queue.outcomes.filter fun o => o.state != .reserved n } } }))
    ∧ ∀ s : State,
      (∀ k, s.monitor.timer = some k →
          exec .attentionHoldExpiry s = .next { s with monitor := { s.monitor with asserted := false, timer := none } })
        ∧ (s.monitor.timer = none → exec .attentionHoldExpiry s = .next s)
        ∧ (s.supply = .run → exec .slotEnd s =
          .next { s with
            monitor :=
              if s.setup.policy.attentionMode = .repeated ∧ s.monitor.mark0 = true ∧ s.monitor.mark1 = true
                ∧ s.monitor.mark2 = true ∧ s.monitor.mark3 = false then
                ⟨true, some s.setup.policy.attentionHold, false, s.monitor.mark0, s.monitor.mark1, s.monitor.mark2⟩
              else
                ⟨s.monitor.asserted, s.monitor.timer, false, s.monitor.mark0, s.monitor.mark1, s.monitor.mark2⟩ })

/-- R143, R148 to R151: a crystal second. The clock counts where it is not UNSET and stops at its greatest value. An
advance to a whole minute of service time at which the schedule matches starts a sweep in RUN where none runs, and outside
RUN leaves a sweep owed. In OFF nothing runs. The service day, and the weekday, hour and minute that the schedule asks
for, are derived from the seconds less the service-day offset; seconds below the offset count as the late hours of service
day 0. A part in its cold initialisation completes it first (log 44; SupplyArrives). -/
def Obligations.SecondCounted : Prop :=
  (∀ s : State, s.claimsGranted → (s.supply = .off ∨ s.supply = .keep → s.initialising = none) →
    (s.supply = .off → exec .clockSecond s = .next s)
      ∧ (s.supply ≠ .off → s.clock.state = .unset ∨ s.clock.seconds = 0xFFFFFFFF →
        exec .clockSecond s = .next { s with crystal := s.crystal + 1 })
      ∧ (s.supply ≠ .off → s.clock.state ≠ .unset → s.clock.seconds ≠ 0xFFFFFFFF →
        let q : Part := { s.toPart with
          crystal := s.crystal + 1, clock := { s.clock with seconds := s.clock.seconds + 1 } }
        (¬ (q.wholeMinute = true ∧ q.scheduleMatches = true) → exec .clockSecond s = .next { s with toPart := q })
          ∧ (q.wholeMinute = true → q.scheduleMatches = true →
            (s.supply = .run → ∀ x, s.sweep = some x → exec .clockSecond s = .next { s with toPart := q })
              ∧ (s.supply = .run → s.sweep = none → exec .clockSecond s =
                .next { s with
                  toPart := Part.grant { q with
                    sweep := some ⟨q.serviceDay, s.setup.policy.retentionDays, 0⟩
                    arbiter := { s.arbiter with sweep := true } } })
              ∧ (s.supply ≠ .run → exec .clockSecond s =
                .next { s with toPart := { q with clock := { q.clock with owedSweep := true } } }))))
    ∧ ∀ p : Part,
      let seconds : Nat := p.clock.seconds.toNat
      let offset : Nat := p.setup.policy.serviceOffset
      let time : Nat := if seconds < offset then seconds + 86400 - offset else seconds - offset
      (p.clock.state = .unset → p.serviceDay = none)
        ∧ (p.clock.state ≠ .unset →
          p.serviceDay = some (if seconds < offset then 0 else (seconds - offset) / 86400))
        ∧ (offset ≤ 86399 → (p.wholeMinute = true ↔ (60 : Int) ∣ (seconds : Int) - (offset : Int)))
        ∧ (p.scheduleMatches = true ↔
          p.setup.policy.scheduleEnabled = true ∧ p.clock.state ≠ .unset
            ∧ (p.setup.policy.sweepWeekday = 7
              ∨ p.setup.policy.sweepWeekday = if seconds < offset then 0 else (seconds - offset) / 86400 % 7)
            ∧ (p.setup.policy.sweepHour = 255 ∨ p.setup.policy.sweepHour = time % 86400 / 3600)
            ∧ (p.setup.policy.sweepMinute = 255 ∨ p.setup.policy.sweepMinute = time % 3600 / 60))

/-! ## Supply, retention and start-up -/

/-- R159, R174 to R178: what the supplies and the lockout timer do where main supply does not fall. VMAIN good in KEEP
with the retained domain kept valid enters LOCKOUT, its timer running and the straps sampled; in KEEP not kept valid, and
in OFF, it begins cold initialisation. VKEEP good in OFF begins cold initialisation; VKEEP low in KEEP makes keep-valid
false; VKEEP lost in KEEP is OFF, with no value of keep-valid. The lockout timer running out enters VERIFY. Each VKEEP
event sets the level of VKEEP that a fall of main supply consults, and in any other state does no more (log 8). That cold
initialisation is in progress until the part is left to itself (EmptyQueueStep), or until a command that only a part past
it can meet completes it, is the model's choice (log 44), as is the crystal's count starting with it (log 18). What stands
for the retained domain in OFF is log 7's; that VKEEP lost leaves the memory behind the part as it stands is the model's
choice (log 51). -/
def Obligations.SupplyArrives : Prop :=
  ∀ (s : State) (straps : BitVec 10),
    (s.supply = .keep → s.keepValid = some true → s.initialising = none →
        exec (.vmainGood straps) s =
          .next { s with
            supply := .lockout, lockoutTimer := true, path := MemoryPath.quiet (some (fileWindowOf straps)) })
      ∧ (s.supply = .off ∨ s.supply = .keep ∧ s.keepValid ≠ some true → s.initialising = none →
        exec (.vmainGood straps) s = .next { s with initialising := some (.atVmain straps) })
      ∧ (s.supply = .off → s.initialising = some .atVkeep →
        exec (.vmainGood straps) s =
          .next { s with
            supply := .lockout, lockoutTimer := true, path := MemoryPath.quiet (some (fileWindowOf straps))
            initialising := none
            keepValid := some true, crystal := 0, store := Store.cold, fileNumber := 0, fileNumberFault := 0
            setup := Setup.cold, locked := false, setupFault := 0, queue := OutcomeQueue.cold
            clock := DayClock.cold })
      ∧ (s.supply ≠ .off → s.supply ≠ .keep → s.initialising = none → exec (.vmainGood straps) s = .next s)
      ∧ (∀ sampled, s.initialising = some (.atVmain sampled) → exec (.vmainGood straps) s = .next s)
      ∧ (s.supply = .lockout →
        exec .lockoutExpiry s =
          .next { s with supply := .verify, lockoutTimer := false, walk := some ⟨.entry 0, false⟩ })
      ∧ (s.supply = .off → s.initialising = none →
        exec .vkeepGood s = .next { s with vkeep := .good, initialising := some .atVkeep })
      ∧ (s.supply ≠ .off ∨ s.initialising ≠ none → exec .vkeepGood s = .next { s with vkeep := .good })
      ∧ (s.supply = .keep → s.initialising = none →
        exec .vkeepLow s = .next { s with vkeep := .low, keepValid := some false })
      ∧ (s.supply = .off → s.initialising = some .atVkeep → exec .vkeepLow s =
        .next { s with
          supply := .keep, initialising := none, vkeep := .low
          keepValid := some false, crystal := 0, store := Store.cold, fileNumber := 0, fileNumberFault := 0
          setup := Setup.cold, locked := false, setupFault := 0, queue := OutcomeQueue.cold
          clock := DayClock.cold })
      ∧ (s.initialising ≠ some .atVkeep → s.supply ≠ .keep ∨ s.initialising ≠ none →
        exec .vkeepLow s = .next { s with vkeep := .low })
      ∧ (s.supply = .keep ∧ s.initialising = none ∨ s.supply = .off ∧ s.initialising = some .atVkeep →
        ∃ t, exec .vkeepLost s = .next t
          ∧ t = { s with
              vkeep := .lost, supply := .off, keepValid := none, initialising := none, store := t.store
              fileNumber := t.fileNumber, fileNumberFault := t.fileNumberFault, setup := t.setup
              locked := t.locked, setupFault := t.setupFault, queue := t.queue, clock := t.clock })
      ∧ (s.initialising ≠ some .atVkeep → s.supply ≠ .keep ∨ s.initialising ≠ none →
        exec .vkeepLost s = .next { s with vkeep := .lost })
      ∧ ∀ c, s.supply = .off ∨ s.supply = .keep → s.initialising ≠ none →
        (c = .lockoutExpiry ∨ c = .clockSecond ∨ (∃ x, c = .resetN x) ∨ ∃ w a, c = .passThroughCycle w a) →
        ∃ q, step { s with pending := [] } = .next q ∧ exec c s = exec c { q with pending := s.pending }

/-- R26, R152, R179 to R183: the verification walk completes, from whatever position it stands at, and the part enters
RUN with every block at its entry values. A failed entry check, structure check or file-number check, whether the walk has
met it already or has it to come, declares the table lost: cold table, file number 0, flag set. Otherwise STAGED entries
are DEAD and pins cleared, from the walk's entry on. A failed setup check gives the cold setup, unlocked. RESERVED
outcomes are released and the ATTACHED one UNREPORTED, or, on a failed queue check, all are gone. Stages behind the walk
are done; a walk done already leaves everything as it made it. An owed sweep starts, its day the current service day at the
entry. That a cycle in progress drops its record here, its P_D kept, is the model's choice (logs 42, 49). -/
def Obligations.WalkEntersRun : Prop :=
  ∀ (s : State) (stage : WalkStage) (failed : Bool), s.supply = .verify → s.walk = some ⟨stage, failed⟩ →
    let fromEntry : Nat := match stage with
      | .entry n => n
      | _ => 16384
    let ahead (k : Nat) : Prop := (match stage with
      | .entry _ => 1
      | .structureCheck => 2
      | .fileNumber => 3
      | .setup => 4
      | .queueCheck => 5
      | .queueItem _ => 6
      | .rebuild _ => 7
      | .done => 8) ≤ k
    let lost : Prop := failed = true ∨ (∃ n, stage = .rebuild n)
      ∨ (∃ x ∈ s.store.table, fromEntry ≤ x.1 ∧ x.1 < 16384 ∧ x.2.checkHolds = false)
      ∨ ahead 2 ∧ (s.store.structureFault ≠ 0 ∨ s.store.rebuildMark = true)
      ∨ ahead 3 ∧ s.fileNumberFault ≠ 0
    let atPlace : Nat := match stage with
      | .queueItem n => n
      | _ => 0
    ∃ t, exec .verificationWalkComplete s = .next t
      ∧ t.supply = .run ∧ t.walk = none ∧ t.contexts = allEmpty ∧ t.journal = none ∧ t.intake = Intake.draining
      ∧ t.counters = Counters.zero ∧ t.previousPage = .counters ∧ t.monitor = Monitor.released
      ∧ t.follow = Follow.empty ∧ t.setupIgnored = false ∧ t.memory = s.memory
      ∧ t.path = { s.path with cycle := none, hold := none, waiting := none, settleWrite := none, lastGranted := 3 }
      ∧ t.keepValid = s.keepValid ∧ t.crystal = s.crystal
      ∧ (lost → t.tableLost = true)
      ∧ (¬ lost → t.tableLost = false)
      ∧ (lost → stage ≠ .done → t.store = Store.cold ∧ t.fileNumber = 0 ∧ t.fileNumberFault = 0)
      ∧ (¬ lost → t.fileNumber = s.fileNumber
          ∧ t.store.freeList = s.store.freeList ∧ t.store.buckets = s.store.buckets
          ∧ t.store.freePasses = s.store.freePasses
          ∧ (∀ n, s.store.entry n = none → t.store.entry n = none)
          ∧ (∀ n, n < fromEntry ∨ 16384 ≤ n → t.store.entry n = s.store.entry n)
          ∧ ∀ n e, fromEntry ≤ n → n < 16384 → s.store.entry n = some e → t.store.entry n = some
            { e with state := if e.state = .staged then .dead else e.state, pins := 0 })
      ∧ (stage = .done → t.store = s.store ∧ t.fileNumber = s.fileNumber)
      ∧ (¬ ahead 4 ∨ s.setupFault = 0 → t.setup = s.setup ∧ t.locked = s.locked)
      ∧ (ahead 4 → s.setupFault ≠ 0 → t.setup = Setup.cold ∧ t.locked = false ∧ t.setupFault = 0)
      ∧ (ahead 6 → ¬ ahead 5 ∨ s.queue.checkFault = 0 → t.queue.outcomes =
          s.queue.outcomes.take atPlace
            ++ ((s.queue.outcomes.drop atPlace).filter fun o => !o.isReserved).map fun o => match o.state with
              | .reserved _ => o
              | .attached n => { o with state := .unreported n }
              | .unreported _ => o)
      ∧ (ahead 5 → s.queue.checkFault ≠ 0 → t.queue.outcomes = [])
      ∧ (¬ ahead 6 → t.queue = s.queue)
      ∧ t.queue.nextSequence = s.queue.nextSequence ∧ t.queue.ordinal = s.queue.ordinal
      ∧ t.clock = { s.clock with owedSweep := false }
      ∧ (s.clock.owedSweep = false → t.sweep = none ∧ t.arbiter = Arbiter.idle)
      ∧ (s.clock.owedSweep = true → t.sweep = some ⟨t.serviceDay, t.setup.policy.retentionDays, 0⟩
          ∧ t.arbiter = { Arbiter.idle with op := some .sweep })

/-- R78, R172, R177, R184: a fall of main supply ends every volatile item; with VKEEP good the part enters KEEP with its
retained domain as it stands, and with VKEEP not good OFF, its retained domain lost (what stands for it: log 7). A settle
write on the M-port may or may not reach memory (log 6); of memory the backup cell keeps a part (log 5). A fall that cuts
the cold initialisation it feeds leaves keep-valid false in KEEP, or OFF (log 44), and memory as it stands, the model's
choice (log 51). Otherwise main supply cannot fall in KEEP and OFF; the command then changes nothing, as does a cycle sent
there: the model's deduction (logs 2, 3). RESET_N has no effect there (R185). -/
def Obligations.MainSupplyFalls : Prop :=
  ∀ s : State,
    (s.supply = .lockout ∨ s.supply = .verify ∨ s.supply = .run →
        ∃ t, exec .vmainFall s = .next t
          ∧ (s.vkeep = .good →
            t = { s with
              supply := .keep, initialising := none, lockoutTimer := false, walk := none, arbiter := Arbiter.idle, tableLost := false
              intake := Intake.draining, setupIgnored := false, contexts := allEmpty, awaitOrder := []
              journal := none, counters := Counters.zero, previousPage := .counters
              monitor := Monitor.released, follow := Follow.empty, sweep := none
              path := MemoryPath.quiet none, memory := t.memory, memoryEpoch := s.memoryEpoch + 1
              draws := t.draws })
          ∧ (s.vkeep ≠ .good →
            t = { s with
              supply := .off, keepValid := none, initialising := none, store := t.store
              fileNumber := t.fileNumber, fileNumberFault := t.fileNumberFault, setup := t.setup
              locked := t.locked, setupFault := t.setupFault, queue := t.queue, clock := t.clock
              lockoutTimer := false, walk := none, arbiter := Arbiter.idle, tableLost := false
              intake := Intake.draining, setupIgnored := false, contexts := allEmpty, awaitOrder := []
              journal := none, counters := Counters.zero, previousPage := .counters
              monitor := Monitor.released, follow := Follow.empty, sweep := none
              path := MemoryPath.quiet none, memory := t.memory, memoryEpoch := s.memoryEpoch + 1
              draws := t.draws })
          ∧ (s.path.settleWrite = none → t.draws = s.draws ∧ ∀ c ∈ t.memory, c ∈ s.memory)
          ∧ ∀ x, s.path.settleWrite = some x → t.draws = s.draws + 1
            ∧ ∀ c ∈ t.memory, c ∈ s.memory ∨ c = (2 * x.address.toNat, highByte x.value)
              ∨ c = (2 * x.address.toNat + 1, lowByte x.value))
      ∧ (s.supply = .keep ∨ s.supply = .off →
        (s.initialising = none → exec .vmainFall s = .next s
            ∧ (∀ w a, exec (.passThroughCycle w a) s = .next s) ∧ ∀ straps, exec (.resetN straps) s = .next s)
          ∧ (s.initialising = some .atVkeep → exec .vmainFall s = .next s)
          ∧ ∀ straps, s.initialising = some (.atVmain straps) →
            (s.vkeep = .good →
                exec .vmainFall s = .next { s with supply := .keep, keepValid := some false, initialising := none })
              ∧ (s.vkeep ≠ .good →
                ∃ t, exec .vmainFall s = .next t
                  ∧ t = { s with
                      supply := .off, keepValid := none, initialising := none, store := t.store
                      fileNumber := t.fileNumber, fileNumberFault := t.fileNumberFault, setup := t.setup
                      locked := t.locked, setupFault := t.setupFault, queue := t.queue, clock := t.clock }))

/-- R20, R27, R51, R69, R77, R123, R134, R141, R171, R185: RESET_N in RUN. Every context is EMPTY: its lookup withdrawn,
its presentation given up with its entry reference and its RESERVED outcome, and counted where it is due. A file in
reception is refused ABANDONED unless its own commit runs; intake is IDLE and a discard claimed, or owed while an
operation of intake's runs. The assembly is abandoned, its ATTACHED outcome UNREPORTED; the attention monitor is released,
the clock-word values discarded, the straps sampled. A held read is answered from memory, a held write goes to memory, and
a settle write on the M-port completes, of which the last, and the cycle's end, are the model's deduction (logs 21, 49).
That a newer file counts as refused while an older file's commit runs is log 22's, and that releases of entry references
wait while an operation is in progress log 15's. The
store but for pins, marks, the running sweep and everything else stand; a claim that falls to be granted is granted. A
cycle that waited for the settle write is taken then. In LOCKOUT and VERIFY the straps are sampled and nothing else
changes. -/
def Obligations.ResetTaken : Prop :=
  (∀ (s : State) (straps : BitVec 10), s.supply = .run → s.path.settleWrite = none ∨ s.path.cycle = none →
    let every : Fin 4 → Bool := fun _ => true
    let running : Bool := s.intakeRunning.isSome
    let refused : Prop := s.intake.state = .receiving
      ∧ ¬ ((∃ c, s.arbiter.op = some (.intake (.commit c))) ∧ s.intake.answerIgnored = false)
    let entries : List Nat := (List.finRange 4).filterMap fun n => match s.context n with
      | .amended pr => some pr.entry
      | .settled pr => some pr.entry
      | _ => none
    ∃ r : Part,
      (s.path.waiting = none → exec (.resetN straps) s = .next { s with toPart := r.grant })
        ∧ (∀ w a, s.path.waiting = some (w, a) →
          exec (.resetN straps) s = .next { s with toPart := (r.takeCycle w a).grant })
        ∧ r = { s.toPart with
            contexts := allEmpty, journal := none, monitor := Monitor.released, follow := Follow.empty
            store := { s.store with table := r.store.table }
            arbiter := { s.toPart.lookupsGiven every with
              intake := if running then s.arbiter.intake else some .discard
              releases := if s.arbiter.op = none then s.arbiter.releases else s.arbiter.releases ++ entries }
            queue := { s.queue with
              checkFault := r.queue.checkFault
              outcomes := s.toPart.outcomesDetached (s.toPart.outcomesKept every) }
            counters := r.counters
            intake := { s.intake with
              state := .idle, cursor := .closed, assembly := [], buffer := [], staging := none
              trailerBuffered := false, held := none
              answerIgnored := s.intake.answerIgnored || running, discardOwed := s.intake.discardOwed || running }
            path := { MemoryPath.quiet (some (fileWindowOf straps)) with pd := r.path.pd }
            memory := r.memory }
        ∧ (refused → r.counters = { s.counters with
            unconfirmed := raised^[s.toPart.unconfirmedGiven every] s.counters.unconfirmed
            filesRefused := raised s.counters.filesRefused, lastRefusal := some .abandoned, refusalMark := true })
        ∧ (¬ refused → r.counters = { s.counters with
            unconfirmed := raised^[s.toPart.unconfirmedGiven every] s.counters.unconfirmed })
        ∧ (s.arbiter.op ≠ none → r.store = s.store)
        ∧ (s.arbiter.op = none → ∀ k, r.store.entry k =
            (s.store.entry k).map fun e => { e with pins := e.pins - s.toPart.pinsGiven every k })
        ∧ (s.queue.checkFault = 0 → r.queue.checkFault = 0)
        ∧ (∀ x, s.path.settleWrite = some x →
          s.memoryTakes r x.address ⟨some (highByte x.value), some (lowByte x.value)⟩)
        ∧ (∀ w b, s.path.cycle = some ⟨w, .fileIntake, .write b .hold⟩ →
          s.memoryTakes r w b ∧ r.path.pd = ⟨none, none⟩)
        ∧ (∀ w n l, s.path.cycle = some ⟨w, .context n, .read l .hold⟩ →
          r.path.pd = ⟨if l.upper then some (s.memoryByte (2 * w.toNat)) else none,
            if l.lower then some (s.memoryByte (2 * w.toNat + 1)) else none⟩)
        ∧ (s.path.settleWrite = none → (∀ w b, s.path.cycle ≠ some ⟨w, .fileIntake, .write b .hold⟩) →
          r.memory = s.memory)
        ∧ ((∀ c, s.path.cycle = some c → c.isHeld = false) → r.path.pd = s.path.pd))
    ∧ ∀ (s : State) (straps : BitVec 10), s.supply = .lockout ∨ s.supply = .verify →
      exec (.resetN straps) s = .next { s with path := { s.path with fileWindow := some (fileWindowOf straps) } }

/-- R137, R138, R141, R162, R164, R165, R167, R186: the outputs in each supply state. In OFF nothing is driven. In KEEP
the M-port is inactive, ACT low, PWAIT_N and ATTN_N released, P_D not driven. Elsewhere the M-port carries the settle
write, or the cycle in progress as it is answered, and P_D what the part has put there; that it carries nothing of a cycle
whose record RESET_N or the entry to RUN has dropped is the model's choice (log 49). In LOCKOUT and VERIFY ACT is low
and PWAIT_N and ATTN_N are released, PWAIT_N for the cycle crossing too: the model's choice (log 48). In RUN PWAIT_N is
asserted for a held or waiting cycle, ATTN_N as the monitor has it, and ACT is high in mode ACTIVE. -/
def Obligations.OutputsDriven : Prop :=
  ∀ p : Part, p.restsOutsideRun →
    (p.supply = .off →
        p.pwaitPin = .notDriven ∧ p.attnPin = .notDriven ∧ p.actPin = .notDriven ∧ p.mPort = .notDriven
          ∧ p.pData = ⟨none, none⟩)
      ∧ (p.supply = .keep →
        p.pwaitPin = .high ∧ p.attnPin = .notDriven ∧ p.actPin = .low ∧ p.mPort = .inactive ∧ p.pData = ⟨none, none⟩)
      ∧ (p.supply = .lockout ∨ p.supply = .verify →
        p.pwaitPin = .high ∧ p.attnPin = .notDriven ∧ p.actPin = .low)
      ∧ (p.supply = .run →
        p.pwaitPin = (if p.path.hold ≠ none ∨ p.path.waiting ≠ none then .low else .high)
          ∧ p.attnPin = (if p.monitor.asserted then .low else .notDriven)
          ∧ p.actPin = (if p.setup.policy.mode = .active then .high else .low))
      ∧ (p.supply ≠ .off → p.supply ≠ .keep →
        p.pData = p.path.pd
          ∧ (∀ x, p.path.settleWrite = some x →
            p.mPort = .write x.address ⟨some (highByte x.value), some (lowByte x.value)⟩)
          ∧ (p.path.settleWrite = none →
            (p.path.cycle = none → p.mPort = .inactive)
              ∧ ∀ w owner,
                (∀ l, p.path.cycle = some ⟨w, owner, .read l .pass⟩ → p.mPort = .read w l)
                  ∧ (∀ l v, p.path.cycle = some ⟨w, owner, .read l (.serve v)⟩ → p.mPort = .inactive)
                  ∧ (∀ l, p.path.cycle = some ⟨w, owner, .read l .hold⟩ → p.mPort = .inactive)
                  ∧ (∀ b, p.path.cycle = some ⟨w, owner, .write b .pass⟩ → p.mPort = .write w b)
                  ∧ (∀ b x, p.path.cycle = some ⟨w, owner, .write b (.substitute x)⟩ → p.mPort = .write w x)
                  ∧ ∀ b, p.path.cycle = some ⟨w, owner, .write b .hold⟩ → p.mPort = .inactive))

/-! ## What every step keeps -/

/-- State.reset is sound: memory in canonical form (log 4), the outcome queue within its bound, the clock at 0 while
UNSET, every block at rest, no claim ungranted, no keep-valid in OFF, no cold initialisation in progress, the pass pool
whole, no serial in two visible entries; its queue of commands is empty. That it is the part in OFF is the model's choice
(log 7). -/
def Obligations.ResetIsSound : Prop :=
  State.reset.sound ∧ State.reset.pending = [] ∧ State.reset.supply = .off

/-- R19: no claim stands ungranted while the table is free and no release is to be taken. -/
def Obligations.ClaimsGrantedKept : Prop :=
  ∀ s t : State, s.toPart.claimsGranted → step s = .next t → t.toPart.claimsGranted

/-- R35, R36, R54, R126, R143, R165, R173, R177, R178: every step keeps the outcome queue within 64, the clock at 0 while
UNSET, keep-valid present except in OFF, every block at rest outside RUN, a cold initialisation in progress only in OFF
and KEEP, the overlays in ascending order, and the memory behind the part in the model's canonical form, addresses rising
and within the 24-bit space (log 4). Of a part at rest outside RUN it also keeps that intake waits: two records at most in
its buffer, any of them under an operation outstanding or a discard owed, a record held only with its write, and the hold
with each held cycle. -/
def Obligations.BoundsAndRestKept : Prop :=
  ∀ s t : State, step s = .next t →
    (s.toPart.queueWithin → t.toPart.queueWithin)
      ∧ (s.toPart.clockHonest → t.toPart.clockHonest)
      ∧ (s.toPart.keepValidPresent → t.toPart.keepValidPresent)
      ∧ (s.toPart.restsOutsideRun → t.toPart.restsOutsideRun)
      ∧ (s.toPart.coldUnsupplied → t.toPart.coldUnsupplied)
      ∧ (s.toPart.overlaysAscend → t.toPart.overlaysAscend)
      ∧ (s.toPart.restsOutsideRun → s.toPart.intakeWaits → t.toPart.intakeWaits)
      ∧ (Memory.wf s.memory → Memory.wf t.memory)

/-- R47: the committed file number never decreases but to 0: a file in hand, and a commit claimed or running, carries a
number above it, and every step keeps that. -/
def Obligations.FileNumberNeverFalls : Prop :=
  ∀ s t : State, s.toPart.numbersAbove → step s = .next t →
    t.toPart.numbersAbove ∧ (s.fileNumber.toNat ≤ t.fileNumber.toNat ∨ t.fileNumber = 0)

/-- R7, R10: the free list holds FREE entries, each once, and free and held pass records number 8,192 together. Every step
keeps this, with what intake has in hand for the table, but for a table that a rebuild has in hand (R180). Its premises
are invariants of their own: FileNumberNeverFalls and BoundsAndRestKept. -/
def Obligations.PoolKept : Prop :=
  ∀ s t : State, s.toPart.numbersAbove → s.toPart.restsOutsideRun → s.toPart.poolHonest → step s = .next t →
    t.toPart.poolHonest

/-- R4, R6, R47: at most one visible entry, and at most one STAGED entry, carry a serial. Every step keeps this, with
every entry in the chain of its serial's bucket and no visible entry's file tag above the committed file number, but for a
table that a rebuild has in hand (R180). Its premise is an invariant of its own: FileNumberNeverFalls. -/
def Obligations.OneVisibleKept : Prop :=
  ∀ s t : State, s.toPart.numbersAbove → s.toPart.visibleHonest → step s = .next t → t.toPart.visibleHonest
end

