-- ==== Sys2Proof/Laws/State.lean ====
section
/-! SUPPORT. What each named update of the part leaves in every field: one theorem an update, a clause a field, each
true by definition. Later proofs cite these and unfold no record update. -/

namespace Sys2Proof.Machine

@[simp] theorem Part.withCycle_fields (p : Part) (c : Cycle) (h : Option Nat) (d : LaneBytes) :
    (p.withCycle c h d).supply = p.supply ∧ (p.withCycle c h d).keepValid = p.keepValid ∧
    (p.withCycle c h d).initialising = p.initialising ∧ (p.withCycle c h d).lockoutTimer = p.lockoutTimer ∧
    (p.withCycle c h d).walk = p.walk ∧ (p.withCycle c h d).vkeep = p.vkeep ∧
    (p.withCycle c h d).crystal = p.crystal ∧ (p.withCycle c h d).store = p.store ∧
    (p.withCycle c h d).arbiter = p.arbiter ∧ (p.withCycle c h d).tableLost = p.tableLost ∧
    (p.withCycle c h d).intake = p.intake ∧ (p.withCycle c h d).fileNumber = p.fileNumber ∧
    (p.withCycle c h d).fileNumberFault = p.fileNumberFault ∧ (p.withCycle c h d).setup = p.setup ∧
    (p.withCycle c h d).locked = p.locked ∧ (p.withCycle c h d).setupFault = p.setupFault ∧
    (p.withCycle c h d).setupIgnored = p.setupIgnored ∧ (p.withCycle c h d).contexts = p.contexts ∧
    (p.withCycle c h d).awaitOrder = p.awaitOrder ∧ (p.withCycle c h d).journal = p.journal ∧
    (p.withCycle c h d).queue = p.queue ∧ (p.withCycle c h d).counters = p.counters ∧
    (p.withCycle c h d).previousPage = p.previousPage ∧ (p.withCycle c h d).monitor = p.monitor ∧
    (p.withCycle c h d).clock = p.clock ∧ (p.withCycle c h d).follow = p.follow ∧
    (p.withCycle c h d).sweep = p.sweep ∧
    (p.withCycle c h d).path = { p.path with cycle := some c, hold := h, pd := d } ∧
    (p.withCycle c h d).memory = p.memory ∧ (p.withCycle c h d).memoryEpoch = p.memoryEpoch ∧
    (p.withCycle c h d).draws = p.draws := by
  refine ⟨?_, ?_, ?_, ?_, ?_, ?_, ?_, ?_, ?_, ?_, ?_, ?_, ?_, ?_, ?_, ?_, ?_, ?_, ?_, ?_, ?_, ?_, ?_, ?_, ?_, ?_, ?_, ?_, ?_, ?_, ?_⟩ <;> rfl

@[simp] theorem Part.writeMemory_fields (p : Part) (w : BitVec 23) (b : LaneBytes) :
    (p.writeMemory w b).supply = p.supply ∧ (p.writeMemory w b).keepValid = p.keepValid ∧
    (p.writeMemory w b).initialising = p.initialising ∧ (p.writeMemory w b).lockoutTimer = p.lockoutTimer ∧
    (p.writeMemory w b).walk = p.walk ∧ (p.writeMemory w b).vkeep = p.vkeep ∧
    (p.writeMemory w b).crystal = p.crystal ∧ (p.writeMemory w b).store = p.store ∧
    (p.writeMemory w b).arbiter = p.arbiter ∧ (p.writeMemory w b).tableLost = p.tableLost ∧
    (p.writeMemory w b).intake = p.intake ∧ (p.writeMemory w b).fileNumber = p.fileNumber ∧
    (p.writeMemory w b).fileNumberFault = p.fileNumberFault ∧ (p.writeMemory w b).setup = p.setup ∧
    (p.writeMemory w b).locked = p.locked ∧ (p.writeMemory w b).setupFault = p.setupFault ∧
    (p.writeMemory w b).setupIgnored = p.setupIgnored ∧ (p.writeMemory w b).contexts = p.contexts ∧
    (p.writeMemory w b).awaitOrder = p.awaitOrder ∧ (p.writeMemory w b).journal = p.journal ∧
    (p.writeMemory w b).queue = p.queue ∧ (p.writeMemory w b).counters = p.counters ∧
    (p.writeMemory w b).previousPage = p.previousPage ∧ (p.writeMemory w b).monitor = p.monitor ∧
    (p.writeMemory w b).clock = p.clock ∧ (p.writeMemory w b).follow = p.follow ∧
    (p.writeMemory w b).sweep = p.sweep ∧ (p.writeMemory w b).path = p.path ∧
    (p.writeMemory w b).memory = Memory.writeWord p.memory w b ∧
    (p.writeMemory w b).memoryEpoch = p.memoryEpoch ∧ (p.writeMemory w b).draws = p.draws := by
  refine ⟨?_, ?_, ?_, ?_, ?_, ?_, ?_, ?_, ?_, ?_, ?_, ?_, ?_, ?_, ?_, ?_, ?_, ?_, ?_, ?_, ?_, ?_, ?_, ?_, ?_, ?_, ?_, ?_, ?_, ?_, ?_⟩ <;> rfl

@[simp] theorem Part.withContext_fields (p : Part) (n : Fin 4) (c : Context) :
    (p.withContext n c).supply = p.supply ∧ (p.withContext n c).keepValid = p.keepValid ∧
    (p.withContext n c).initialising = p.initialising ∧ (p.withContext n c).lockoutTimer = p.lockoutTimer ∧
    (p.withContext n c).walk = p.walk ∧ (p.withContext n c).vkeep = p.vkeep ∧
    (p.withContext n c).crystal = p.crystal ∧ (p.withContext n c).store = p.store ∧
    (p.withContext n c).arbiter = p.arbiter ∧ (p.withContext n c).tableLost = p.tableLost ∧
    (p.withContext n c).intake = p.intake ∧ (p.withContext n c).fileNumber = p.fileNumber ∧
    (p.withContext n c).fileNumberFault = p.fileNumberFault ∧ (p.withContext n c).setup = p.setup ∧
    (p.withContext n c).locked = p.locked ∧ (p.withContext n c).setupFault = p.setupFault ∧
    (p.withContext n c).setupIgnored = p.setupIgnored ∧
    (p.withContext n c).contexts = fourWith p.contexts n c ∧
    (p.withContext n c).awaitOrder = p.awaitOrder ∧ (p.withContext n c).journal = p.journal ∧
    (p.withContext n c).queue = p.queue ∧ (p.withContext n c).counters = p.counters ∧
    (p.withContext n c).previousPage = p.previousPage ∧ (p.withContext n c).monitor = p.monitor ∧
    (p.withContext n c).clock = p.clock ∧ (p.withContext n c).follow = p.follow ∧
    (p.withContext n c).sweep = p.sweep ∧ (p.withContext n c).path = p.path ∧
    (p.withContext n c).memory = p.memory ∧ (p.withContext n c).memoryEpoch = p.memoryEpoch ∧
    (p.withContext n c).draws = p.draws := by
  refine ⟨?_, ?_, ?_, ?_, ?_, ?_, ?_, ?_, ?_, ?_, ?_, ?_, ?_, ?_, ?_, ?_, ?_, ?_, ?_, ?_, ?_, ?_, ?_, ?_, ?_, ?_, ?_, ?_, ?_, ?_, ?_⟩ <;> rfl

@[simp] theorem Part.count_fields (p : Part) (f : Counters → Counters) :
    (p.count f).supply = p.supply ∧ (p.count f).keepValid = p.keepValid ∧
    (p.count f).initialising = p.initialising ∧ (p.count f).lockoutTimer = p.lockoutTimer ∧
    (p.count f).walk = p.walk ∧ (p.count f).vkeep = p.vkeep ∧ (p.count f).crystal = p.crystal ∧
    (p.count f).store = p.store ∧ (p.count f).arbiter = p.arbiter ∧ (p.count f).tableLost = p.tableLost ∧
    (p.count f).intake = p.intake ∧ (p.count f).fileNumber = p.fileNumber ∧
    (p.count f).fileNumberFault = p.fileNumberFault ∧ (p.count f).setup = p.setup ∧
    (p.count f).locked = p.locked ∧ (p.count f).setupFault = p.setupFault ∧
    (p.count f).setupIgnored = p.setupIgnored ∧ (p.count f).contexts = p.contexts ∧
    (p.count f).awaitOrder = p.awaitOrder ∧ (p.count f).journal = p.journal ∧ (p.count f).queue = p.queue ∧
    (p.count f).counters = f p.counters ∧ (p.count f).previousPage = p.previousPage ∧
    (p.count f).monitor = p.monitor ∧ (p.count f).clock = p.clock ∧ (p.count f).follow = p.follow ∧
    (p.count f).sweep = p.sweep ∧ (p.count f).path = p.path ∧ (p.count f).memory = p.memory ∧
    (p.count f).memoryEpoch = p.memoryEpoch ∧ (p.count f).draws = p.draws := by
  refine ⟨?_, ?_, ?_, ?_, ?_, ?_, ?_, ?_, ?_, ?_, ?_, ?_, ?_, ?_, ?_, ?_, ?_, ?_, ?_, ?_, ?_, ?_, ?_, ?_, ?_, ?_, ?_, ?_, ?_, ?_, ?_⟩ <;> rfl

@[simp] theorem Part.withOutcomes_fields (p : Part) (l : List Outcome) :
    (p.withOutcomes l).supply = p.supply ∧ (p.withOutcomes l).keepValid = p.keepValid ∧
    (p.withOutcomes l).initialising = p.initialising ∧ (p.withOutcomes l).lockoutTimer = p.lockoutTimer ∧
    (p.withOutcomes l).walk = p.walk ∧ (p.withOutcomes l).vkeep = p.vkeep ∧
    (p.withOutcomes l).crystal = p.crystal ∧ (p.withOutcomes l).store = p.store ∧
    (p.withOutcomes l).arbiter = p.arbiter ∧ (p.withOutcomes l).tableLost = p.tableLost ∧
    (p.withOutcomes l).intake = p.intake ∧ (p.withOutcomes l).fileNumber = p.fileNumber ∧
    (p.withOutcomes l).fileNumberFault = p.fileNumberFault ∧ (p.withOutcomes l).setup = p.setup ∧
    (p.withOutcomes l).locked = p.locked ∧ (p.withOutcomes l).setupFault = p.setupFault ∧
    (p.withOutcomes l).setupIgnored = p.setupIgnored ∧ (p.withOutcomes l).contexts = p.contexts ∧
    (p.withOutcomes l).awaitOrder = p.awaitOrder ∧ (p.withOutcomes l).journal = p.journal ∧
    (p.withOutcomes l).queue = { p.queue with outcomes := l, checkFault := 0 } ∧
    (p.withOutcomes l).counters = p.counters ∧ (p.withOutcomes l).previousPage = p.previousPage ∧
    (p.withOutcomes l).monitor = p.monitor ∧ (p.withOutcomes l).clock = p.clock ∧
    (p.withOutcomes l).follow = p.follow ∧ (p.withOutcomes l).sweep = p.sweep ∧
    (p.withOutcomes l).path = p.path ∧ (p.withOutcomes l).memory = p.memory ∧
    (p.withOutcomes l).memoryEpoch = p.memoryEpoch ∧ (p.withOutcomes l).draws = p.draws := by
  refine ⟨?_, ?_, ?_, ?_, ?_, ?_, ?_, ?_, ?_, ?_, ?_, ?_, ?_, ?_, ?_, ?_, ?_, ?_, ?_, ?_, ?_, ?_, ?_, ?_, ?_, ?_, ?_, ?_, ?_, ?_, ?_⟩ <;> rfl

@[simp] theorem Part.takeSequence_fields (p : Part) :
    (p.takeSequence).supply = p.supply ∧ (p.takeSequence).keepValid = p.keepValid ∧
    (p.takeSequence).initialising = p.initialising ∧ (p.takeSequence).lockoutTimer = p.lockoutTimer ∧
    (p.takeSequence).walk = p.walk ∧ (p.takeSequence).vkeep = p.vkeep ∧
    (p.takeSequence).crystal = p.crystal ∧ (p.takeSequence).store = p.store ∧
    (p.takeSequence).arbiter = p.arbiter ∧ (p.takeSequence).tableLost = p.tableLost ∧
    (p.takeSequence).intake = p.intake ∧ (p.takeSequence).fileNumber = p.fileNumber ∧
    (p.takeSequence).fileNumberFault = p.fileNumberFault ∧ (p.takeSequence).setup = p.setup ∧
    (p.takeSequence).locked = p.locked ∧ (p.takeSequence).setupFault = p.setupFault ∧
    (p.takeSequence).setupIgnored = p.setupIgnored ∧ (p.takeSequence).contexts = p.contexts ∧
    (p.takeSequence).awaitOrder = p.awaitOrder ∧ (p.takeSequence).journal = p.journal ∧
    (p.takeSequence).queue = { p.queue with nextSequence := p.queue.nextSequence + 1 } ∧
    (p.takeSequence).counters = p.counters ∧ (p.takeSequence).previousPage = p.previousPage ∧
    (p.takeSequence).monitor = p.monitor ∧ (p.takeSequence).clock = p.clock ∧
    (p.takeSequence).follow = p.follow ∧ (p.takeSequence).sweep = p.sweep ∧
    (p.takeSequence).path = p.path ∧ (p.takeSequence).memory = p.memory ∧
    (p.takeSequence).memoryEpoch = p.memoryEpoch ∧ (p.takeSequence).draws = p.draws := by
  refine ⟨?_, ?_, ?_, ?_, ?_, ?_, ?_, ?_, ?_, ?_, ?_, ?_, ?_, ?_, ?_, ?_, ?_, ?_, ?_, ?_, ?_, ?_, ?_, ?_, ?_, ?_, ?_, ?_, ?_, ?_, ?_⟩ <;> rfl

@[simp] theorem Part.begin_fields (p : Part) (a : Arbiter) (o : Operation) :
    (p.begin a o).supply = p.supply ∧ (p.begin a o).keepValid = p.keepValid ∧
    (p.begin a o).initialising = p.initialising ∧ (p.begin a o).lockoutTimer = p.lockoutTimer ∧
    (p.begin a o).walk = p.walk ∧ (p.begin a o).vkeep = p.vkeep ∧ (p.begin a o).crystal = p.crystal ∧
    (p.begin a o).store = p.store ∧ (p.begin a o).arbiter = { a with op := some o } ∧
    (p.begin a o).tableLost = p.tableLost ∧ (p.begin a o).intake = p.intake ∧
    (p.begin a o).fileNumber = p.fileNumber ∧ (p.begin a o).fileNumberFault = p.fileNumberFault ∧
    (p.begin a o).setup = p.setup ∧ (p.begin a o).locked = p.locked ∧
    (p.begin a o).setupFault = p.setupFault ∧ (p.begin a o).setupIgnored = p.setupIgnored ∧
    (p.begin a o).contexts = p.contexts ∧ (p.begin a o).awaitOrder = p.awaitOrder ∧
    (p.begin a o).journal = p.journal ∧ (p.begin a o).queue = p.queue ∧
    (p.begin a o).counters = p.counters ∧ (p.begin a o).previousPage = p.previousPage ∧
    (p.begin a o).monitor = p.monitor ∧ (p.begin a o).clock = p.clock ∧ (p.begin a o).follow = p.follow ∧
    (p.begin a o).sweep = p.sweep ∧ (p.begin a o).path = p.path ∧ (p.begin a o).memory = p.memory ∧
    (p.begin a o).memoryEpoch = p.memoryEpoch ∧ (p.begin a o).draws = p.draws := by
  refine ⟨?_, ?_, ?_, ?_, ?_, ?_, ?_, ?_, ?_, ?_, ?_, ?_, ?_, ?_, ?_, ?_, ?_, ?_, ?_, ?_, ?_, ?_, ?_, ?_, ?_, ?_, ?_, ?_, ?_, ?_, ?_⟩ <;> rfl

@[simp] theorem Part.tableFree_fields (p : Part) :
    (p.tableFree).supply = p.supply ∧ (p.tableFree).keepValid = p.keepValid ∧
    (p.tableFree).initialising = p.initialising ∧ (p.tableFree).lockoutTimer = p.lockoutTimer ∧
    (p.tableFree).walk = p.walk ∧ (p.tableFree).vkeep = p.vkeep ∧ (p.tableFree).crystal = p.crystal ∧
    (p.tableFree).store = p.store ∧ (p.tableFree).arbiter = { p.arbiter with op := none } ∧
    (p.tableFree).tableLost = p.tableLost ∧ (p.tableFree).intake = p.intake ∧
    (p.tableFree).fileNumber = p.fileNumber ∧ (p.tableFree).fileNumberFault = p.fileNumberFault ∧
    (p.tableFree).setup = p.setup ∧ (p.tableFree).locked = p.locked ∧
    (p.tableFree).setupFault = p.setupFault ∧ (p.tableFree).setupIgnored = p.setupIgnored ∧
    (p.tableFree).contexts = p.contexts ∧ (p.tableFree).awaitOrder = p.awaitOrder ∧
    (p.tableFree).journal = p.journal ∧ (p.tableFree).queue = p.queue ∧
    (p.tableFree).counters = p.counters ∧ (p.tableFree).previousPage = p.previousPage ∧
    (p.tableFree).monitor = p.monitor ∧ (p.tableFree).clock = p.clock ∧ (p.tableFree).follow = p.follow ∧
    (p.tableFree).sweep = p.sweep ∧ (p.tableFree).path = p.path ∧ (p.tableFree).memory = p.memory ∧
    (p.tableFree).memoryEpoch = p.memoryEpoch ∧ (p.tableFree).draws = p.draws := by
  refine ⟨?_, ?_, ?_, ?_, ?_, ?_, ?_, ?_, ?_, ?_, ?_, ?_, ?_, ?_, ?_, ?_, ?_, ?_, ?_, ?_, ?_, ?_, ?_, ?_, ?_, ?_, ?_, ?_, ?_, ?_, ?_⟩ <;> rfl

@[simp] theorem Part.claimLookup_fields (p : Part) (n : Fin 4) (k : BitVec 64) :
    (p.claimLookup n k).supply = p.supply ∧ (p.claimLookup n k).keepValid = p.keepValid ∧
    (p.claimLookup n k).initialising = p.initialising ∧ (p.claimLookup n k).lockoutTimer = p.lockoutTimer ∧
    (p.claimLookup n k).walk = p.walk ∧ (p.claimLookup n k).vkeep = p.vkeep ∧
    (p.claimLookup n k).crystal = p.crystal ∧ (p.claimLookup n k).store = p.store ∧
    (p.claimLookup n k).arbiter = { p.arbiter with lookups := p.arbiter.lookups ++ [(n, k)] } ∧
    (p.claimLookup n k).tableLost = p.tableLost ∧ (p.claimLookup n k).intake = p.intake ∧
    (p.claimLookup n k).fileNumber = p.fileNumber ∧
    (p.claimLookup n k).fileNumberFault = p.fileNumberFault ∧ (p.claimLookup n k).setup = p.setup ∧
    (p.claimLookup n k).locked = p.locked ∧ (p.claimLookup n k).setupFault = p.setupFault ∧
    (p.claimLookup n k).setupIgnored = p.setupIgnored ∧ (p.claimLookup n k).contexts = p.contexts ∧
    (p.claimLookup n k).awaitOrder = p.awaitOrder ∧ (p.claimLookup n k).journal = p.journal ∧
    (p.claimLookup n k).queue = p.queue ∧ (p.claimLookup n k).counters = p.counters ∧
    (p.claimLookup n k).previousPage = p.previousPage ∧ (p.claimLookup n k).monitor = p.monitor ∧
    (p.claimLookup n k).clock = p.clock ∧ (p.claimLookup n k).follow = p.follow ∧
    (p.claimLookup n k).sweep = p.sweep ∧ (p.claimLookup n k).path = p.path ∧
    (p.claimLookup n k).memory = p.memory ∧ (p.claimLookup n k).memoryEpoch = p.memoryEpoch ∧
    (p.claimLookup n k).draws = p.draws := by
  refine ⟨?_, ?_, ?_, ?_, ?_, ?_, ?_, ?_, ?_, ?_, ?_, ?_, ?_, ?_, ?_, ?_, ?_, ?_, ?_, ?_, ?_, ?_, ?_, ?_, ?_, ?_, ?_, ?_, ?_, ?_, ?_⟩ <;> rfl

@[simp] theorem Part.claimMark_fields (p : Part) (m : MarkClaim) :
    (p.claimMark m).supply = p.supply ∧ (p.claimMark m).keepValid = p.keepValid ∧
    (p.claimMark m).initialising = p.initialising ∧ (p.claimMark m).lockoutTimer = p.lockoutTimer ∧
    (p.claimMark m).walk = p.walk ∧ (p.claimMark m).vkeep = p.vkeep ∧ (p.claimMark m).crystal = p.crystal ∧
    (p.claimMark m).store = p.store ∧
    (p.claimMark m).arbiter = { p.arbiter with marks := p.arbiter.marks ++ [m] } ∧
    (p.claimMark m).tableLost = p.tableLost ∧ (p.claimMark m).intake = p.intake ∧
    (p.claimMark m).fileNumber = p.fileNumber ∧ (p.claimMark m).fileNumberFault = p.fileNumberFault ∧
    (p.claimMark m).setup = p.setup ∧ (p.claimMark m).locked = p.locked ∧
    (p.claimMark m).setupFault = p.setupFault ∧ (p.claimMark m).setupIgnored = p.setupIgnored ∧
    (p.claimMark m).contexts = p.contexts ∧ (p.claimMark m).awaitOrder = p.awaitOrder ∧
    (p.claimMark m).journal = p.journal ∧ (p.claimMark m).queue = p.queue ∧
    (p.claimMark m).counters = p.counters ∧ (p.claimMark m).previousPage = p.previousPage ∧
    (p.claimMark m).monitor = p.monitor ∧ (p.claimMark m).clock = p.clock ∧
    (p.claimMark m).follow = p.follow ∧ (p.claimMark m).sweep = p.sweep ∧ (p.claimMark m).path = p.path ∧
    (p.claimMark m).memory = p.memory ∧ (p.claimMark m).memoryEpoch = p.memoryEpoch ∧
    (p.claimMark m).draws = p.draws := by
  refine ⟨?_, ?_, ?_, ?_, ?_, ?_, ?_, ?_, ?_, ?_, ?_, ?_, ?_, ?_, ?_, ?_, ?_, ?_, ?_, ?_, ?_, ?_, ?_, ?_, ?_, ?_, ?_, ?_, ?_, ?_, ?_⟩ <;> rfl

@[simp] theorem Part.claimIntake_fields (p : Part) (c : IntakeClaim) :
    (p.claimIntake c).supply = p.supply ∧ (p.claimIntake c).keepValid = p.keepValid ∧
    (p.claimIntake c).initialising = p.initialising ∧ (p.claimIntake c).lockoutTimer = p.lockoutTimer ∧
    (p.claimIntake c).walk = p.walk ∧ (p.claimIntake c).vkeep = p.vkeep ∧
    (p.claimIntake c).crystal = p.crystal ∧ (p.claimIntake c).store = p.store ∧
    (p.claimIntake c).arbiter = { p.arbiter with intake := some c } ∧
    (p.claimIntake c).tableLost = p.tableLost ∧ (p.claimIntake c).intake = p.intake ∧
    (p.claimIntake c).fileNumber = p.fileNumber ∧ (p.claimIntake c).fileNumberFault = p.fileNumberFault ∧
    (p.claimIntake c).setup = p.setup ∧ (p.claimIntake c).locked = p.locked ∧
    (p.claimIntake c).setupFault = p.setupFault ∧ (p.claimIntake c).setupIgnored = p.setupIgnored ∧
    (p.claimIntake c).contexts = p.contexts ∧ (p.claimIntake c).awaitOrder = p.awaitOrder ∧
    (p.claimIntake c).journal = p.journal ∧ (p.claimIntake c).queue = p.queue ∧
    (p.claimIntake c).counters = p.counters ∧ (p.claimIntake c).previousPage = p.previousPage ∧
    (p.claimIntake c).monitor = p.monitor ∧ (p.claimIntake c).clock = p.clock ∧
    (p.claimIntake c).follow = p.follow ∧ (p.claimIntake c).sweep = p.sweep ∧
    (p.claimIntake c).path = p.path ∧ (p.claimIntake c).memory = p.memory ∧
    (p.claimIntake c).memoryEpoch = p.memoryEpoch ∧ (p.claimIntake c).draws = p.draws := by
  refine ⟨?_, ?_, ?_, ?_, ?_, ?_, ?_, ?_, ?_, ?_, ?_, ?_, ?_, ?_, ?_, ?_, ?_, ?_, ?_, ?_, ?_, ?_, ?_, ?_, ?_, ?_, ?_, ?_, ?_, ?_, ?_⟩ <;> rfl

@[simp] theorem Part.withdrawLookup_fields (p : Part) (n : Fin 4) :
    (p.withdrawLookup n).supply = p.supply ∧ (p.withdrawLookup n).keepValid = p.keepValid ∧
    (p.withdrawLookup n).initialising = p.initialising ∧
    (p.withdrawLookup n).lockoutTimer = p.lockoutTimer ∧ (p.withdrawLookup n).walk = p.walk ∧
    (p.withdrawLookup n).vkeep = p.vkeep ∧ (p.withdrawLookup n).crystal = p.crystal ∧
    (p.withdrawLookup n).store = p.store ∧ (p.withdrawLookup n).tableLost = p.tableLost ∧
    (p.withdrawLookup n).intake = p.intake ∧ (p.withdrawLookup n).fileNumber = p.fileNumber ∧
    (p.withdrawLookup n).fileNumberFault = p.fileNumberFault ∧ (p.withdrawLookup n).setup = p.setup ∧
    (p.withdrawLookup n).locked = p.locked ∧ (p.withdrawLookup n).setupFault = p.setupFault ∧
    (p.withdrawLookup n).setupIgnored = p.setupIgnored ∧ (p.withdrawLookup n).contexts = p.contexts ∧
    (p.withdrawLookup n).awaitOrder = p.awaitOrder ∧ (p.withdrawLookup n).journal = p.journal ∧
    (p.withdrawLookup n).queue = p.queue ∧ (p.withdrawLookup n).counters = p.counters ∧
    (p.withdrawLookup n).previousPage = p.previousPage ∧ (p.withdrawLookup n).monitor = p.monitor ∧
    (p.withdrawLookup n).clock = p.clock ∧ (p.withdrawLookup n).follow = p.follow ∧
    (p.withdrawLookup n).sweep = p.sweep ∧ (p.withdrawLookup n).path = p.path ∧
    (p.withdrawLookup n).memory = p.memory ∧ (p.withdrawLookup n).memoryEpoch = p.memoryEpoch ∧
    (p.withdrawLookup n).draws = p.draws := by
  refine ⟨?_, ?_, ?_, ?_, ?_, ?_, ?_, ?_, ?_, ?_, ?_, ?_, ?_, ?_, ?_, ?_, ?_, ?_, ?_, ?_, ?_, ?_, ?_, ?_, ?_, ?_, ?_, ?_, ?_, ?_⟩ <;> rfl

@[simp] theorem Part.assertAttention_fields (p : Part) :
    (p.assertAttention).supply = p.supply ∧ (p.assertAttention).keepValid = p.keepValid ∧
    (p.assertAttention).initialising = p.initialising ∧ (p.assertAttention).lockoutTimer = p.lockoutTimer ∧
    (p.assertAttention).walk = p.walk ∧ (p.assertAttention).vkeep = p.vkeep ∧
    (p.assertAttention).crystal = p.crystal ∧ (p.assertAttention).store = p.store ∧
    (p.assertAttention).arbiter = p.arbiter ∧ (p.assertAttention).tableLost = p.tableLost ∧
    (p.assertAttention).intake = p.intake ∧ (p.assertAttention).fileNumber = p.fileNumber ∧
    (p.assertAttention).fileNumberFault = p.fileNumberFault ∧ (p.assertAttention).setup = p.setup ∧
    (p.assertAttention).locked = p.locked ∧ (p.assertAttention).setupFault = p.setupFault ∧
    (p.assertAttention).setupIgnored = p.setupIgnored ∧ (p.assertAttention).contexts = p.contexts ∧
    (p.assertAttention).awaitOrder = p.awaitOrder ∧ (p.assertAttention).journal = p.journal ∧
    (p.assertAttention).queue = p.queue ∧ (p.assertAttention).counters = p.counters ∧
    (p.assertAttention).previousPage = p.previousPage ∧
    (p.assertAttention).monitor = { p.monitor with asserted := true, timer := some p.setup.policy.attentionHold } ∧
    (p.assertAttention).clock = p.clock ∧ (p.assertAttention).follow = p.follow ∧
    (p.assertAttention).sweep = p.sweep ∧ (p.assertAttention).path = p.path ∧
    (p.assertAttention).memory = p.memory ∧ (p.assertAttention).memoryEpoch = p.memoryEpoch ∧
    (p.assertAttention).draws = p.draws := by
  refine ⟨?_, ?_, ?_, ?_, ?_, ?_, ?_, ?_, ?_, ?_, ?_, ?_, ?_, ?_, ?_, ?_, ?_, ?_, ?_, ?_, ?_, ?_, ?_, ?_, ?_, ?_, ?_, ?_, ?_, ?_, ?_⟩ <;> rfl

@[simp] theorem Part.releaseAttention_fields (p : Part) :
    (p.releaseAttention).supply = p.supply ∧ (p.releaseAttention).keepValid = p.keepValid ∧
    (p.releaseAttention).initialising = p.initialising ∧
    (p.releaseAttention).lockoutTimer = p.lockoutTimer ∧ (p.releaseAttention).walk = p.walk ∧
    (p.releaseAttention).vkeep = p.vkeep ∧ (p.releaseAttention).crystal = p.crystal ∧
    (p.releaseAttention).store = p.store ∧ (p.releaseAttention).arbiter = p.arbiter ∧
    (p.releaseAttention).tableLost = p.tableLost ∧ (p.releaseAttention).intake = p.intake ∧
    (p.releaseAttention).fileNumber = p.fileNumber ∧
    (p.releaseAttention).fileNumberFault = p.fileNumberFault ∧ (p.releaseAttention).setup = p.setup ∧
    (p.releaseAttention).locked = p.locked ∧ (p.releaseAttention).setupFault = p.setupFault ∧
    (p.releaseAttention).setupIgnored = p.setupIgnored ∧ (p.releaseAttention).contexts = p.contexts ∧
    (p.releaseAttention).awaitOrder = p.awaitOrder ∧ (p.releaseAttention).journal = p.journal ∧
    (p.releaseAttention).queue = p.queue ∧ (p.releaseAttention).counters = p.counters ∧
    (p.releaseAttention).previousPage = p.previousPage ∧
    (p.releaseAttention).monitor = { p.monitor with asserted := false, timer := none } ∧
    (p.releaseAttention).clock = p.clock ∧ (p.releaseAttention).follow = p.follow ∧
    (p.releaseAttention).sweep = p.sweep ∧ (p.releaseAttention).path = p.path ∧
    (p.releaseAttention).memory = p.memory ∧ (p.releaseAttention).memoryEpoch = p.memoryEpoch ∧
    (p.releaseAttention).draws = p.draws := by
  refine ⟨?_, ?_, ?_, ?_, ?_, ?_, ?_, ?_, ?_, ?_, ?_, ?_, ?_, ?_, ?_, ?_, ?_, ?_, ?_, ?_, ?_, ?_, ?_, ?_, ?_, ?_, ?_, ?_, ?_, ?_, ?_⟩ <;> rfl

@[simp] theorem Part.disownSettle_fields (p : Part) (n : Fin 4) :
    (p.disownSettle n).supply = p.supply ∧ (p.disownSettle n).keepValid = p.keepValid ∧
    (p.disownSettle n).initialising = p.initialising ∧ (p.disownSettle n).lockoutTimer = p.lockoutTimer ∧
    (p.disownSettle n).walk = p.walk ∧ (p.disownSettle n).vkeep = p.vkeep ∧
    (p.disownSettle n).crystal = p.crystal ∧ (p.disownSettle n).store = p.store ∧
    (p.disownSettle n).arbiter = p.arbiter ∧ (p.disownSettle n).tableLost = p.tableLost ∧
    (p.disownSettle n).intake = p.intake ∧ (p.disownSettle n).fileNumber = p.fileNumber ∧
    (p.disownSettle n).fileNumberFault = p.fileNumberFault ∧ (p.disownSettle n).setup = p.setup ∧
    (p.disownSettle n).locked = p.locked ∧ (p.disownSettle n).setupFault = p.setupFault ∧
    (p.disownSettle n).setupIgnored = p.setupIgnored ∧ (p.disownSettle n).contexts = p.contexts ∧
    (p.disownSettle n).awaitOrder = p.awaitOrder ∧ (p.disownSettle n).journal = p.journal ∧
    (p.disownSettle n).queue = p.queue ∧ (p.disownSettle n).counters = p.counters ∧
    (p.disownSettle n).previousPage = p.previousPage ∧ (p.disownSettle n).monitor = p.monitor ∧
    (p.disownSettle n).clock = p.clock ∧ (p.disownSettle n).follow = p.follow ∧
    (p.disownSettle n).sweep = p.sweep ∧ (p.disownSettle n).memory = p.memory ∧
    (p.disownSettle n).memoryEpoch = p.memoryEpoch ∧ (p.disownSettle n).draws = p.draws := by
  refine ⟨?_, ?_, ?_, ?_, ?_, ?_, ?_, ?_, ?_, ?_, ?_, ?_, ?_, ?_, ?_, ?_, ?_, ?_, ?_, ?_, ?_, ?_, ?_, ?_, ?_, ?_, ?_, ?_, ?_, ?_⟩ <;> rfl

@[simp] theorem Part.beginCold_fields (p : Part) (c : ColdInit) :
    (p.beginCold c).supply = p.supply ∧ (p.beginCold c).keepValid = p.keepValid ∧
    (p.beginCold c).initialising = some c ∧ (p.beginCold c).lockoutTimer = p.lockoutTimer ∧
    (p.beginCold c).walk = p.walk ∧ (p.beginCold c).vkeep = p.vkeep ∧ (p.beginCold c).crystal = p.crystal ∧
    (p.beginCold c).store = p.store ∧ (p.beginCold c).arbiter = p.arbiter ∧
    (p.beginCold c).tableLost = p.tableLost ∧ (p.beginCold c).intake = p.intake ∧
    (p.beginCold c).fileNumber = p.fileNumber ∧ (p.beginCold c).fileNumberFault = p.fileNumberFault ∧
    (p.beginCold c).setup = p.setup ∧ (p.beginCold c).locked = p.locked ∧
    (p.beginCold c).setupFault = p.setupFault ∧ (p.beginCold c).setupIgnored = p.setupIgnored ∧
    (p.beginCold c).contexts = p.contexts ∧ (p.beginCold c).awaitOrder = p.awaitOrder ∧
    (p.beginCold c).journal = p.journal ∧ (p.beginCold c).queue = p.queue ∧
    (p.beginCold c).counters = p.counters ∧ (p.beginCold c).previousPage = p.previousPage ∧
    (p.beginCold c).monitor = p.monitor ∧ (p.beginCold c).clock = p.clock ∧
    (p.beginCold c).follow = p.follow ∧ (p.beginCold c).sweep = p.sweep ∧ (p.beginCold c).path = p.path ∧
    (p.beginCold c).memory = p.memory ∧ (p.beginCold c).memoryEpoch = p.memoryEpoch ∧
    (p.beginCold c).draws = p.draws := by
  refine ⟨?_, ?_, ?_, ?_, ?_, ?_, ?_, ?_, ?_, ?_, ?_, ?_, ?_, ?_, ?_, ?_, ?_, ?_, ?_, ?_, ?_, ?_, ?_, ?_, ?_, ?_, ?_, ?_, ?_, ?_, ?_⟩ <;> rfl

@[simp] theorem Part.walkAt_fields (p : Part) (g : WalkStage) (f : Bool) :
    (p.walkAt g f).supply = p.supply ∧ (p.walkAt g f).keepValid = p.keepValid ∧
    (p.walkAt g f).initialising = p.initialising ∧ (p.walkAt g f).lockoutTimer = p.lockoutTimer ∧
    (p.walkAt g f).walk = some ⟨g, f⟩ ∧ (p.walkAt g f).vkeep = p.vkeep ∧
    (p.walkAt g f).crystal = p.crystal ∧ (p.walkAt g f).store = p.store ∧
    (p.walkAt g f).arbiter = p.arbiter ∧ (p.walkAt g f).tableLost = p.tableLost ∧
    (p.walkAt g f).intake = p.intake ∧ (p.walkAt g f).fileNumber = p.fileNumber ∧
    (p.walkAt g f).fileNumberFault = p.fileNumberFault ∧ (p.walkAt g f).setup = p.setup ∧
    (p.walkAt g f).locked = p.locked ∧ (p.walkAt g f).setupFault = p.setupFault ∧
    (p.walkAt g f).setupIgnored = p.setupIgnored ∧ (p.walkAt g f).contexts = p.contexts ∧
    (p.walkAt g f).awaitOrder = p.awaitOrder ∧ (p.walkAt g f).journal = p.journal ∧
    (p.walkAt g f).queue = p.queue ∧ (p.walkAt g f).counters = p.counters ∧
    (p.walkAt g f).previousPage = p.previousPage ∧ (p.walkAt g f).monitor = p.monitor ∧
    (p.walkAt g f).clock = p.clock ∧ (p.walkAt g f).follow = p.follow ∧ (p.walkAt g f).sweep = p.sweep ∧
    (p.walkAt g f).path = p.path ∧ (p.walkAt g f).memory = p.memory ∧
    (p.walkAt g f).memoryEpoch = p.memoryEpoch ∧ (p.walkAt g f).draws = p.draws := by
  refine ⟨?_, ?_, ?_, ?_, ?_, ?_, ?_, ?_, ?_, ?_, ?_, ?_, ?_, ?_, ?_, ?_, ?_, ?_, ?_, ?_, ?_, ?_, ?_, ?_, ?_, ?_, ?_, ?_, ?_, ?_, ?_⟩ <;> rfl

@[simp] theorem Presentation.noteWrite_fields (pr : Presentation) (k : Nat) (b : LaneBytes) :
    (pr.noteWrite k b).snapshot = pr.snapshot ∧ (pr.noteWrite k b).decision = pr.decision ∧
    (pr.noteWrite k b).entry = pr.entry ∧ (pr.noteWrite k b).action = pr.action ∧
    (pr.noteWrite k b).overlay = pr.overlay ∧ (pr.noteWrite k b).confirmed = pr.confirmed ∧
    (pr.noteWrite k b).await = pr.await := ⟨rfl, rfl, rfl, rfl, rfl, rfl, rfl⟩

@[simp] theorem State.withPending_fields (s : State) (q : List Instr) :
    (s.withPending q).toPart = s.toPart ∧ (s.withPending q).pending = q := ⟨rfl, rfl⟩

end Sys2Proof.Machine
end

