-- ==== Sys2Proof/Laws/Ops.lean ====
section
/-! SUPPORT. The operations that several blocks share: what each leaves as it was. -/

namespace Sys2Proof.Machine

@[simp] theorem Part.carryRead_keeps (p : Part) (w : BitVec 23) (l : Lanes) (o : Owner) (a : ReadAnswer) :
    (p.carryRead w l o a).supply = p.supply ∧ (p.carryRead w l o a).keepValid = p.keepValid ∧
    (p.carryRead w l o a).initialising = p.initialising ∧
    (p.carryRead w l o a).lockoutTimer = p.lockoutTimer ∧ (p.carryRead w l o a).walk = p.walk ∧
    (p.carryRead w l o a).vkeep = p.vkeep ∧ (p.carryRead w l o a).crystal = p.crystal ∧
    (p.carryRead w l o a).store = p.store ∧ (p.carryRead w l o a).arbiter = p.arbiter ∧
    (p.carryRead w l o a).tableLost = p.tableLost ∧ (p.carryRead w l o a).intake = p.intake ∧
    (p.carryRead w l o a).fileNumber = p.fileNumber ∧
    (p.carryRead w l o a).fileNumberFault = p.fileNumberFault ∧ (p.carryRead w l o a).setup = p.setup ∧
    (p.carryRead w l o a).locked = p.locked ∧ (p.carryRead w l o a).setupFault = p.setupFault ∧
    (p.carryRead w l o a).setupIgnored = p.setupIgnored ∧ (p.carryRead w l o a).contexts = p.contexts ∧
    (p.carryRead w l o a).awaitOrder = p.awaitOrder ∧ (p.carryRead w l o a).journal = p.journal ∧
    (p.carryRead w l o a).queue = p.queue ∧ (p.carryRead w l o a).counters = p.counters ∧
    (p.carryRead w l o a).previousPage = p.previousPage ∧ (p.carryRead w l o a).monitor = p.monitor ∧
    (p.carryRead w l o a).clock = p.clock ∧ (p.carryRead w l o a).follow = p.follow ∧
    (p.carryRead w l o a).sweep = p.sweep ∧ (p.carryRead w l o a).memory = p.memory ∧
    (p.carryRead w l o a).memoryEpoch = p.memoryEpoch ∧ (p.carryRead w l o a).draws = p.draws := by
  unfold Part.carryRead
  split <;> simp

@[simp] theorem Part.carryWrite_keeps (p : Part) (w : BitVec 23) (b : LaneBytes) (o : Owner) (a : WriteAnswer) :
    (p.carryWrite w b o a).supply = p.supply ∧ (p.carryWrite w b o a).keepValid = p.keepValid ∧
    (p.carryWrite w b o a).initialising = p.initialising ∧
    (p.carryWrite w b o a).lockoutTimer = p.lockoutTimer ∧ (p.carryWrite w b o a).walk = p.walk ∧
    (p.carryWrite w b o a).vkeep = p.vkeep ∧ (p.carryWrite w b o a).crystal = p.crystal ∧
    (p.carryWrite w b o a).store = p.store ∧ (p.carryWrite w b o a).arbiter = p.arbiter ∧
    (p.carryWrite w b o a).tableLost = p.tableLost ∧ (p.carryWrite w b o a).intake = p.intake ∧
    (p.carryWrite w b o a).fileNumber = p.fileNumber ∧
    (p.carryWrite w b o a).fileNumberFault = p.fileNumberFault ∧ (p.carryWrite w b o a).setup = p.setup ∧
    (p.carryWrite w b o a).locked = p.locked ∧ (p.carryWrite w b o a).setupFault = p.setupFault ∧
    (p.carryWrite w b o a).setupIgnored = p.setupIgnored ∧ (p.carryWrite w b o a).contexts = p.contexts ∧
    (p.carryWrite w b o a).awaitOrder = p.awaitOrder ∧ (p.carryWrite w b o a).journal = p.journal ∧
    (p.carryWrite w b o a).queue = p.queue ∧ (p.carryWrite w b o a).counters = p.counters ∧
    (p.carryWrite w b o a).previousPage = p.previousPage ∧ (p.carryWrite w b o a).monitor = p.monitor ∧
    (p.carryWrite w b o a).clock = p.clock ∧ (p.carryWrite w b o a).follow = p.follow ∧
    (p.carryWrite w b o a).sweep = p.sweep ∧ (p.carryWrite w b o a).memoryEpoch = p.memoryEpoch ∧
    (p.carryWrite w b o a).draws = p.draws := by
  unfold Part.carryWrite
  split <;> simp

@[simp] theorem Part.releaseHeldWrite_keeps (p : Part) :
    (p.releaseHeldWrite).supply = p.supply ∧ (p.releaseHeldWrite).keepValid = p.keepValid ∧
    (p.releaseHeldWrite).initialising = p.initialising ∧
    (p.releaseHeldWrite).lockoutTimer = p.lockoutTimer ∧ (p.releaseHeldWrite).walk = p.walk ∧
    (p.releaseHeldWrite).vkeep = p.vkeep ∧ (p.releaseHeldWrite).crystal = p.crystal ∧
    (p.releaseHeldWrite).store = p.store ∧ (p.releaseHeldWrite).arbiter = p.arbiter ∧
    (p.releaseHeldWrite).tableLost = p.tableLost ∧ (p.releaseHeldWrite).intake = p.intake ∧
    (p.releaseHeldWrite).fileNumber = p.fileNumber ∧
    (p.releaseHeldWrite).fileNumberFault = p.fileNumberFault ∧ (p.releaseHeldWrite).setup = p.setup ∧
    (p.releaseHeldWrite).locked = p.locked ∧ (p.releaseHeldWrite).setupFault = p.setupFault ∧
    (p.releaseHeldWrite).setupIgnored = p.setupIgnored ∧ (p.releaseHeldWrite).contexts = p.contexts ∧
    (p.releaseHeldWrite).awaitOrder = p.awaitOrder ∧ (p.releaseHeldWrite).journal = p.journal ∧
    (p.releaseHeldWrite).queue = p.queue ∧ (p.releaseHeldWrite).counters = p.counters ∧
    (p.releaseHeldWrite).previousPage = p.previousPage ∧ (p.releaseHeldWrite).monitor = p.monitor ∧
    (p.releaseHeldWrite).clock = p.clock ∧ (p.releaseHeldWrite).follow = p.follow ∧
    (p.releaseHeldWrite).sweep = p.sweep ∧ (p.releaseHeldWrite).memoryEpoch = p.memoryEpoch ∧
    (p.releaseHeldWrite).draws = p.draws := by
  unfold Part.releaseHeldWrite
  split <;> simp

@[simp] theorem Part.enterOutcome_keeps (p : Part) (o : Outcome) :
    (p.enterOutcome o).supply = p.supply ∧ (p.enterOutcome o).keepValid = p.keepValid ∧
    (p.enterOutcome o).initialising = p.initialising ∧ (p.enterOutcome o).lockoutTimer = p.lockoutTimer ∧
    (p.enterOutcome o).walk = p.walk ∧ (p.enterOutcome o).vkeep = p.vkeep ∧
    (p.enterOutcome o).crystal = p.crystal ∧ (p.enterOutcome o).store = p.store ∧
    (p.enterOutcome o).arbiter = p.arbiter ∧ (p.enterOutcome o).tableLost = p.tableLost ∧
    (p.enterOutcome o).intake = p.intake ∧ (p.enterOutcome o).fileNumber = p.fileNumber ∧
    (p.enterOutcome o).fileNumberFault = p.fileNumberFault ∧ (p.enterOutcome o).setup = p.setup ∧
    (p.enterOutcome o).locked = p.locked ∧ (p.enterOutcome o).setupFault = p.setupFault ∧
    (p.enterOutcome o).setupIgnored = p.setupIgnored ∧ (p.enterOutcome o).contexts = p.contexts ∧
    (p.enterOutcome o).awaitOrder = p.awaitOrder ∧ (p.enterOutcome o).journal = p.journal ∧
    (p.enterOutcome o).counters = p.counters ∧ (p.enterOutcome o).previousPage = p.previousPage ∧
    (p.enterOutcome o).monitor = p.monitor ∧ (p.enterOutcome o).clock = p.clock ∧
    (p.enterOutcome o).follow = p.follow ∧ (p.enterOutcome o).sweep = p.sweep ∧
    (p.enterOutcome o).path = p.path ∧ (p.enterOutcome o).memory = p.memory ∧
    (p.enterOutcome o).memoryEpoch = p.memoryEpoch ∧ (p.enterOutcome o).draws = p.draws := by
  unfold Part.enterOutcome
  simp

@[simp] theorem Part.releaseOutcome_keeps (p : Part) (n : Fin 4) :
    (p.releaseOutcome n).supply = p.supply ∧ (p.releaseOutcome n).keepValid = p.keepValid ∧
    (p.releaseOutcome n).initialising = p.initialising ∧
    (p.releaseOutcome n).lockoutTimer = p.lockoutTimer ∧ (p.releaseOutcome n).walk = p.walk ∧
    (p.releaseOutcome n).vkeep = p.vkeep ∧ (p.releaseOutcome n).crystal = p.crystal ∧
    (p.releaseOutcome n).store = p.store ∧ (p.releaseOutcome n).arbiter = p.arbiter ∧
    (p.releaseOutcome n).tableLost = p.tableLost ∧ (p.releaseOutcome n).intake = p.intake ∧
    (p.releaseOutcome n).fileNumber = p.fileNumber ∧
    (p.releaseOutcome n).fileNumberFault = p.fileNumberFault ∧ (p.releaseOutcome n).setup = p.setup ∧
    (p.releaseOutcome n).locked = p.locked ∧ (p.releaseOutcome n).setupFault = p.setupFault ∧
    (p.releaseOutcome n).setupIgnored = p.setupIgnored ∧ (p.releaseOutcome n).contexts = p.contexts ∧
    (p.releaseOutcome n).awaitOrder = p.awaitOrder ∧ (p.releaseOutcome n).journal = p.journal ∧
    (p.releaseOutcome n).counters = p.counters ∧ (p.releaseOutcome n).previousPage = p.previousPage ∧
    (p.releaseOutcome n).monitor = p.monitor ∧ (p.releaseOutcome n).clock = p.clock ∧
    (p.releaseOutcome n).follow = p.follow ∧ (p.releaseOutcome n).sweep = p.sweep ∧
    (p.releaseOutcome n).path = p.path ∧ (p.releaseOutcome n).memory = p.memory ∧
    (p.releaseOutcome n).memoryEpoch = p.memoryEpoch ∧ (p.releaseOutcome n).draws = p.draws := by
  unfold Part.releaseOutcome
  simp

@[simp] theorem Part.detachOutcome_keeps (p : Part) :
    (p.detachOutcome).supply = p.supply ∧ (p.detachOutcome).keepValid = p.keepValid ∧
    (p.detachOutcome).initialising = p.initialising ∧ (p.detachOutcome).lockoutTimer = p.lockoutTimer ∧
    (p.detachOutcome).walk = p.walk ∧ (p.detachOutcome).vkeep = p.vkeep ∧
    (p.detachOutcome).crystal = p.crystal ∧ (p.detachOutcome).store = p.store ∧
    (p.detachOutcome).arbiter = p.arbiter ∧ (p.detachOutcome).tableLost = p.tableLost ∧
    (p.detachOutcome).intake = p.intake ∧ (p.detachOutcome).fileNumber = p.fileNumber ∧
    (p.detachOutcome).fileNumberFault = p.fileNumberFault ∧ (p.detachOutcome).setup = p.setup ∧
    (p.detachOutcome).locked = p.locked ∧ (p.detachOutcome).setupFault = p.setupFault ∧
    (p.detachOutcome).setupIgnored = p.setupIgnored ∧ (p.detachOutcome).contexts = p.contexts ∧
    (p.detachOutcome).awaitOrder = p.awaitOrder ∧ (p.detachOutcome).journal = p.journal ∧
    (p.detachOutcome).counters = p.counters ∧ (p.detachOutcome).previousPage = p.previousPage ∧
    (p.detachOutcome).monitor = p.monitor ∧ (p.detachOutcome).clock = p.clock ∧
    (p.detachOutcome).follow = p.follow ∧ (p.detachOutcome).sweep = p.sweep ∧
    (p.detachOutcome).path = p.path ∧ (p.detachOutcome).memory = p.memory ∧
    (p.detachOutcome).memoryEpoch = p.memoryEpoch ∧ (p.detachOutcome).draws = p.draws := by
  unfold Part.detachOutcome
  simp

@[simp] theorem Part.removeAttached_keeps (p : Part) :
    (p.removeAttached).supply = p.supply ∧ (p.removeAttached).keepValid = p.keepValid ∧
    (p.removeAttached).initialising = p.initialising ∧ (p.removeAttached).lockoutTimer = p.lockoutTimer ∧
    (p.removeAttached).walk = p.walk ∧ (p.removeAttached).vkeep = p.vkeep ∧
    (p.removeAttached).crystal = p.crystal ∧ (p.removeAttached).store = p.store ∧
    (p.removeAttached).arbiter = p.arbiter ∧ (p.removeAttached).tableLost = p.tableLost ∧
    (p.removeAttached).intake = p.intake ∧ (p.removeAttached).fileNumber = p.fileNumber ∧
    (p.removeAttached).fileNumberFault = p.fileNumberFault ∧ (p.removeAttached).setup = p.setup ∧
    (p.removeAttached).locked = p.locked ∧ (p.removeAttached).setupFault = p.setupFault ∧
    (p.removeAttached).setupIgnored = p.setupIgnored ∧ (p.removeAttached).contexts = p.contexts ∧
    (p.removeAttached).awaitOrder = p.awaitOrder ∧ (p.removeAttached).journal = p.journal ∧
    (p.removeAttached).counters = p.counters ∧ (p.removeAttached).previousPage = p.previousPage ∧
    (p.removeAttached).monitor = p.monitor ∧ (p.removeAttached).clock = p.clock ∧
    (p.removeAttached).follow = p.follow ∧ (p.removeAttached).sweep = p.sweep ∧
    (p.removeAttached).path = p.path ∧ (p.removeAttached).memory = p.memory ∧
    (p.removeAttached).memoryEpoch = p.memoryEpoch ∧ (p.removeAttached).draws = p.draws := by
  unfold Part.removeAttached
  simp

@[simp] theorem Part.grantNext_keeps (p : Part) :
    (p.grantNext).supply = p.supply ∧ (p.grantNext).keepValid = p.keepValid ∧
    (p.grantNext).initialising = p.initialising ∧ (p.grantNext).lockoutTimer = p.lockoutTimer ∧
    (p.grantNext).walk = p.walk ∧ (p.grantNext).vkeep = p.vkeep ∧ (p.grantNext).crystal = p.crystal ∧
    (p.grantNext).store = p.store ∧ (p.grantNext).tableLost = p.tableLost ∧
    (p.grantNext).intake = p.intake ∧ (p.grantNext).fileNumber = p.fileNumber ∧
    (p.grantNext).fileNumberFault = p.fileNumberFault ∧ (p.grantNext).setup = p.setup ∧
    (p.grantNext).locked = p.locked ∧ (p.grantNext).setupFault = p.setupFault ∧
    (p.grantNext).setupIgnored = p.setupIgnored ∧ (p.grantNext).contexts = p.contexts ∧
    (p.grantNext).awaitOrder = p.awaitOrder ∧ (p.grantNext).journal = p.journal ∧
    (p.grantNext).queue = p.queue ∧ (p.grantNext).counters = p.counters ∧
    (p.grantNext).previousPage = p.previousPage ∧ (p.grantNext).monitor = p.monitor ∧
    (p.grantNext).clock = p.clock ∧ (p.grantNext).follow = p.follow ∧ (p.grantNext).sweep = p.sweep ∧
    (p.grantNext).path = p.path ∧ (p.grantNext).memory = p.memory ∧
    (p.grantNext).memoryEpoch = p.memoryEpoch ∧ (p.grantNext).draws = p.draws := by
  unfold Part.grantNext
  dsimp only
  repeat' split
  all_goals simp

@[simp] theorem Part.grant_keeps (p : Part) :
    (p.grant).supply = p.supply ∧ (p.grant).keepValid = p.keepValid ∧
    (p.grant).initialising = p.initialising ∧ (p.grant).lockoutTimer = p.lockoutTimer ∧
    (p.grant).walk = p.walk ∧ (p.grant).vkeep = p.vkeep ∧ (p.grant).crystal = p.crystal ∧
    (p.grant).store = p.store ∧ (p.grant).tableLost = p.tableLost ∧ (p.grant).intake = p.intake ∧
    (p.grant).fileNumber = p.fileNumber ∧ (p.grant).fileNumberFault = p.fileNumberFault ∧
    (p.grant).setup = p.setup ∧ (p.grant).locked = p.locked ∧ (p.grant).setupFault = p.setupFault ∧
    (p.grant).setupIgnored = p.setupIgnored ∧ (p.grant).contexts = p.contexts ∧
    (p.grant).awaitOrder = p.awaitOrder ∧ (p.grant).journal = p.journal ∧ (p.grant).queue = p.queue ∧
    (p.grant).counters = p.counters ∧ (p.grant).previousPage = p.previousPage ∧
    (p.grant).monitor = p.monitor ∧ (p.grant).clock = p.clock ∧ (p.grant).follow = p.follow ∧
    (p.grant).sweep = p.sweep ∧ (p.grant).path = p.path ∧ (p.grant).memory = p.memory ∧
    (p.grant).memoryEpoch = p.memoryEpoch ∧ (p.grant).draws = p.draws := by
  unfold Part.grant
  split <;> simp

@[simp] theorem Part.releasePin_keeps (p : Part) (n : Nat) :
    (p.releasePin n).supply = p.supply ∧ (p.releasePin n).keepValid = p.keepValid ∧
    (p.releasePin n).initialising = p.initialising ∧ (p.releasePin n).lockoutTimer = p.lockoutTimer ∧
    (p.releasePin n).walk = p.walk ∧ (p.releasePin n).vkeep = p.vkeep ∧
    (p.releasePin n).crystal = p.crystal ∧ (p.releasePin n).tableLost = p.tableLost ∧
    (p.releasePin n).intake = p.intake ∧ (p.releasePin n).fileNumber = p.fileNumber ∧
    (p.releasePin n).fileNumberFault = p.fileNumberFault ∧ (p.releasePin n).setup = p.setup ∧
    (p.releasePin n).locked = p.locked ∧ (p.releasePin n).setupFault = p.setupFault ∧
    (p.releasePin n).setupIgnored = p.setupIgnored ∧ (p.releasePin n).contexts = p.contexts ∧
    (p.releasePin n).awaitOrder = p.awaitOrder ∧ (p.releasePin n).journal = p.journal ∧
    (p.releasePin n).queue = p.queue ∧ (p.releasePin n).counters = p.counters ∧
    (p.releasePin n).previousPage = p.previousPage ∧ (p.releasePin n).monitor = p.monitor ∧
    (p.releasePin n).clock = p.clock ∧ (p.releasePin n).follow = p.follow ∧
    (p.releasePin n).sweep = p.sweep ∧ (p.releasePin n).path = p.path ∧
    (p.releasePin n).memory = p.memory ∧ (p.releasePin n).memoryEpoch = p.memoryEpoch ∧
    (p.releasePin n).draws = p.draws := by
  unfold Part.releasePin
  split <;> simp

@[simp] theorem Part.triggerSweep_keeps (p : Part) :
    (p.triggerSweep).supply = p.supply ∧ (p.triggerSweep).keepValid = p.keepValid ∧
    (p.triggerSweep).initialising = p.initialising ∧ (p.triggerSweep).lockoutTimer = p.lockoutTimer ∧
    (p.triggerSweep).walk = p.walk ∧ (p.triggerSweep).vkeep = p.vkeep ∧
    (p.triggerSweep).crystal = p.crystal ∧ (p.triggerSweep).store = p.store ∧
    (p.triggerSweep).tableLost = p.tableLost ∧ (p.triggerSweep).intake = p.intake ∧
    (p.triggerSweep).fileNumber = p.fileNumber ∧ (p.triggerSweep).fileNumberFault = p.fileNumberFault ∧
    (p.triggerSweep).setup = p.setup ∧ (p.triggerSweep).locked = p.locked ∧
    (p.triggerSweep).setupFault = p.setupFault ∧ (p.triggerSweep).setupIgnored = p.setupIgnored ∧
    (p.triggerSweep).contexts = p.contexts ∧ (p.triggerSweep).awaitOrder = p.awaitOrder ∧
    (p.triggerSweep).journal = p.journal ∧ (p.triggerSweep).queue = p.queue ∧
    (p.triggerSweep).counters = p.counters ∧ (p.triggerSweep).previousPage = p.previousPage ∧
    (p.triggerSweep).monitor = p.monitor ∧ (p.triggerSweep).clock = p.clock ∧
    (p.triggerSweep).follow = p.follow ∧ (p.triggerSweep).path = p.path ∧
    (p.triggerSweep).memory = p.memory ∧ (p.triggerSweep).memoryEpoch = p.memoryEpoch ∧
    (p.triggerSweep).draws = p.draws := by
  unfold Part.triggerSweep
  split <;> simp

@[simp] theorem Part.attentionEvent_keeps (p : Part) :
    (p.attentionEvent).supply = p.supply ∧ (p.attentionEvent).keepValid = p.keepValid ∧
    (p.attentionEvent).initialising = p.initialising ∧ (p.attentionEvent).lockoutTimer = p.lockoutTimer ∧
    (p.attentionEvent).walk = p.walk ∧ (p.attentionEvent).vkeep = p.vkeep ∧
    (p.attentionEvent).crystal = p.crystal ∧ (p.attentionEvent).store = p.store ∧
    (p.attentionEvent).arbiter = p.arbiter ∧ (p.attentionEvent).tableLost = p.tableLost ∧
    (p.attentionEvent).intake = p.intake ∧ (p.attentionEvent).fileNumber = p.fileNumber ∧
    (p.attentionEvent).fileNumberFault = p.fileNumberFault ∧ (p.attentionEvent).setup = p.setup ∧
    (p.attentionEvent).locked = p.locked ∧ (p.attentionEvent).setupFault = p.setupFault ∧
    (p.attentionEvent).setupIgnored = p.setupIgnored ∧ (p.attentionEvent).contexts = p.contexts ∧
    (p.attentionEvent).awaitOrder = p.awaitOrder ∧ (p.attentionEvent).journal = p.journal ∧
    (p.attentionEvent).queue = p.queue ∧ (p.attentionEvent).counters = p.counters ∧
    (p.attentionEvent).previousPage = p.previousPage ∧ (p.attentionEvent).clock = p.clock ∧
    (p.attentionEvent).follow = p.follow ∧ (p.attentionEvent).sweep = p.sweep ∧
    (p.attentionEvent).path = p.path ∧ (p.attentionEvent).memory = p.memory ∧
    (p.attentionEvent).memoryEpoch = p.memoryEpoch ∧ (p.attentionEvent).draws = p.draws := by
  unfold Part.attentionEvent
  split <;> simp

end Sys2Proof.Machine
end

