-- ==== Sys2Proof/Laws/Clock.lean ====
section
/-! SUPPORT. The operations of the day clock: what each leaves as it was. -/

namespace Sys2Proof.Machine

@[simp] theorem Part.clockValue_keeps (p : Part) (v : BitVec 32) :
    (p.clockValue v).supply = p.supply ∧ (p.clockValue v).keepValid = p.keepValid ∧
    (p.clockValue v).initialising = p.initialising ∧ (p.clockValue v).lockoutTimer = p.lockoutTimer ∧
    (p.clockValue v).walk = p.walk ∧ (p.clockValue v).vkeep = p.vkeep ∧
    (p.clockValue v).crystal = p.crystal ∧ (p.clockValue v).store = p.store ∧
    (p.clockValue v).arbiter = p.arbiter ∧ (p.clockValue v).tableLost = p.tableLost ∧
    (p.clockValue v).intake = p.intake ∧ (p.clockValue v).fileNumber = p.fileNumber ∧
    (p.clockValue v).fileNumberFault = p.fileNumberFault ∧ (p.clockValue v).setup = p.setup ∧
    (p.clockValue v).locked = p.locked ∧ (p.clockValue v).setupFault = p.setupFault ∧
    (p.clockValue v).setupIgnored = p.setupIgnored ∧ (p.clockValue v).contexts = p.contexts ∧
    (p.clockValue v).awaitOrder = p.awaitOrder ∧ (p.clockValue v).journal = p.journal ∧
    (p.clockValue v).queue = p.queue ∧ (p.clockValue v).counters = p.counters ∧
    (p.clockValue v).previousPage = p.previousPage ∧ (p.clockValue v).monitor = p.monitor ∧
    (p.clockValue v).sweep = p.sweep ∧ (p.clockValue v).path = p.path ∧
    (p.clockValue v).memory = p.memory ∧ (p.clockValue v).memoryEpoch = p.memoryEpoch ∧
    (p.clockValue v).draws = p.draws := by
  unfold Part.clockValue
  simp

@[simp] theorem Part.clockWrite_keeps (p : Part) (h : Bool) (b : LaneBytes) :
    (p.clockWrite h b).supply = p.supply ∧ (p.clockWrite h b).keepValid = p.keepValid ∧
    (p.clockWrite h b).initialising = p.initialising ∧ (p.clockWrite h b).lockoutTimer = p.lockoutTimer ∧
    (p.clockWrite h b).walk = p.walk ∧ (p.clockWrite h b).vkeep = p.vkeep ∧
    (p.clockWrite h b).crystal = p.crystal ∧ (p.clockWrite h b).store = p.store ∧
    (p.clockWrite h b).arbiter = p.arbiter ∧ (p.clockWrite h b).tableLost = p.tableLost ∧
    (p.clockWrite h b).intake = p.intake ∧ (p.clockWrite h b).fileNumber = p.fileNumber ∧
    (p.clockWrite h b).fileNumberFault = p.fileNumberFault ∧ (p.clockWrite h b).setup = p.setup ∧
    (p.clockWrite h b).locked = p.locked ∧ (p.clockWrite h b).setupFault = p.setupFault ∧
    (p.clockWrite h b).setupIgnored = p.setupIgnored ∧ (p.clockWrite h b).contexts = p.contexts ∧
    (p.clockWrite h b).awaitOrder = p.awaitOrder ∧ (p.clockWrite h b).journal = p.journal ∧
    (p.clockWrite h b).queue = p.queue ∧ (p.clockWrite h b).counters = p.counters ∧
    (p.clockWrite h b).previousPage = p.previousPage ∧ (p.clockWrite h b).monitor = p.monitor ∧
    (p.clockWrite h b).sweep = p.sweep ∧ (p.clockWrite h b).path = p.path ∧
    (p.clockWrite h b).memory = p.memory ∧ (p.clockWrite h b).memoryEpoch = p.memoryEpoch ∧
    (p.clockWrite h b).draws = p.draws := by
  unfold Part.clockWrite
  dsimp only
  repeat' split
  all_goals simp

@[simp] theorem Part.offerClock_keeps (p : Part) (t : BitVec 32) :
    (p.offerClock t).supply = p.supply ∧ (p.offerClock t).keepValid = p.keepValid ∧
    (p.offerClock t).initialising = p.initialising ∧ (p.offerClock t).lockoutTimer = p.lockoutTimer ∧
    (p.offerClock t).walk = p.walk ∧ (p.offerClock t).vkeep = p.vkeep ∧
    (p.offerClock t).crystal = p.crystal ∧ (p.offerClock t).store = p.store ∧
    (p.offerClock t).arbiter = p.arbiter ∧ (p.offerClock t).tableLost = p.tableLost ∧
    (p.offerClock t).intake = p.intake ∧ (p.offerClock t).fileNumber = p.fileNumber ∧
    (p.offerClock t).fileNumberFault = p.fileNumberFault ∧ (p.offerClock t).setup = p.setup ∧
    (p.offerClock t).locked = p.locked ∧ (p.offerClock t).setupFault = p.setupFault ∧
    (p.offerClock t).setupIgnored = p.setupIgnored ∧ (p.offerClock t).contexts = p.contexts ∧
    (p.offerClock t).awaitOrder = p.awaitOrder ∧ (p.offerClock t).journal = p.journal ∧
    (p.offerClock t).queue = p.queue ∧ (p.offerClock t).counters = p.counters ∧
    (p.offerClock t).previousPage = p.previousPage ∧ (p.offerClock t).monitor = p.monitor ∧
    (p.offerClock t).follow = p.follow ∧ (p.offerClock t).sweep = p.sweep ∧
    (p.offerClock t).path = p.path ∧ (p.offerClock t).memory = p.memory ∧
    (p.offerClock t).memoryEpoch = p.memoryEpoch ∧ (p.offerClock t).draws = p.draws := by
  unfold Part.offerClock
  split <;> simp

@[simp] theorem Part.scheduledTrigger_keeps (p : Part) :
    (p.scheduledTrigger).supply = p.supply ∧ (p.scheduledTrigger).keepValid = p.keepValid ∧
    (p.scheduledTrigger).initialising = p.initialising ∧
    (p.scheduledTrigger).lockoutTimer = p.lockoutTimer ∧ (p.scheduledTrigger).walk = p.walk ∧
    (p.scheduledTrigger).vkeep = p.vkeep ∧ (p.scheduledTrigger).crystal = p.crystal ∧
    (p.scheduledTrigger).store = p.store ∧ (p.scheduledTrigger).tableLost = p.tableLost ∧
    (p.scheduledTrigger).intake = p.intake ∧ (p.scheduledTrigger).fileNumber = p.fileNumber ∧
    (p.scheduledTrigger).fileNumberFault = p.fileNumberFault ∧ (p.scheduledTrigger).setup = p.setup ∧
    (p.scheduledTrigger).locked = p.locked ∧ (p.scheduledTrigger).setupFault = p.setupFault ∧
    (p.scheduledTrigger).setupIgnored = p.setupIgnored ∧ (p.scheduledTrigger).contexts = p.contexts ∧
    (p.scheduledTrigger).awaitOrder = p.awaitOrder ∧ (p.scheduledTrigger).journal = p.journal ∧
    (p.scheduledTrigger).queue = p.queue ∧ (p.scheduledTrigger).counters = p.counters ∧
    (p.scheduledTrigger).previousPage = p.previousPage ∧ (p.scheduledTrigger).monitor = p.monitor ∧
    (p.scheduledTrigger).follow = p.follow ∧ (p.scheduledTrigger).path = p.path ∧
    (p.scheduledTrigger).memory = p.memory ∧ (p.scheduledTrigger).memoryEpoch = p.memoryEpoch ∧
    (p.scheduledTrigger).draws = p.draws := by
  unfold Part.scheduledTrigger
  split <;> simp

@[simp] theorem Part.evaluateSchedule_keeps (p : Part) :
    (p.evaluateSchedule).supply = p.supply ∧ (p.evaluateSchedule).keepValid = p.keepValid ∧
    (p.evaluateSchedule).initialising = p.initialising ∧
    (p.evaluateSchedule).lockoutTimer = p.lockoutTimer ∧ (p.evaluateSchedule).walk = p.walk ∧
    (p.evaluateSchedule).vkeep = p.vkeep ∧ (p.evaluateSchedule).crystal = p.crystal ∧
    (p.evaluateSchedule).store = p.store ∧ (p.evaluateSchedule).tableLost = p.tableLost ∧
    (p.evaluateSchedule).intake = p.intake ∧ (p.evaluateSchedule).fileNumber = p.fileNumber ∧
    (p.evaluateSchedule).fileNumberFault = p.fileNumberFault ∧ (p.evaluateSchedule).setup = p.setup ∧
    (p.evaluateSchedule).locked = p.locked ∧ (p.evaluateSchedule).setupFault = p.setupFault ∧
    (p.evaluateSchedule).setupIgnored = p.setupIgnored ∧ (p.evaluateSchedule).contexts = p.contexts ∧
    (p.evaluateSchedule).awaitOrder = p.awaitOrder ∧ (p.evaluateSchedule).journal = p.journal ∧
    (p.evaluateSchedule).queue = p.queue ∧ (p.evaluateSchedule).counters = p.counters ∧
    (p.evaluateSchedule).previousPage = p.previousPage ∧ (p.evaluateSchedule).monitor = p.monitor ∧
    (p.evaluateSchedule).follow = p.follow ∧ (p.evaluateSchedule).path = p.path ∧
    (p.evaluateSchedule).memory = p.memory ∧ (p.evaluateSchedule).memoryEpoch = p.memoryEpoch ∧
    (p.evaluateSchedule).draws = p.draws := by
  unfold Part.evaluateSchedule
  split <;> simp

@[simp] theorem Part.advanceClock_keeps (p : Part) :
    (p.advanceClock).supply = p.supply ∧ (p.advanceClock).keepValid = p.keepValid ∧
    (p.advanceClock).initialising = p.initialising ∧ (p.advanceClock).lockoutTimer = p.lockoutTimer ∧
    (p.advanceClock).walk = p.walk ∧ (p.advanceClock).vkeep = p.vkeep ∧
    (p.advanceClock).crystal = p.crystal ∧ (p.advanceClock).store = p.store ∧
    (p.advanceClock).tableLost = p.tableLost ∧ (p.advanceClock).intake = p.intake ∧
    (p.advanceClock).fileNumber = p.fileNumber ∧ (p.advanceClock).fileNumberFault = p.fileNumberFault ∧
    (p.advanceClock).setup = p.setup ∧ (p.advanceClock).locked = p.locked ∧
    (p.advanceClock).setupFault = p.setupFault ∧ (p.advanceClock).setupIgnored = p.setupIgnored ∧
    (p.advanceClock).contexts = p.contexts ∧ (p.advanceClock).awaitOrder = p.awaitOrder ∧
    (p.advanceClock).journal = p.journal ∧ (p.advanceClock).queue = p.queue ∧
    (p.advanceClock).counters = p.counters ∧ (p.advanceClock).previousPage = p.previousPage ∧
    (p.advanceClock).monitor = p.monitor ∧ (p.advanceClock).follow = p.follow ∧
    (p.advanceClock).path = p.path ∧ (p.advanceClock).memory = p.memory ∧
    (p.advanceClock).memoryEpoch = p.memoryEpoch ∧ (p.advanceClock).draws = p.draws := by
  unfold Part.advanceClock
  split <;> simp

@[simp] theorem Part.crystalSecond_keeps (p : Part) :
    (p.crystalSecond).supply = p.supply ∧ (p.crystalSecond).keepValid = p.keepValid ∧
    (p.crystalSecond).initialising = p.initialising ∧ (p.crystalSecond).lockoutTimer = p.lockoutTimer ∧
    (p.crystalSecond).walk = p.walk ∧ (p.crystalSecond).vkeep = p.vkeep ∧
    (p.crystalSecond).store = p.store ∧ (p.crystalSecond).tableLost = p.tableLost ∧
    (p.crystalSecond).intake = p.intake ∧ (p.crystalSecond).fileNumber = p.fileNumber ∧
    (p.crystalSecond).fileNumberFault = p.fileNumberFault ∧ (p.crystalSecond).setup = p.setup ∧
    (p.crystalSecond).locked = p.locked ∧ (p.crystalSecond).setupFault = p.setupFault ∧
    (p.crystalSecond).setupIgnored = p.setupIgnored ∧ (p.crystalSecond).contexts = p.contexts ∧
    (p.crystalSecond).awaitOrder = p.awaitOrder ∧ (p.crystalSecond).journal = p.journal ∧
    (p.crystalSecond).queue = p.queue ∧ (p.crystalSecond).counters = p.counters ∧
    (p.crystalSecond).previousPage = p.previousPage ∧ (p.crystalSecond).monitor = p.monitor ∧
    (p.crystalSecond).follow = p.follow ∧ (p.crystalSecond).path = p.path ∧
    (p.crystalSecond).memory = p.memory ∧ (p.crystalSecond).memoryEpoch = p.memoryEpoch ∧
    (p.crystalSecond).draws = p.draws := by
  unfold Part.crystalSecond
  split <;> simp

@[simp] theorem Part.sweepEntry_keeps (p : Part) :
    (p.sweepEntry).supply = p.supply ∧ (p.sweepEntry).keepValid = p.keepValid ∧
    (p.sweepEntry).initialising = p.initialising ∧ (p.sweepEntry).lockoutTimer = p.lockoutTimer ∧
    (p.sweepEntry).walk = p.walk ∧ (p.sweepEntry).vkeep = p.vkeep ∧ (p.sweepEntry).crystal = p.crystal ∧
    (p.sweepEntry).tableLost = p.tableLost ∧ (p.sweepEntry).intake = p.intake ∧
    (p.sweepEntry).fileNumber = p.fileNumber ∧ (p.sweepEntry).fileNumberFault = p.fileNumberFault ∧
    (p.sweepEntry).setup = p.setup ∧ (p.sweepEntry).locked = p.locked ∧
    (p.sweepEntry).setupFault = p.setupFault ∧ (p.sweepEntry).setupIgnored = p.setupIgnored ∧
    (p.sweepEntry).contexts = p.contexts ∧ (p.sweepEntry).awaitOrder = p.awaitOrder ∧
    (p.sweepEntry).journal = p.journal ∧ (p.sweepEntry).queue = p.queue ∧
    (p.sweepEntry).counters = p.counters ∧ (p.sweepEntry).previousPage = p.previousPage ∧
    (p.sweepEntry).monitor = p.monitor ∧ (p.sweepEntry).clock = p.clock ∧
    (p.sweepEntry).follow = p.follow ∧ (p.sweepEntry).path = p.path ∧ (p.sweepEntry).memory = p.memory ∧
    (p.sweepEntry).memoryEpoch = p.memoryEpoch ∧ (p.sweepEntry).draws = p.draws := by
  unfold Part.sweepEntry
  repeat' split
  all_goals simp

@[simp] theorem Part.owedTrigger_keeps (p : Part) :
    (p.owedTrigger).supply = p.supply ∧ (p.owedTrigger).keepValid = p.keepValid ∧
    (p.owedTrigger).initialising = p.initialising ∧ (p.owedTrigger).lockoutTimer = p.lockoutTimer ∧
    (p.owedTrigger).walk = p.walk ∧ (p.owedTrigger).vkeep = p.vkeep ∧ (p.owedTrigger).crystal = p.crystal ∧
    (p.owedTrigger).store = p.store ∧ (p.owedTrigger).tableLost = p.tableLost ∧
    (p.owedTrigger).intake = p.intake ∧ (p.owedTrigger).fileNumber = p.fileNumber ∧
    (p.owedTrigger).fileNumberFault = p.fileNumberFault ∧ (p.owedTrigger).setup = p.setup ∧
    (p.owedTrigger).locked = p.locked ∧ (p.owedTrigger).setupFault = p.setupFault ∧
    (p.owedTrigger).setupIgnored = p.setupIgnored ∧ (p.owedTrigger).contexts = p.contexts ∧
    (p.owedTrigger).awaitOrder = p.awaitOrder ∧ (p.owedTrigger).journal = p.journal ∧
    (p.owedTrigger).queue = p.queue ∧ (p.owedTrigger).counters = p.counters ∧
    (p.owedTrigger).previousPage = p.previousPage ∧ (p.owedTrigger).monitor = p.monitor ∧
    (p.owedTrigger).follow = p.follow ∧ (p.owedTrigger).path = p.path ∧ (p.owedTrigger).memory = p.memory ∧
    (p.owedTrigger).memoryEpoch = p.memoryEpoch ∧ (p.owedTrigger).draws = p.draws := by
  unfold Part.owedTrigger
  split <;> simp

end Sys2Proof.Machine
end

