-- ==== Sys2Proof/Laws/Intake.lean ====
section
/-! SUPPORT. The operations of file intake: what each leaves as it was, and what an answer
comes to. -/

namespace Sys2Proof.Machine

@[simp] theorem Part.orderDiscard_keeps (p : Part) :
    (p.orderDiscard).supply = p.supply ∧ (p.orderDiscard).keepValid = p.keepValid ∧
    (p.orderDiscard).initialising = p.initialising ∧ (p.orderDiscard).lockoutTimer = p.lockoutTimer ∧
    (p.orderDiscard).walk = p.walk ∧ (p.orderDiscard).vkeep = p.vkeep ∧
    (p.orderDiscard).crystal = p.crystal ∧ (p.orderDiscard).store = p.store ∧
    (p.orderDiscard).tableLost = p.tableLost ∧ (p.orderDiscard).fileNumber = p.fileNumber ∧
    (p.orderDiscard).fileNumberFault = p.fileNumberFault ∧ (p.orderDiscard).setup = p.setup ∧
    (p.orderDiscard).locked = p.locked ∧ (p.orderDiscard).setupFault = p.setupFault ∧
    (p.orderDiscard).setupIgnored = p.setupIgnored ∧ (p.orderDiscard).contexts = p.contexts ∧
    (p.orderDiscard).awaitOrder = p.awaitOrder ∧ (p.orderDiscard).journal = p.journal ∧
    (p.orderDiscard).queue = p.queue ∧ (p.orderDiscard).counters = p.counters ∧
    (p.orderDiscard).previousPage = p.previousPage ∧ (p.orderDiscard).monitor = p.monitor ∧
    (p.orderDiscard).clock = p.clock ∧ (p.orderDiscard).follow = p.follow ∧
    (p.orderDiscard).sweep = p.sweep ∧ (p.orderDiscard).path = p.path ∧
    (p.orderDiscard).memory = p.memory ∧ (p.orderDiscard).memoryEpoch = p.memoryEpoch ∧
    (p.orderDiscard).draws = p.draws := by
  unfold Part.orderDiscard
  split <;> simp

@[simp] theorem Part.endFile_keeps (p : Part) (t : IntakeState) :
    (p.endFile t).supply = p.supply ∧ (p.endFile t).keepValid = p.keepValid ∧
    (p.endFile t).initialising = p.initialising ∧ (p.endFile t).lockoutTimer = p.lockoutTimer ∧
    (p.endFile t).walk = p.walk ∧ (p.endFile t).vkeep = p.vkeep ∧ (p.endFile t).crystal = p.crystal ∧
    (p.endFile t).store = p.store ∧ (p.endFile t).arbiter = p.arbiter ∧
    (p.endFile t).tableLost = p.tableLost ∧ (p.endFile t).fileNumber = p.fileNumber ∧
    (p.endFile t).fileNumberFault = p.fileNumberFault ∧ (p.endFile t).setup = p.setup ∧
    (p.endFile t).locked = p.locked ∧ (p.endFile t).setupFault = p.setupFault ∧
    (p.endFile t).setupIgnored = p.setupIgnored ∧ (p.endFile t).contexts = p.contexts ∧
    (p.endFile t).awaitOrder = p.awaitOrder ∧ (p.endFile t).journal = p.journal ∧
    (p.endFile t).queue = p.queue ∧ (p.endFile t).counters = p.counters ∧
    (p.endFile t).previousPage = p.previousPage ∧ (p.endFile t).monitor = p.monitor ∧
    (p.endFile t).clock = p.clock ∧ (p.endFile t).follow = p.follow ∧ (p.endFile t).sweep = p.sweep ∧
    (p.endFile t).memoryEpoch = p.memoryEpoch ∧ (p.endFile t).draws = p.draws := by
  unfold Part.endFile
  simp

@[simp] theorem Part.refuse_keeps (p : Part) (r : FileRefusal) :
    (p.refuse r).supply = p.supply ∧ (p.refuse r).keepValid = p.keepValid ∧
    (p.refuse r).initialising = p.initialising ∧ (p.refuse r).lockoutTimer = p.lockoutTimer ∧
    (p.refuse r).walk = p.walk ∧ (p.refuse r).vkeep = p.vkeep ∧ (p.refuse r).crystal = p.crystal ∧
    (p.refuse r).store = p.store ∧ (p.refuse r).tableLost = p.tableLost ∧
    (p.refuse r).fileNumber = p.fileNumber ∧ (p.refuse r).fileNumberFault = p.fileNumberFault ∧
    (p.refuse r).setup = p.setup ∧ (p.refuse r).locked = p.locked ∧
    (p.refuse r).setupFault = p.setupFault ∧ (p.refuse r).setupIgnored = p.setupIgnored ∧
    (p.refuse r).contexts = p.contexts ∧ (p.refuse r).awaitOrder = p.awaitOrder ∧
    (p.refuse r).journal = p.journal ∧ (p.refuse r).queue = p.queue ∧
    (p.refuse r).previousPage = p.previousPage ∧ (p.refuse r).monitor = p.monitor ∧
    (p.refuse r).clock = p.clock ∧ (p.refuse r).follow = p.follow ∧ (p.refuse r).sweep = p.sweep ∧
    (p.refuse r).memoryEpoch = p.memoryEpoch ∧ (p.refuse r).draws = p.draws := by
  unfold Part.refuse
  simp

@[simp] theorem Part.dealWith_keeps (p : Part) (r : FileRecord) (c : Checked) :
    (p.dealWith r c).supply = p.supply ∧ (p.dealWith r c).keepValid = p.keepValid ∧
    (p.dealWith r c).initialising = p.initialising ∧ (p.dealWith r c).lockoutTimer = p.lockoutTimer ∧
    (p.dealWith r c).walk = p.walk ∧ (p.dealWith r c).vkeep = p.vkeep ∧
    (p.dealWith r c).crystal = p.crystal ∧ (p.dealWith r c).store = p.store ∧
    (p.dealWith r c).tableLost = p.tableLost ∧ (p.dealWith r c).fileNumber = p.fileNumber ∧
    (p.dealWith r c).fileNumberFault = p.fileNumberFault ∧ (p.dealWith r c).setup = p.setup ∧
    (p.dealWith r c).locked = p.locked ∧ (p.dealWith r c).setupFault = p.setupFault ∧
    (p.dealWith r c).setupIgnored = p.setupIgnored ∧ (p.dealWith r c).contexts = p.contexts ∧
    (p.dealWith r c).awaitOrder = p.awaitOrder ∧ (p.dealWith r c).journal = p.journal ∧
    (p.dealWith r c).queue = p.queue ∧ (p.dealWith r c).counters = p.counters ∧
    (p.dealWith r c).previousPage = p.previousPage ∧ (p.dealWith r c).monitor = p.monitor ∧
    (p.dealWith r c).clock = p.clock ∧ (p.dealWith r c).follow = p.follow ∧
    (p.dealWith r c).sweep = p.sweep ∧ (p.dealWith r c).path = p.path ∧
    (p.dealWith r c).memory = p.memory ∧ (p.dealWith r c).memoryEpoch = p.memoryEpoch ∧
    (p.dealWith r c).draws = p.draws := by
  unfold Part.dealWith
  split <;> simp

@[simp] theorem Part.takeRecord_keeps (p : Part) (r : FileRecord) :
    (p.takeRecord r).supply = p.supply ∧ (p.takeRecord r).keepValid = p.keepValid ∧
    (p.takeRecord r).initialising = p.initialising ∧ (p.takeRecord r).lockoutTimer = p.lockoutTimer ∧
    (p.takeRecord r).walk = p.walk ∧ (p.takeRecord r).vkeep = p.vkeep ∧
    (p.takeRecord r).crystal = p.crystal ∧ (p.takeRecord r).store = p.store ∧
    (p.takeRecord r).tableLost = p.tableLost ∧ (p.takeRecord r).fileNumber = p.fileNumber ∧
    (p.takeRecord r).fileNumberFault = p.fileNumberFault ∧ (p.takeRecord r).setup = p.setup ∧
    (p.takeRecord r).locked = p.locked ∧ (p.takeRecord r).setupFault = p.setupFault ∧
    (p.takeRecord r).setupIgnored = p.setupIgnored ∧ (p.takeRecord r).contexts = p.contexts ∧
    (p.takeRecord r).awaitOrder = p.awaitOrder ∧ (p.takeRecord r).journal = p.journal ∧
    (p.takeRecord r).queue = p.queue ∧ (p.takeRecord r).previousPage = p.previousPage ∧
    (p.takeRecord r).monitor = p.monitor ∧ (p.takeRecord r).clock = p.clock ∧
    (p.takeRecord r).follow = p.follow ∧ (p.takeRecord r).sweep = p.sweep ∧
    (p.takeRecord r).memoryEpoch = p.memoryEpoch ∧ (p.takeRecord r).draws = p.draws := by
  unfold Part.takeRecord
  split <;> simp

@[simp] theorem Part.takeHead_keeps (p : Part) :
    (p.takeHead).supply = p.supply ∧ (p.takeHead).keepValid = p.keepValid ∧
    (p.takeHead).initialising = p.initialising ∧ (p.takeHead).lockoutTimer = p.lockoutTimer ∧
    (p.takeHead).walk = p.walk ∧ (p.takeHead).vkeep = p.vkeep ∧ (p.takeHead).crystal = p.crystal ∧
    (p.takeHead).store = p.store ∧ (p.takeHead).tableLost = p.tableLost ∧
    (p.takeHead).fileNumber = p.fileNumber ∧ (p.takeHead).fileNumberFault = p.fileNumberFault ∧
    (p.takeHead).setup = p.setup ∧ (p.takeHead).locked = p.locked ∧
    (p.takeHead).setupFault = p.setupFault ∧ (p.takeHead).setupIgnored = p.setupIgnored ∧
    (p.takeHead).contexts = p.contexts ∧ (p.takeHead).awaitOrder = p.awaitOrder ∧
    (p.takeHead).journal = p.journal ∧ (p.takeHead).queue = p.queue ∧
    (p.takeHead).previousPage = p.previousPage ∧ (p.takeHead).monitor = p.monitor ∧
    (p.takeHead).clock = p.clock ∧ (p.takeHead).follow = p.follow ∧ (p.takeHead).sweep = p.sweep ∧
    (p.takeHead).memoryEpoch = p.memoryEpoch ∧ (p.takeHead).draws = p.draws := by
  unfold Part.takeHead
  repeat' split
  all_goals simp

@[simp] theorem Part.admitHeld_keeps (p : Part) :
    (p.admitHeld).supply = p.supply ∧ (p.admitHeld).keepValid = p.keepValid ∧
    (p.admitHeld).initialising = p.initialising ∧ (p.admitHeld).lockoutTimer = p.lockoutTimer ∧
    (p.admitHeld).walk = p.walk ∧ (p.admitHeld).vkeep = p.vkeep ∧ (p.admitHeld).crystal = p.crystal ∧
    (p.admitHeld).store = p.store ∧ (p.admitHeld).arbiter = p.arbiter ∧
    (p.admitHeld).tableLost = p.tableLost ∧ (p.admitHeld).fileNumber = p.fileNumber ∧
    (p.admitHeld).fileNumberFault = p.fileNumberFault ∧ (p.admitHeld).setup = p.setup ∧
    (p.admitHeld).locked = p.locked ∧ (p.admitHeld).setupFault = p.setupFault ∧
    (p.admitHeld).setupIgnored = p.setupIgnored ∧ (p.admitHeld).contexts = p.contexts ∧
    (p.admitHeld).awaitOrder = p.awaitOrder ∧ (p.admitHeld).journal = p.journal ∧
    (p.admitHeld).queue = p.queue ∧ (p.admitHeld).counters = p.counters ∧
    (p.admitHeld).previousPage = p.previousPage ∧ (p.admitHeld).monitor = p.monitor ∧
    (p.admitHeld).clock = p.clock ∧ (p.admitHeld).follow = p.follow ∧ (p.admitHeld).sweep = p.sweep ∧
    (p.admitHeld).memoryEpoch = p.memoryEpoch ∧ (p.admitHeld).draws = p.draws := by
  unfold Part.admitHeld
  repeat' split
  all_goals simp

@[simp] theorem Part.intakeWork_keeps (p : Part) :
    (p.intakeWork).supply = p.supply ∧ (p.intakeWork).keepValid = p.keepValid ∧
    (p.intakeWork).initialising = p.initialising ∧ (p.intakeWork).lockoutTimer = p.lockoutTimer ∧
    (p.intakeWork).walk = p.walk ∧ (p.intakeWork).vkeep = p.vkeep ∧ (p.intakeWork).crystal = p.crystal ∧
    (p.intakeWork).store = p.store ∧ (p.intakeWork).tableLost = p.tableLost ∧
    (p.intakeWork).fileNumber = p.fileNumber ∧ (p.intakeWork).fileNumberFault = p.fileNumberFault ∧
    (p.intakeWork).setup = p.setup ∧ (p.intakeWork).locked = p.locked ∧
    (p.intakeWork).setupFault = p.setupFault ∧ (p.intakeWork).setupIgnored = p.setupIgnored ∧
    (p.intakeWork).contexts = p.contexts ∧ (p.intakeWork).awaitOrder = p.awaitOrder ∧
    (p.intakeWork).journal = p.journal ∧ (p.intakeWork).queue = p.queue ∧
    (p.intakeWork).previousPage = p.previousPage ∧ (p.intakeWork).monitor = p.monitor ∧
    (p.intakeWork).clock = p.clock ∧ (p.intakeWork).follow = p.follow ∧ (p.intakeWork).sweep = p.sweep ∧
    (p.intakeWork).memoryEpoch = p.memoryEpoch ∧ (p.intakeWork).draws = p.draws := by
  unfold Part.intakeWork
  simp

@[simp] theorem Part.completeRecord_keeps (p : Part) (w : Nat) (r : FileRecord) :
    (p.completeRecord w r).supply = p.supply ∧ (p.completeRecord w r).keepValid = p.keepValid ∧
    (p.completeRecord w r).initialising = p.initialising ∧
    (p.completeRecord w r).lockoutTimer = p.lockoutTimer ∧ (p.completeRecord w r).walk = p.walk ∧
    (p.completeRecord w r).vkeep = p.vkeep ∧ (p.completeRecord w r).crystal = p.crystal ∧
    (p.completeRecord w r).store = p.store ∧ (p.completeRecord w r).arbiter = p.arbiter ∧
    (p.completeRecord w r).tableLost = p.tableLost ∧ (p.completeRecord w r).fileNumber = p.fileNumber ∧
    (p.completeRecord w r).fileNumberFault = p.fileNumberFault ∧ (p.completeRecord w r).setup = p.setup ∧
    (p.completeRecord w r).locked = p.locked ∧ (p.completeRecord w r).setupFault = p.setupFault ∧
    (p.completeRecord w r).setupIgnored = p.setupIgnored ∧ (p.completeRecord w r).contexts = p.contexts ∧
    (p.completeRecord w r).awaitOrder = p.awaitOrder ∧ (p.completeRecord w r).journal = p.journal ∧
    (p.completeRecord w r).queue = p.queue ∧ (p.completeRecord w r).counters = p.counters ∧
    (p.completeRecord w r).previousPage = p.previousPage ∧ (p.completeRecord w r).monitor = p.monitor ∧
    (p.completeRecord w r).clock = p.clock ∧ (p.completeRecord w r).follow = p.follow ∧
    (p.completeRecord w r).sweep = p.sweep ∧ (p.completeRecord w r).path = p.path ∧
    (p.completeRecord w r).memory = p.memory ∧ (p.completeRecord w r).memoryEpoch = p.memoryEpoch ∧
    (p.completeRecord w r).draws = p.draws := by
  unfold Part.completeRecord
  dsimp only
  repeat' split
  all_goals simp

@[simp] theorem Part.acceptWord_keeps (p : Part) (w : Nat) (a b : LaneBytes) :
    (p.acceptWord w a b).supply = p.supply ∧ (p.acceptWord w a b).keepValid = p.keepValid ∧
    (p.acceptWord w a b).initialising = p.initialising ∧
    (p.acceptWord w a b).lockoutTimer = p.lockoutTimer ∧ (p.acceptWord w a b).walk = p.walk ∧
    (p.acceptWord w a b).vkeep = p.vkeep ∧ (p.acceptWord w a b).crystal = p.crystal ∧
    (p.acceptWord w a b).store = p.store ∧ (p.acceptWord w a b).arbiter = p.arbiter ∧
    (p.acceptWord w a b).tableLost = p.tableLost ∧ (p.acceptWord w a b).fileNumber = p.fileNumber ∧
    (p.acceptWord w a b).fileNumberFault = p.fileNumberFault ∧ (p.acceptWord w a b).setup = p.setup ∧
    (p.acceptWord w a b).locked = p.locked ∧ (p.acceptWord w a b).setupFault = p.setupFault ∧
    (p.acceptWord w a b).setupIgnored = p.setupIgnored ∧ (p.acceptWord w a b).contexts = p.contexts ∧
    (p.acceptWord w a b).awaitOrder = p.awaitOrder ∧ (p.acceptWord w a b).journal = p.journal ∧
    (p.acceptWord w a b).queue = p.queue ∧ (p.acceptWord w a b).counters = p.counters ∧
    (p.acceptWord w a b).previousPage = p.previousPage ∧ (p.acceptWord w a b).monitor = p.monitor ∧
    (p.acceptWord w a b).clock = p.clock ∧ (p.acceptWord w a b).follow = p.follow ∧
    (p.acceptWord w a b).sweep = p.sweep ∧ (p.acceptWord w a b).path = p.path ∧
    (p.acceptWord w a b).memory = p.memory ∧ (p.acceptWord w a b).memoryEpoch = p.memoryEpoch ∧
    (p.acceptWord w a b).draws = p.draws := by
  unfold Part.acceptWord
  dsimp only
  repeat' split
  all_goals simp

@[simp] theorem Part.beginFile_keeps (p : Part) (b : LaneBytes) :
    (p.beginFile b).supply = p.supply ∧ (p.beginFile b).keepValid = p.keepValid ∧
    (p.beginFile b).initialising = p.initialising ∧ (p.beginFile b).lockoutTimer = p.lockoutTimer ∧
    (p.beginFile b).walk = p.walk ∧ (p.beginFile b).vkeep = p.vkeep ∧ (p.beginFile b).crystal = p.crystal ∧
    (p.beginFile b).store = p.store ∧ (p.beginFile b).tableLost = p.tableLost ∧
    (p.beginFile b).fileNumber = p.fileNumber ∧ (p.beginFile b).fileNumberFault = p.fileNumberFault ∧
    (p.beginFile b).setup = p.setup ∧ (p.beginFile b).locked = p.locked ∧
    (p.beginFile b).setupFault = p.setupFault ∧ (p.beginFile b).setupIgnored = p.setupIgnored ∧
    (p.beginFile b).contexts = p.contexts ∧ (p.beginFile b).awaitOrder = p.awaitOrder ∧
    (p.beginFile b).journal = p.journal ∧ (p.beginFile b).queue = p.queue ∧
    (p.beginFile b).previousPage = p.previousPage ∧ (p.beginFile b).monitor = p.monitor ∧
    (p.beginFile b).clock = p.clock ∧ (p.beginFile b).follow = p.follow ∧ (p.beginFile b).sweep = p.sweep ∧
    (p.beginFile b).memoryEpoch = p.memoryEpoch ∧ (p.beginFile b).draws = p.draws := by
  unfold Part.beginFile
  repeat' split
  all_goals simp

@[simp] theorem Part.followWrite_keeps (p : Part) (w : Nat) (b : LaneBytes) :
    (p.followWrite w b).supply = p.supply ∧ (p.followWrite w b).keepValid = p.keepValid ∧
    (p.followWrite w b).initialising = p.initialising ∧ (p.followWrite w b).lockoutTimer = p.lockoutTimer ∧
    (p.followWrite w b).walk = p.walk ∧ (p.followWrite w b).vkeep = p.vkeep ∧
    (p.followWrite w b).crystal = p.crystal ∧ (p.followWrite w b).store = p.store ∧
    (p.followWrite w b).tableLost = p.tableLost ∧ (p.followWrite w b).fileNumber = p.fileNumber ∧
    (p.followWrite w b).fileNumberFault = p.fileNumberFault ∧ (p.followWrite w b).setup = p.setup ∧
    (p.followWrite w b).locked = p.locked ∧ (p.followWrite w b).setupFault = p.setupFault ∧
    (p.followWrite w b).setupIgnored = p.setupIgnored ∧ (p.followWrite w b).contexts = p.contexts ∧
    (p.followWrite w b).awaitOrder = p.awaitOrder ∧ (p.followWrite w b).journal = p.journal ∧
    (p.followWrite w b).queue = p.queue ∧ (p.followWrite w b).previousPage = p.previousPage ∧
    (p.followWrite w b).monitor = p.monitor ∧ (p.followWrite w b).clock = p.clock ∧
    (p.followWrite w b).follow = p.follow ∧ (p.followWrite w b).sweep = p.sweep ∧
    (p.followWrite w b).memoryEpoch = p.memoryEpoch ∧ (p.followWrite w b).draws = p.draws := by
  unfold Part.followWrite
  repeat' split
  all_goals simp

@[simp] theorem Part.fileWrite_keeps (p : Part) (w : Nat) (b : LaneBytes) :
    (p.fileWrite w b).supply = p.supply ∧ (p.fileWrite w b).keepValid = p.keepValid ∧
    (p.fileWrite w b).initialising = p.initialising ∧ (p.fileWrite w b).lockoutTimer = p.lockoutTimer ∧
    (p.fileWrite w b).walk = p.walk ∧ (p.fileWrite w b).vkeep = p.vkeep ∧
    (p.fileWrite w b).crystal = p.crystal ∧ (p.fileWrite w b).store = p.store ∧
    (p.fileWrite w b).tableLost = p.tableLost ∧ (p.fileWrite w b).fileNumber = p.fileNumber ∧
    (p.fileWrite w b).fileNumberFault = p.fileNumberFault ∧ (p.fileWrite w b).setup = p.setup ∧
    (p.fileWrite w b).locked = p.locked ∧ (p.fileWrite w b).setupFault = p.setupFault ∧
    (p.fileWrite w b).setupIgnored = p.setupIgnored ∧ (p.fileWrite w b).contexts = p.contexts ∧
    (p.fileWrite w b).awaitOrder = p.awaitOrder ∧ (p.fileWrite w b).journal = p.journal ∧
    (p.fileWrite w b).queue = p.queue ∧ (p.fileWrite w b).previousPage = p.previousPage ∧
    (p.fileWrite w b).monitor = p.monitor ∧ (p.fileWrite w b).clock = p.clock ∧
    (p.fileWrite w b).follow = p.follow ∧ (p.fileWrite w b).sweep = p.sweep ∧
    (p.fileWrite w b).memoryEpoch = p.memoryEpoch ∧ (p.fileWrite w b).draws = p.draws := by
  unfold Part.fileWrite
  simp

@[simp] theorem Part.ignoreAnswer_keeps (p : Part) :
    (p.ignoreAnswer).supply = p.supply ∧ (p.ignoreAnswer).keepValid = p.keepValid ∧
    (p.ignoreAnswer).initialising = p.initialising ∧ (p.ignoreAnswer).lockoutTimer = p.lockoutTimer ∧
    (p.ignoreAnswer).walk = p.walk ∧ (p.ignoreAnswer).vkeep = p.vkeep ∧
    (p.ignoreAnswer).crystal = p.crystal ∧ (p.ignoreAnswer).store = p.store ∧
    (p.ignoreAnswer).arbiter = p.arbiter ∧ (p.ignoreAnswer).tableLost = p.tableLost ∧
    (p.ignoreAnswer).fileNumber = p.fileNumber ∧ (p.ignoreAnswer).fileNumberFault = p.fileNumberFault ∧
    (p.ignoreAnswer).setup = p.setup ∧ (p.ignoreAnswer).locked = p.locked ∧
    (p.ignoreAnswer).setupFault = p.setupFault ∧ (p.ignoreAnswer).setupIgnored = p.setupIgnored ∧
    (p.ignoreAnswer).contexts = p.contexts ∧ (p.ignoreAnswer).awaitOrder = p.awaitOrder ∧
    (p.ignoreAnswer).journal = p.journal ∧ (p.ignoreAnswer).queue = p.queue ∧
    (p.ignoreAnswer).counters = p.counters ∧ (p.ignoreAnswer).previousPage = p.previousPage ∧
    (p.ignoreAnswer).monitor = p.monitor ∧ (p.ignoreAnswer).clock = p.clock ∧
    (p.ignoreAnswer).follow = p.follow ∧ (p.ignoreAnswer).sweep = p.sweep ∧
    (p.ignoreAnswer).path = p.path ∧ (p.ignoreAnswer).memory = p.memory ∧
    (p.ignoreAnswer).memoryEpoch = p.memoryEpoch ∧ (p.ignoreAnswer).draws = p.draws := by
  unfold Part.ignoreAnswer
  simp

@[simp] theorem Part.claimOwedDiscard_keeps (p : Part) :
    (p.claimOwedDiscard).supply = p.supply ∧ (p.claimOwedDiscard).keepValid = p.keepValid ∧
    (p.claimOwedDiscard).initialising = p.initialising ∧
    (p.claimOwedDiscard).lockoutTimer = p.lockoutTimer ∧ (p.claimOwedDiscard).walk = p.walk ∧
    (p.claimOwedDiscard).vkeep = p.vkeep ∧ (p.claimOwedDiscard).crystal = p.crystal ∧
    (p.claimOwedDiscard).store = p.store ∧ (p.claimOwedDiscard).tableLost = p.tableLost ∧
    (p.claimOwedDiscard).fileNumber = p.fileNumber ∧
    (p.claimOwedDiscard).fileNumberFault = p.fileNumberFault ∧ (p.claimOwedDiscard).setup = p.setup ∧
    (p.claimOwedDiscard).locked = p.locked ∧ (p.claimOwedDiscard).setupFault = p.setupFault ∧
    (p.claimOwedDiscard).setupIgnored = p.setupIgnored ∧ (p.claimOwedDiscard).contexts = p.contexts ∧
    (p.claimOwedDiscard).awaitOrder = p.awaitOrder ∧ (p.claimOwedDiscard).journal = p.journal ∧
    (p.claimOwedDiscard).queue = p.queue ∧ (p.claimOwedDiscard).counters = p.counters ∧
    (p.claimOwedDiscard).previousPage = p.previousPage ∧ (p.claimOwedDiscard).monitor = p.monitor ∧
    (p.claimOwedDiscard).clock = p.clock ∧ (p.claimOwedDiscard).follow = p.follow ∧
    (p.claimOwedDiscard).sweep = p.sweep ∧ (p.claimOwedDiscard).path = p.path ∧
    (p.claimOwedDiscard).memory = p.memory ∧ (p.claimOwedDiscard).memoryEpoch = p.memoryEpoch ∧
    (p.claimOwedDiscard).draws = p.draws := by
  unfold Part.claimOwedDiscard
  split <;> simp

@[simp] theorem Part.entryStaged_keeps (p : Part) (e : EntryRecord) (n : Nat) :
    (p.entryStaged e n).supply = p.supply ∧ (p.entryStaged e n).keepValid = p.keepValid ∧
    (p.entryStaged e n).initialising = p.initialising ∧ (p.entryStaged e n).lockoutTimer = p.lockoutTimer ∧
    (p.entryStaged e n).walk = p.walk ∧ (p.entryStaged e n).vkeep = p.vkeep ∧
    (p.entryStaged e n).crystal = p.crystal ∧ (p.entryStaged e n).store = p.store ∧
    (p.entryStaged e n).arbiter = p.arbiter ∧ (p.entryStaged e n).tableLost = p.tableLost ∧
    (p.entryStaged e n).fileNumber = p.fileNumber ∧
    (p.entryStaged e n).fileNumberFault = p.fileNumberFault ∧ (p.entryStaged e n).setup = p.setup ∧
    (p.entryStaged e n).locked = p.locked ∧ (p.entryStaged e n).setupFault = p.setupFault ∧
    (p.entryStaged e n).setupIgnored = p.setupIgnored ∧ (p.entryStaged e n).contexts = p.contexts ∧
    (p.entryStaged e n).awaitOrder = p.awaitOrder ∧ (p.entryStaged e n).journal = p.journal ∧
    (p.entryStaged e n).queue = p.queue ∧ (p.entryStaged e n).counters = p.counters ∧
    (p.entryStaged e n).previousPage = p.previousPage ∧ (p.entryStaged e n).monitor = p.monitor ∧
    (p.entryStaged e n).clock = p.clock ∧ (p.entryStaged e n).follow = p.follow ∧
    (p.entryStaged e n).sweep = p.sweep ∧ (p.entryStaged e n).path = p.path ∧
    (p.entryStaged e n).memory = p.memory ∧ (p.entryStaged e n).memoryEpoch = p.memoryEpoch ∧
    (p.entryStaged e n).draws = p.draws := by
  unfold Part.entryStaged
  simp

@[simp] theorem Part.passStaged_keeps (p : Part) :
    (p.passStaged).supply = p.supply ∧ (p.passStaged).keepValid = p.keepValid ∧
    (p.passStaged).initialising = p.initialising ∧ (p.passStaged).lockoutTimer = p.lockoutTimer ∧
    (p.passStaged).walk = p.walk ∧ (p.passStaged).vkeep = p.vkeep ∧ (p.passStaged).crystal = p.crystal ∧
    (p.passStaged).store = p.store ∧ (p.passStaged).arbiter = p.arbiter ∧
    (p.passStaged).tableLost = p.tableLost ∧ (p.passStaged).fileNumber = p.fileNumber ∧
    (p.passStaged).fileNumberFault = p.fileNumberFault ∧ (p.passStaged).setup = p.setup ∧
    (p.passStaged).locked = p.locked ∧ (p.passStaged).setupFault = p.setupFault ∧
    (p.passStaged).setupIgnored = p.setupIgnored ∧ (p.passStaged).contexts = p.contexts ∧
    (p.passStaged).awaitOrder = p.awaitOrder ∧ (p.passStaged).journal = p.journal ∧
    (p.passStaged).queue = p.queue ∧ (p.passStaged).counters = p.counters ∧
    (p.passStaged).previousPage = p.previousPage ∧ (p.passStaged).monitor = p.monitor ∧
    (p.passStaged).clock = p.clock ∧ (p.passStaged).follow = p.follow ∧ (p.passStaged).sweep = p.sweep ∧
    (p.passStaged).path = p.path ∧ (p.passStaged).memory = p.memory ∧
    (p.passStaged).memoryEpoch = p.memoryEpoch ∧ (p.passStaged).draws = p.draws := by
  unfold Part.passStaged
  simp

@[simp] theorem Part.fileCommitted_keeps (p : Part) :
    (p.fileCommitted).supply = p.supply ∧ (p.fileCommitted).keepValid = p.keepValid ∧
    (p.fileCommitted).initialising = p.initialising ∧ (p.fileCommitted).lockoutTimer = p.lockoutTimer ∧
    (p.fileCommitted).walk = p.walk ∧ (p.fileCommitted).vkeep = p.vkeep ∧
    (p.fileCommitted).crystal = p.crystal ∧ (p.fileCommitted).store = p.store ∧
    (p.fileCommitted).arbiter = p.arbiter ∧ (p.fileCommitted).tableLost = p.tableLost ∧
    (p.fileCommitted).fileNumber = p.fileNumber ∧ (p.fileCommitted).fileNumberFault = p.fileNumberFault ∧
    (p.fileCommitted).setup = p.setup ∧ (p.fileCommitted).locked = p.locked ∧
    (p.fileCommitted).setupFault = p.setupFault ∧ (p.fileCommitted).setupIgnored = p.setupIgnored ∧
    (p.fileCommitted).contexts = p.contexts ∧ (p.fileCommitted).awaitOrder = p.awaitOrder ∧
    (p.fileCommitted).journal = p.journal ∧ (p.fileCommitted).queue = p.queue ∧
    (p.fileCommitted).counters = p.counters ∧ (p.fileCommitted).previousPage = p.previousPage ∧
    (p.fileCommitted).monitor = p.monitor ∧ (p.fileCommitted).clock = p.clock ∧
    (p.fileCommitted).follow = p.follow ∧ (p.fileCommitted).sweep = p.sweep ∧
    (p.fileCommitted).path = p.path ∧ (p.fileCommitted).memory = p.memory ∧
    (p.fileCommitted).memoryEpoch = p.memoryEpoch ∧ (p.fileCommitted).draws = p.draws := by
  unfold Part.fileCommitted
  simp

@[simp] theorem Part.resetIntake_keeps (p : Part) :
    (p.resetIntake).supply = p.supply ∧ (p.resetIntake).keepValid = p.keepValid ∧
    (p.resetIntake).initialising = p.initialising ∧ (p.resetIntake).lockoutTimer = p.lockoutTimer ∧
    (p.resetIntake).walk = p.walk ∧ (p.resetIntake).vkeep = p.vkeep ∧ (p.resetIntake).crystal = p.crystal ∧
    (p.resetIntake).store = p.store ∧ (p.resetIntake).tableLost = p.tableLost ∧
    (p.resetIntake).fileNumber = p.fileNumber ∧ (p.resetIntake).fileNumberFault = p.fileNumberFault ∧
    (p.resetIntake).setup = p.setup ∧ (p.resetIntake).locked = p.locked ∧
    (p.resetIntake).setupFault = p.setupFault ∧ (p.resetIntake).setupIgnored = p.setupIgnored ∧
    (p.resetIntake).contexts = p.contexts ∧ (p.resetIntake).awaitOrder = p.awaitOrder ∧
    (p.resetIntake).journal = p.journal ∧ (p.resetIntake).queue = p.queue ∧
    (p.resetIntake).previousPage = p.previousPage ∧ (p.resetIntake).monitor = p.monitor ∧
    (p.resetIntake).clock = p.clock ∧ (p.resetIntake).follow = p.follow ∧ (p.resetIntake).sweep = p.sweep ∧
    (p.resetIntake).memoryEpoch = p.memoryEpoch ∧ (p.resetIntake).draws = p.draws := by
  unfold Part.resetIntake
  dsimp only
  repeat' split
  all_goals simp

/-- R35, R41: what an answer comes to, where what is made of it changes intake alone: intake as the answer leaves it, a
discard owed claimed, and intake's work after it. -/
theorem Part.intakeAnswered_eq (p : Part) (f : Part → Part) (j : Intake) (hf : f p = { p with intake := j })
    (hj : p.intake.answerIgnored = false → j.answerIgnored = false)
    (hd : j.discardOwed = p.intake.discardOwed) (h : p.arbiter.op = none) :
    p.intakeAnswered f = Part.intakeWork
      { p with arbiter := p.arbiter.afterAnswer p.intake, intake := p.intake.afterAnswer j } := by
  have ha : ({ p.arbiter with op := none } : Arbiter) = p.arbiter := by rw [← h]
  unfold Part.intakeAnswered
  congr 1
  cases hi : p.intake.answerIgnored <;> cases ho : p.intake.discardOwed
  all_goals simp only [hf, Part.ignoreAnswer, Part.claimOwedDiscard, Part.claimIntake, Arbiter.afterAnswer,
    Intake.afterAnswer, hi, ho, hd, ha, if_true, if_false, Bool.false_eq_true]
  all_goals first | rfl | (rcases j with ⟨⟩; simp_all)

end Sys2Proof.Machine
end

