-- ==== Sys2Proof/Laws/Contexts.lean ====
section
/-! SUPPORT. The operations of the image contexts: what each leaves as it was. -/

namespace Sys2Proof.Machine

@[simp] theorem Part.beginPresentation_keeps (p : Part) (n : Fin 4) (b : LaneBytes) :
    (p.beginPresentation n b).supply = p.supply ∧ (p.beginPresentation n b).keepValid = p.keepValid ∧
    (p.beginPresentation n b).initialising = p.initialising ∧
    (p.beginPresentation n b).lockoutTimer = p.lockoutTimer ∧ (p.beginPresentation n b).walk = p.walk ∧
    (p.beginPresentation n b).vkeep = p.vkeep ∧ (p.beginPresentation n b).crystal = p.crystal ∧
    (p.beginPresentation n b).store = p.store ∧ (p.beginPresentation n b).arbiter = p.arbiter ∧
    (p.beginPresentation n b).tableLost = p.tableLost ∧ (p.beginPresentation n b).intake = p.intake ∧
    (p.beginPresentation n b).fileNumber = p.fileNumber ∧
    (p.beginPresentation n b).fileNumberFault = p.fileNumberFault ∧
    (p.beginPresentation n b).setup = p.setup ∧ (p.beginPresentation n b).locked = p.locked ∧
    (p.beginPresentation n b).setupFault = p.setupFault ∧
    (p.beginPresentation n b).setupIgnored = p.setupIgnored ∧
    (p.beginPresentation n b).awaitOrder = p.awaitOrder ∧ (p.beginPresentation n b).journal = p.journal ∧
    (p.beginPresentation n b).queue = p.queue ∧ (p.beginPresentation n b).counters = p.counters ∧
    (p.beginPresentation n b).previousPage = p.previousPage ∧
    (p.beginPresentation n b).monitor = p.monitor ∧ (p.beginPresentation n b).clock = p.clock ∧
    (p.beginPresentation n b).follow = p.follow ∧ (p.beginPresentation n b).sweep = p.sweep ∧
    (p.beginPresentation n b).path = p.path ∧ (p.beginPresentation n b).memory = p.memory ∧
    (p.beginPresentation n b).memoryEpoch = p.memoryEpoch ∧ (p.beginPresentation n b).draws = p.draws := by
  unfold Part.beginPresentation
  simp

@[simp] theorem Part.closeImage_keeps (p : Part) (n : Fin 4) (c : List LaneBytes) :
    (p.closeImage n c).supply = p.supply ∧ (p.closeImage n c).keepValid = p.keepValid ∧
    (p.closeImage n c).initialising = p.initialising ∧ (p.closeImage n c).lockoutTimer = p.lockoutTimer ∧
    (p.closeImage n c).walk = p.walk ∧ (p.closeImage n c).vkeep = p.vkeep ∧
    (p.closeImage n c).crystal = p.crystal ∧ (p.closeImage n c).store = p.store ∧
    (p.closeImage n c).tableLost = p.tableLost ∧ (p.closeImage n c).intake = p.intake ∧
    (p.closeImage n c).fileNumber = p.fileNumber ∧ (p.closeImage n c).fileNumberFault = p.fileNumberFault ∧
    (p.closeImage n c).setup = p.setup ∧ (p.closeImage n c).locked = p.locked ∧
    (p.closeImage n c).setupFault = p.setupFault ∧ (p.closeImage n c).setupIgnored = p.setupIgnored ∧
    (p.closeImage n c).awaitOrder = p.awaitOrder ∧ (p.closeImage n c).journal = p.journal ∧
    (p.closeImage n c).queue = p.queue ∧ (p.closeImage n c).counters = p.counters ∧
    (p.closeImage n c).previousPage = p.previousPage ∧ (p.closeImage n c).monitor = p.monitor ∧
    (p.closeImage n c).clock = p.clock ∧ (p.closeImage n c).follow = p.follow ∧
    (p.closeImage n c).sweep = p.sweep ∧ (p.closeImage n c).path = p.path ∧
    (p.closeImage n c).memory = p.memory ∧ (p.closeImage n c).memoryEpoch = p.memoryEpoch ∧
    (p.closeImage n c).draws = p.draws := by
  unfold Part.closeImage
  dsimp only
  repeat' split
  all_goals simp

@[simp] theorem Part.captureWrite_keeps (p : Part) (n : Fin 4) (c : List LaneBytes) (k : Nat) (b : LaneBytes) :
    (p.captureWrite n c k b).supply = p.supply ∧ (p.captureWrite n c k b).keepValid = p.keepValid ∧
    (p.captureWrite n c k b).initialising = p.initialising ∧
    (p.captureWrite n c k b).lockoutTimer = p.lockoutTimer ∧ (p.captureWrite n c k b).walk = p.walk ∧
    (p.captureWrite n c k b).vkeep = p.vkeep ∧ (p.captureWrite n c k b).crystal = p.crystal ∧
    (p.captureWrite n c k b).store = p.store ∧ (p.captureWrite n c k b).tableLost = p.tableLost ∧
    (p.captureWrite n c k b).intake = p.intake ∧ (p.captureWrite n c k b).fileNumber = p.fileNumber ∧
    (p.captureWrite n c k b).fileNumberFault = p.fileNumberFault ∧
    (p.captureWrite n c k b).setup = p.setup ∧ (p.captureWrite n c k b).locked = p.locked ∧
    (p.captureWrite n c k b).setupFault = p.setupFault ∧
    (p.captureWrite n c k b).setupIgnored = p.setupIgnored ∧
    (p.captureWrite n c k b).awaitOrder = p.awaitOrder ∧ (p.captureWrite n c k b).journal = p.journal ∧
    (p.captureWrite n c k b).queue = p.queue ∧ (p.captureWrite n c k b).counters = p.counters ∧
    (p.captureWrite n c k b).previousPage = p.previousPage ∧ (p.captureWrite n c k b).monitor = p.monitor ∧
    (p.captureWrite n c k b).clock = p.clock ∧ (p.captureWrite n c k b).follow = p.follow ∧
    (p.captureWrite n c k b).sweep = p.sweep ∧ (p.captureWrite n c k b).path = p.path ∧
    (p.captureWrite n c k b).memory = p.memory ∧ (p.captureWrite n c k b).memoryEpoch = p.memoryEpoch ∧
    (p.captureWrite n c k b).draws = p.draws := by
  unfold Part.captureWrite
  dsimp only
  repeat' split
  all_goals simp

@[simp] theorem Part.dropPresentation_keeps (p : Part) (n : Fin 4) (x : Presentation) :
    (p.dropPresentation n x).supply = p.supply ∧ (p.dropPresentation n x).keepValid = p.keepValid ∧
    (p.dropPresentation n x).initialising = p.initialising ∧
    (p.dropPresentation n x).lockoutTimer = p.lockoutTimer ∧ (p.dropPresentation n x).walk = p.walk ∧
    (p.dropPresentation n x).vkeep = p.vkeep ∧ (p.dropPresentation n x).crystal = p.crystal ∧
    (p.dropPresentation n x).tableLost = p.tableLost ∧ (p.dropPresentation n x).intake = p.intake ∧
    (p.dropPresentation n x).fileNumber = p.fileNumber ∧
    (p.dropPresentation n x).fileNumberFault = p.fileNumberFault ∧
    (p.dropPresentation n x).setup = p.setup ∧ (p.dropPresentation n x).locked = p.locked ∧
    (p.dropPresentation n x).setupFault = p.setupFault ∧
    (p.dropPresentation n x).setupIgnored = p.setupIgnored ∧
    (p.dropPresentation n x).contexts = p.contexts ∧ (p.dropPresentation n x).awaitOrder = p.awaitOrder ∧
    (p.dropPresentation n x).journal = p.journal ∧ (p.dropPresentation n x).previousPage = p.previousPage ∧
    (p.dropPresentation n x).monitor = p.monitor ∧ (p.dropPresentation n x).clock = p.clock ∧
    (p.dropPresentation n x).follow = p.follow ∧ (p.dropPresentation n x).sweep = p.sweep ∧
    (p.dropPresentation n x).memory = p.memory ∧ (p.dropPresentation n x).memoryEpoch = p.memoryEpoch ∧
    (p.dropPresentation n x).draws = p.draws := by
  unfold Part.dropPresentation
  split <;> simp

@[simp] theorem Part.abandon_keeps (p : Part) (n : Fin 4) :
    (p.abandon n).supply = p.supply ∧ (p.abandon n).keepValid = p.keepValid ∧
    (p.abandon n).initialising = p.initialising ∧ (p.abandon n).lockoutTimer = p.lockoutTimer ∧
    (p.abandon n).walk = p.walk ∧ (p.abandon n).vkeep = p.vkeep ∧ (p.abandon n).crystal = p.crystal ∧
    (p.abandon n).tableLost = p.tableLost ∧ (p.abandon n).intake = p.intake ∧
    (p.abandon n).fileNumber = p.fileNumber ∧ (p.abandon n).fileNumberFault = p.fileNumberFault ∧
    (p.abandon n).setup = p.setup ∧ (p.abandon n).locked = p.locked ∧
    (p.abandon n).setupFault = p.setupFault ∧ (p.abandon n).setupIgnored = p.setupIgnored ∧
    (p.abandon n).awaitOrder = p.awaitOrder ∧ (p.abandon n).journal = p.journal ∧
    (p.abandon n).previousPage = p.previousPage ∧ (p.abandon n).monitor = p.monitor ∧
    (p.abandon n).clock = p.clock ∧ (p.abandon n).follow = p.follow ∧ (p.abandon n).sweep = p.sweep ∧
    (p.abandon n).memory = p.memory ∧ (p.abandon n).memoryEpoch = p.memoryEpoch ∧
    (p.abandon n).draws = p.draws := by
  unfold Part.abandon
  split <;> simp

@[simp] theorem Part.endSettling_keeps (p : Part) (n : Fin 4) (x : Presentation) :
    (p.endSettling n x).supply = p.supply ∧ (p.endSettling n x).keepValid = p.keepValid ∧
    (p.endSettling n x).initialising = p.initialising ∧ (p.endSettling n x).lockoutTimer = p.lockoutTimer ∧
    (p.endSettling n x).walk = p.walk ∧ (p.endSettling n x).vkeep = p.vkeep ∧
    (p.endSettling n x).crystal = p.crystal ∧ (p.endSettling n x).tableLost = p.tableLost ∧
    (p.endSettling n x).intake = p.intake ∧ (p.endSettling n x).fileNumber = p.fileNumber ∧
    (p.endSettling n x).fileNumberFault = p.fileNumberFault ∧ (p.endSettling n x).setup = p.setup ∧
    (p.endSettling n x).locked = p.locked ∧ (p.endSettling n x).setupFault = p.setupFault ∧
    (p.endSettling n x).setupIgnored = p.setupIgnored ∧ (p.endSettling n x).awaitOrder = p.awaitOrder ∧
    (p.endSettling n x).journal = p.journal ∧ (p.endSettling n x).queue = p.queue ∧
    (p.endSettling n x).counters = p.counters ∧ (p.endSettling n x).previousPage = p.previousPage ∧
    (p.endSettling n x).monitor = p.monitor ∧ (p.endSettling n x).clock = p.clock ∧
    (p.endSettling n x).follow = p.follow ∧ (p.endSettling n x).sweep = p.sweep ∧
    (p.endSettling n x).path = p.path ∧ (p.endSettling n x).memory = p.memory ∧
    (p.endSettling n x).memoryEpoch = p.memoryEpoch ∧ (p.endSettling n x).draws = p.draws := by
  unfold Part.endSettling
  repeat' split
  all_goals simp

@[simp] theorem Part.amendedWith_keeps (p : Part) (n : Fin 4) (x : Presentation) :
    (p.amendedWith n x).supply = p.supply ∧ (p.amendedWith n x).keepValid = p.keepValid ∧
    (p.amendedWith n x).initialising = p.initialising ∧ (p.amendedWith n x).lockoutTimer = p.lockoutTimer ∧
    (p.amendedWith n x).walk = p.walk ∧ (p.amendedWith n x).vkeep = p.vkeep ∧
    (p.amendedWith n x).crystal = p.crystal ∧ (p.amendedWith n x).tableLost = p.tableLost ∧
    (p.amendedWith n x).intake = p.intake ∧ (p.amendedWith n x).fileNumber = p.fileNumber ∧
    (p.amendedWith n x).fileNumberFault = p.fileNumberFault ∧ (p.amendedWith n x).setup = p.setup ∧
    (p.amendedWith n x).locked = p.locked ∧ (p.amendedWith n x).setupFault = p.setupFault ∧
    (p.amendedWith n x).setupIgnored = p.setupIgnored ∧ (p.amendedWith n x).awaitOrder = p.awaitOrder ∧
    (p.amendedWith n x).journal = p.journal ∧ (p.amendedWith n x).queue = p.queue ∧
    (p.amendedWith n x).counters = p.counters ∧ (p.amendedWith n x).previousPage = p.previousPage ∧
    (p.amendedWith n x).monitor = p.monitor ∧ (p.amendedWith n x).clock = p.clock ∧
    (p.amendedWith n x).follow = p.follow ∧ (p.amendedWith n x).sweep = p.sweep ∧
    (p.amendedWith n x).path = p.path ∧ (p.amendedWith n x).memory = p.memory ∧
    (p.amendedWith n x).memoryEpoch = p.memoryEpoch ∧ (p.amendedWith n x).draws = p.draws := by
  unfold Part.amendedWith
  split <;> simp

@[simp] theorem Part.contextWrite_keeps (p : Part) (n : Fin 4) (k : Nat) (b : LaneBytes) :
    (p.contextWrite n k b).1.supply = p.supply ∧ (p.contextWrite n k b).1.keepValid = p.keepValid ∧
    (p.contextWrite n k b).1.initialising = p.initialising ∧
    (p.contextWrite n k b).1.lockoutTimer = p.lockoutTimer ∧ (p.contextWrite n k b).1.walk = p.walk ∧
    (p.contextWrite n k b).1.vkeep = p.vkeep ∧ (p.contextWrite n k b).1.crystal = p.crystal ∧
    (p.contextWrite n k b).1.tableLost = p.tableLost ∧ (p.contextWrite n k b).1.intake = p.intake ∧
    (p.contextWrite n k b).1.fileNumber = p.fileNumber ∧
    (p.contextWrite n k b).1.fileNumberFault = p.fileNumberFault ∧
    (p.contextWrite n k b).1.setup = p.setup ∧ (p.contextWrite n k b).1.locked = p.locked ∧
    (p.contextWrite n k b).1.setupFault = p.setupFault ∧
    (p.contextWrite n k b).1.setupIgnored = p.setupIgnored ∧
    (p.contextWrite n k b).1.awaitOrder = p.awaitOrder ∧ (p.contextWrite n k b).1.journal = p.journal ∧
    (p.contextWrite n k b).1.previousPage = p.previousPage ∧ (p.contextWrite n k b).1.monitor = p.monitor ∧
    (p.contextWrite n k b).1.clock = p.clock ∧ (p.contextWrite n k b).1.follow = p.follow ∧
    (p.contextWrite n k b).1.sweep = p.sweep ∧ (p.contextWrite n k b).1.memory = p.memory ∧
    (p.contextWrite n k b).1.memoryEpoch = p.memoryEpoch ∧ (p.contextWrite n k b).1.draws = p.draws := by
  unfold Part.contextWrite
  repeat' split
  all_goals simp

@[simp] theorem Part.answerHeldRead_keeps (p : Part) (n : Fin 4) :
    (p.answerHeldRead n).supply = p.supply ∧ (p.answerHeldRead n).keepValid = p.keepValid ∧
    (p.answerHeldRead n).initialising = p.initialising ∧
    (p.answerHeldRead n).lockoutTimer = p.lockoutTimer ∧ (p.answerHeldRead n).walk = p.walk ∧
    (p.answerHeldRead n).vkeep = p.vkeep ∧ (p.answerHeldRead n).crystal = p.crystal ∧
    (p.answerHeldRead n).store = p.store ∧ (p.answerHeldRead n).arbiter = p.arbiter ∧
    (p.answerHeldRead n).tableLost = p.tableLost ∧ (p.answerHeldRead n).intake = p.intake ∧
    (p.answerHeldRead n).fileNumber = p.fileNumber ∧
    (p.answerHeldRead n).fileNumberFault = p.fileNumberFault ∧ (p.answerHeldRead n).setup = p.setup ∧
    (p.answerHeldRead n).locked = p.locked ∧ (p.answerHeldRead n).setupFault = p.setupFault ∧
    (p.answerHeldRead n).setupIgnored = p.setupIgnored ∧ (p.answerHeldRead n).contexts = p.contexts ∧
    (p.answerHeldRead n).awaitOrder = p.awaitOrder ∧ (p.answerHeldRead n).journal = p.journal ∧
    (p.answerHeldRead n).queue = p.queue ∧ (p.answerHeldRead n).counters = p.counters ∧
    (p.answerHeldRead n).previousPage = p.previousPage ∧ (p.answerHeldRead n).monitor = p.monitor ∧
    (p.answerHeldRead n).clock = p.clock ∧ (p.answerHeldRead n).follow = p.follow ∧
    (p.answerHeldRead n).sweep = p.sweep ∧ (p.answerHeldRead n).memory = p.memory ∧
    (p.answerHeldRead n).memoryEpoch = p.memoryEpoch ∧ (p.answerHeldRead n).draws = p.draws := by
  unfold Part.answerHeldRead
  repeat' split
  all_goals simp

@[simp] theorem Part.resetContext_keeps (p : Part) (n : Fin 4) :
    (p.resetContext n).supply = p.supply ∧ (p.resetContext n).keepValid = p.keepValid ∧
    (p.resetContext n).initialising = p.initialising ∧ (p.resetContext n).lockoutTimer = p.lockoutTimer ∧
    (p.resetContext n).walk = p.walk ∧ (p.resetContext n).vkeep = p.vkeep ∧
    (p.resetContext n).crystal = p.crystal ∧ (p.resetContext n).tableLost = p.tableLost ∧
    (p.resetContext n).intake = p.intake ∧ (p.resetContext n).fileNumber = p.fileNumber ∧
    (p.resetContext n).fileNumberFault = p.fileNumberFault ∧ (p.resetContext n).setup = p.setup ∧
    (p.resetContext n).locked = p.locked ∧ (p.resetContext n).setupFault = p.setupFault ∧
    (p.resetContext n).setupIgnored = p.setupIgnored ∧ (p.resetContext n).awaitOrder = p.awaitOrder ∧
    (p.resetContext n).journal = p.journal ∧ (p.resetContext n).previousPage = p.previousPage ∧
    (p.resetContext n).monitor = p.monitor ∧ (p.resetContext n).clock = p.clock ∧
    (p.resetContext n).follow = p.follow ∧ (p.resetContext n).sweep = p.sweep ∧
    (p.resetContext n).memory = p.memory ∧ (p.resetContext n).memoryEpoch = p.memoryEpoch ∧
    (p.resetContext n).draws = p.draws := by
  unfold Part.resetContext
  simp

@[simp] theorem Part.resetContexts_keeps (p : Part) :
    (p.resetContexts).supply = p.supply ∧ (p.resetContexts).keepValid = p.keepValid ∧
    (p.resetContexts).initialising = p.initialising ∧ (p.resetContexts).lockoutTimer = p.lockoutTimer ∧
    (p.resetContexts).walk = p.walk ∧ (p.resetContexts).vkeep = p.vkeep ∧
    (p.resetContexts).crystal = p.crystal ∧ (p.resetContexts).tableLost = p.tableLost ∧
    (p.resetContexts).intake = p.intake ∧ (p.resetContexts).fileNumber = p.fileNumber ∧
    (p.resetContexts).fileNumberFault = p.fileNumberFault ∧ (p.resetContexts).setup = p.setup ∧
    (p.resetContexts).locked = p.locked ∧ (p.resetContexts).setupFault = p.setupFault ∧
    (p.resetContexts).setupIgnored = p.setupIgnored ∧ (p.resetContexts).awaitOrder = p.awaitOrder ∧
    (p.resetContexts).journal = p.journal ∧ (p.resetContexts).previousPage = p.previousPage ∧
    (p.resetContexts).monitor = p.monitor ∧ (p.resetContexts).clock = p.clock ∧
    (p.resetContexts).follow = p.follow ∧ (p.resetContexts).sweep = p.sweep ∧
    (p.resetContexts).memory = p.memory ∧ (p.resetContexts).memoryEpoch = p.memoryEpoch ∧
    (p.resetContexts).draws = p.draws := by
  unfold Part.resetContexts
  simp

@[simp] theorem Part.confirmOutcome_keeps (p : Part) (n : Fin 4) (a : Bool) :
    (p.confirmOutcome n a).supply = p.supply ∧ (p.confirmOutcome n a).keepValid = p.keepValid ∧
    (p.confirmOutcome n a).initialising = p.initialising ∧
    (p.confirmOutcome n a).lockoutTimer = p.lockoutTimer ∧ (p.confirmOutcome n a).walk = p.walk ∧
    (p.confirmOutcome n a).vkeep = p.vkeep ∧ (p.confirmOutcome n a).crystal = p.crystal ∧
    (p.confirmOutcome n a).store = p.store ∧ (p.confirmOutcome n a).arbiter = p.arbiter ∧
    (p.confirmOutcome n a).tableLost = p.tableLost ∧ (p.confirmOutcome n a).intake = p.intake ∧
    (p.confirmOutcome n a).fileNumber = p.fileNumber ∧
    (p.confirmOutcome n a).fileNumberFault = p.fileNumberFault ∧ (p.confirmOutcome n a).setup = p.setup ∧
    (p.confirmOutcome n a).locked = p.locked ∧ (p.confirmOutcome n a).setupFault = p.setupFault ∧
    (p.confirmOutcome n a).setupIgnored = p.setupIgnored ∧ (p.confirmOutcome n a).contexts = p.contexts ∧
    (p.confirmOutcome n a).awaitOrder = p.awaitOrder ∧ (p.confirmOutcome n a).journal = p.journal ∧
    (p.confirmOutcome n a).counters = p.counters ∧ (p.confirmOutcome n a).previousPage = p.previousPage ∧
    (p.confirmOutcome n a).monitor = p.monitor ∧ (p.confirmOutcome n a).clock = p.clock ∧
    (p.confirmOutcome n a).follow = p.follow ∧ (p.confirmOutcome n a).sweep = p.sweep ∧
    (p.confirmOutcome n a).path = p.path ∧ (p.confirmOutcome n a).memory = p.memory ∧
    (p.confirmOutcome n a).memoryEpoch = p.memoryEpoch ∧ (p.confirmOutcome n a).draws = p.draws := by
  unfold Part.confirmOutcome
  simp

@[simp] theorem Part.claimMarkFor_keeps (p : Part) (x : Presentation) :
    (p.claimMarkFor x).supply = p.supply ∧ (p.claimMarkFor x).keepValid = p.keepValid ∧
    (p.claimMarkFor x).initialising = p.initialising ∧ (p.claimMarkFor x).lockoutTimer = p.lockoutTimer ∧
    (p.claimMarkFor x).walk = p.walk ∧ (p.claimMarkFor x).vkeep = p.vkeep ∧
    (p.claimMarkFor x).crystal = p.crystal ∧ (p.claimMarkFor x).store = p.store ∧
    (p.claimMarkFor x).tableLost = p.tableLost ∧ (p.claimMarkFor x).intake = p.intake ∧
    (p.claimMarkFor x).fileNumber = p.fileNumber ∧ (p.claimMarkFor x).fileNumberFault = p.fileNumberFault ∧
    (p.claimMarkFor x).setup = p.setup ∧ (p.claimMarkFor x).locked = p.locked ∧
    (p.claimMarkFor x).setupFault = p.setupFault ∧ (p.claimMarkFor x).setupIgnored = p.setupIgnored ∧
    (p.claimMarkFor x).contexts = p.contexts ∧ (p.claimMarkFor x).awaitOrder = p.awaitOrder ∧
    (p.claimMarkFor x).journal = p.journal ∧ (p.claimMarkFor x).queue = p.queue ∧
    (p.claimMarkFor x).counters = p.counters ∧ (p.claimMarkFor x).previousPage = p.previousPage ∧
    (p.claimMarkFor x).monitor = p.monitor ∧ (p.claimMarkFor x).clock = p.clock ∧
    (p.claimMarkFor x).follow = p.follow ∧ (p.claimMarkFor x).sweep = p.sweep ∧
    (p.claimMarkFor x).path = p.path ∧ (p.claimMarkFor x).memory = p.memory ∧
    (p.claimMarkFor x).memoryEpoch = p.memoryEpoch ∧ (p.claimMarkFor x).draws = p.draws := by
  unfold Part.claimMarkFor
  split <;> simp

@[simp] theorem Part.afterConfirmation_keeps (p : Part) (n : Fin 4) (x : Presentation) (t : Bool) :
    (p.afterConfirmation n x t).supply = p.supply ∧ (p.afterConfirmation n x t).keepValid = p.keepValid ∧
    (p.afterConfirmation n x t).initialising = p.initialising ∧
    (p.afterConfirmation n x t).lockoutTimer = p.lockoutTimer ∧ (p.afterConfirmation n x t).walk = p.walk ∧
    (p.afterConfirmation n x t).vkeep = p.vkeep ∧ (p.afterConfirmation n x t).crystal = p.crystal ∧
    (p.afterConfirmation n x t).tableLost = p.tableLost ∧ (p.afterConfirmation n x t).intake = p.intake ∧
    (p.afterConfirmation n x t).fileNumber = p.fileNumber ∧
    (p.afterConfirmation n x t).fileNumberFault = p.fileNumberFault ∧
    (p.afterConfirmation n x t).setup = p.setup ∧ (p.afterConfirmation n x t).locked = p.locked ∧
    (p.afterConfirmation n x t).setupFault = p.setupFault ∧
    (p.afterConfirmation n x t).setupIgnored = p.setupIgnored ∧
    (p.afterConfirmation n x t).awaitOrder = p.awaitOrder ∧
    (p.afterConfirmation n x t).journal = p.journal ∧ (p.afterConfirmation n x t).queue = p.queue ∧
    (p.afterConfirmation n x t).counters = p.counters ∧
    (p.afterConfirmation n x t).previousPage = p.previousPage ∧
    (p.afterConfirmation n x t).monitor = p.monitor ∧ (p.afterConfirmation n x t).clock = p.clock ∧
    (p.afterConfirmation n x t).follow = p.follow ∧ (p.afterConfirmation n x t).sweep = p.sweep ∧
    (p.afterConfirmation n x t).path = p.path ∧ (p.afterConfirmation n x t).memory = p.memory ∧
    (p.afterConfirmation n x t).memoryEpoch = p.memoryEpoch ∧ (p.afterConfirmation n x t).draws = p.draws := by
  unfold Part.afterConfirmation
  split <;> simp

@[simp] theorem Part.offerSerial_keeps (p : Part) (k : BitVec 64) (a : Bool) :
    (p.offerSerial k a).1.supply = p.supply ∧ (p.offerSerial k a).1.keepValid = p.keepValid ∧
    (p.offerSerial k a).1.initialising = p.initialising ∧
    (p.offerSerial k a).1.lockoutTimer = p.lockoutTimer ∧ (p.offerSerial k a).1.walk = p.walk ∧
    (p.offerSerial k a).1.vkeep = p.vkeep ∧ (p.offerSerial k a).1.crystal = p.crystal ∧
    (p.offerSerial k a).1.tableLost = p.tableLost ∧ (p.offerSerial k a).1.intake = p.intake ∧
    (p.offerSerial k a).1.fileNumber = p.fileNumber ∧
    (p.offerSerial k a).1.fileNumberFault = p.fileNumberFault ∧ (p.offerSerial k a).1.setup = p.setup ∧
    (p.offerSerial k a).1.locked = p.locked ∧ (p.offerSerial k a).1.setupFault = p.setupFault ∧
    (p.offerSerial k a).1.setupIgnored = p.setupIgnored ∧ (p.offerSerial k a).1.awaitOrder = p.awaitOrder ∧
    (p.offerSerial k a).1.journal = p.journal ∧ (p.offerSerial k a).1.previousPage = p.previousPage ∧
    (p.offerSerial k a).1.monitor = p.monitor ∧ (p.offerSerial k a).1.clock = p.clock ∧
    (p.offerSerial k a).1.follow = p.follow ∧ (p.offerSerial k a).1.sweep = p.sweep ∧
    (p.offerSerial k a).1.path = p.path ∧ (p.offerSerial k a).1.memory = p.memory ∧
    (p.offerSerial k a).1.memoryEpoch = p.memoryEpoch ∧ (p.offerSerial k a).1.draws = p.draws := by
  unfold Part.offerSerial
  dsimp only
  repeat' split
  all_goals simp

@[simp] theorem Part.takeAmending_keeps
    (p : Part) (n : Fin 4) (s : List Word) (w : List Lanes) (d : Amending) (e : Nat) (a : BitVec 32) (i : List Word) :
    (p.takeAmending n s w d e a i).supply = p.supply ∧
    (p.takeAmending n s w d e a i).keepValid = p.keepValid ∧
    (p.takeAmending n s w d e a i).initialising = p.initialising ∧
    (p.takeAmending n s w d e a i).lockoutTimer = p.lockoutTimer ∧
    (p.takeAmending n s w d e a i).walk = p.walk ∧ (p.takeAmending n s w d e a i).vkeep = p.vkeep ∧
    (p.takeAmending n s w d e a i).crystal = p.crystal ∧
    (p.takeAmending n s w d e a i).arbiter = p.arbiter ∧
    (p.takeAmending n s w d e a i).tableLost = p.tableLost ∧
    (p.takeAmending n s w d e a i).intake = p.intake ∧
    (p.takeAmending n s w d e a i).fileNumber = p.fileNumber ∧
    (p.takeAmending n s w d e a i).fileNumberFault = p.fileNumberFault ∧
    (p.takeAmending n s w d e a i).setup = p.setup ∧ (p.takeAmending n s w d e a i).locked = p.locked ∧
    (p.takeAmending n s w d e a i).setupFault = p.setupFault ∧
    (p.takeAmending n s w d e a i).setupIgnored = p.setupIgnored ∧
    (p.takeAmending n s w d e a i).journal = p.journal ∧ (p.takeAmending n s w d e a i).queue = p.queue ∧
    (p.takeAmending n s w d e a i).counters = p.counters ∧
    (p.takeAmending n s w d e a i).previousPage = p.previousPage ∧
    (p.takeAmending n s w d e a i).monitor = p.monitor ∧ (p.takeAmending n s w d e a i).clock = p.clock ∧
    (p.takeAmending n s w d e a i).follow = p.follow ∧ (p.takeAmending n s w d e a i).sweep = p.sweep ∧
    (p.takeAmending n s w d e a i).path = p.path ∧ (p.takeAmending n s w d e a i).memory = p.memory ∧
    (p.takeAmending n s w d e a i).memoryEpoch = p.memoryEpoch ∧
    (p.takeAmending n s w d e a i).draws = p.draws := by
  unfold Part.takeAmending
  simp

@[simp] theorem Part.attentionIf_keeps (p : Part) (b : Bool) :
    (p.attentionIf b).supply = p.supply ∧ (p.attentionIf b).keepValid = p.keepValid ∧
    (p.attentionIf b).initialising = p.initialising ∧ (p.attentionIf b).lockoutTimer = p.lockoutTimer ∧
    (p.attentionIf b).walk = p.walk ∧ (p.attentionIf b).vkeep = p.vkeep ∧
    (p.attentionIf b).crystal = p.crystal ∧ (p.attentionIf b).store = p.store ∧
    (p.attentionIf b).arbiter = p.arbiter ∧ (p.attentionIf b).tableLost = p.tableLost ∧
    (p.attentionIf b).intake = p.intake ∧ (p.attentionIf b).fileNumber = p.fileNumber ∧
    (p.attentionIf b).fileNumberFault = p.fileNumberFault ∧ (p.attentionIf b).setup = p.setup ∧
    (p.attentionIf b).locked = p.locked ∧ (p.attentionIf b).setupFault = p.setupFault ∧
    (p.attentionIf b).setupIgnored = p.setupIgnored ∧ (p.attentionIf b).contexts = p.contexts ∧
    (p.attentionIf b).awaitOrder = p.awaitOrder ∧ (p.attentionIf b).journal = p.journal ∧
    (p.attentionIf b).queue = p.queue ∧ (p.attentionIf b).counters = p.counters ∧
    (p.attentionIf b).previousPage = p.previousPage ∧ (p.attentionIf b).clock = p.clock ∧
    (p.attentionIf b).follow = p.follow ∧ (p.attentionIf b).sweep = p.sweep ∧
    (p.attentionIf b).path = p.path ∧ (p.attentionIf b).memory = p.memory ∧
    (p.attentionIf b).memoryEpoch = p.memoryEpoch ∧ (p.attentionIf b).draws = p.draws := by
  unfold Part.attentionIf
  split <;> simp

@[simp] theorem Part.insertObserved_keeps (p : Part) (k : BitVec 64) (e : Entry) (b : Bool) :
    (p.insertObserved k e b).supply = p.supply ∧ (p.insertObserved k e b).keepValid = p.keepValid ∧
    (p.insertObserved k e b).initialising = p.initialising ∧
    (p.insertObserved k e b).lockoutTimer = p.lockoutTimer ∧ (p.insertObserved k e b).walk = p.walk ∧
    (p.insertObserved k e b).vkeep = p.vkeep ∧ (p.insertObserved k e b).crystal = p.crystal ∧
    (p.insertObserved k e b).store = p.store ∧ (p.insertObserved k e b).arbiter = p.arbiter ∧
    (p.insertObserved k e b).tableLost = p.tableLost ∧ (p.insertObserved k e b).intake = p.intake ∧
    (p.insertObserved k e b).fileNumber = p.fileNumber ∧
    (p.insertObserved k e b).fileNumberFault = p.fileNumberFault ∧
    (p.insertObserved k e b).setup = p.setup ∧ (p.insertObserved k e b).locked = p.locked ∧
    (p.insertObserved k e b).setupFault = p.setupFault ∧
    (p.insertObserved k e b).setupIgnored = p.setupIgnored ∧
    (p.insertObserved k e b).contexts = p.contexts ∧ (p.insertObserved k e b).awaitOrder = p.awaitOrder ∧
    (p.insertObserved k e b).journal = p.journal ∧ (p.insertObserved k e b).previousPage = p.previousPage ∧
    (p.insertObserved k e b).monitor = p.monitor ∧ (p.insertObserved k e b).clock = p.clock ∧
    (p.insertObserved k e b).follow = p.follow ∧ (p.insertObserved k e b).sweep = p.sweep ∧
    (p.insertObserved k e b).path = p.path ∧ (p.insertObserved k e b).memory = p.memory ∧
    (p.insertObserved k e b).memoryEpoch = p.memoryEpoch ∧ (p.insertObserved k e b).draws = p.draws := by
  unfold Part.insertObserved
  split <;> simp

@[simp] theorem Part.applyFound_keeps (p : Part) (n : Nat) :
    (p.applyFound n).supply = p.supply ∧ (p.applyFound n).keepValid = p.keepValid ∧
    (p.applyFound n).initialising = p.initialising ∧ (p.applyFound n).lockoutTimer = p.lockoutTimer ∧
    (p.applyFound n).walk = p.walk ∧ (p.applyFound n).vkeep = p.vkeep ∧
    (p.applyFound n).crystal = p.crystal ∧ (p.applyFound n).arbiter = p.arbiter ∧
    (p.applyFound n).tableLost = p.tableLost ∧ (p.applyFound n).intake = p.intake ∧
    (p.applyFound n).fileNumber = p.fileNumber ∧ (p.applyFound n).fileNumberFault = p.fileNumberFault ∧
    (p.applyFound n).setup = p.setup ∧ (p.applyFound n).locked = p.locked ∧
    (p.applyFound n).setupFault = p.setupFault ∧ (p.applyFound n).setupIgnored = p.setupIgnored ∧
    (p.applyFound n).contexts = p.contexts ∧ (p.applyFound n).awaitOrder = p.awaitOrder ∧
    (p.applyFound n).journal = p.journal ∧ (p.applyFound n).queue = p.queue ∧
    (p.applyFound n).counters = p.counters ∧ (p.applyFound n).previousPage = p.previousPage ∧
    (p.applyFound n).monitor = p.monitor ∧ (p.applyFound n).clock = p.clock ∧
    (p.applyFound n).follow = p.follow ∧ (p.applyFound n).sweep = p.sweep ∧
    (p.applyFound n).path = p.path ∧ (p.applyFound n).memory = p.memory ∧
    (p.applyFound n).memoryEpoch = p.memoryEpoch ∧ (p.applyFound n).draws = p.draws := by
  unfold Part.applyFound
  split <;> simp

@[simp] theorem Part.carryDecision_keeps
    (p : Part) (n : Fin 4) (s : List Word) (w : List Lanes) (m : Nat) (e : Entry) (d : Decision) :
    (p.carryDecision n s w m e d).supply = p.supply ∧
    (p.carryDecision n s w m e d).keepValid = p.keepValid ∧
    (p.carryDecision n s w m e d).initialising = p.initialising ∧
    (p.carryDecision n s w m e d).lockoutTimer = p.lockoutTimer ∧
    (p.carryDecision n s w m e d).walk = p.walk ∧ (p.carryDecision n s w m e d).vkeep = p.vkeep ∧
    (p.carryDecision n s w m e d).crystal = p.crystal ∧ (p.carryDecision n s w m e d).arbiter = p.arbiter ∧
    (p.carryDecision n s w m e d).tableLost = p.tableLost ∧
    (p.carryDecision n s w m e d).intake = p.intake ∧
    (p.carryDecision n s w m e d).fileNumber = p.fileNumber ∧
    (p.carryDecision n s w m e d).fileNumberFault = p.fileNumberFault ∧
    (p.carryDecision n s w m e d).setup = p.setup ∧ (p.carryDecision n s w m e d).locked = p.locked ∧
    (p.carryDecision n s w m e d).setupFault = p.setupFault ∧
    (p.carryDecision n s w m e d).setupIgnored = p.setupIgnored ∧
    (p.carryDecision n s w m e d).journal = p.journal ∧
    (p.carryDecision n s w m e d).previousPage = p.previousPage ∧
    (p.carryDecision n s w m e d).clock = p.clock ∧ (p.carryDecision n s w m e d).follow = p.follow ∧
    (p.carryDecision n s w m e d).sweep = p.sweep ∧ (p.carryDecision n s w m e d).path = p.path ∧
    (p.carryDecision n s w m e d).memory = p.memory ∧
    (p.carryDecision n s w m e d).memoryEpoch = p.memoryEpoch ∧
    (p.carryDecision n s w m e d).draws = p.draws := by
  unfold Part.carryDecision
  split <;> simp

@[simp] theorem Part.decideLookup_keeps (p : Part) (n : Fin 4) (s : List Word) (w : List Lanes) :
    (p.decideLookup n s w).supply = p.supply ∧ (p.decideLookup n s w).keepValid = p.keepValid ∧
    (p.decideLookup n s w).initialising = p.initialising ∧
    (p.decideLookup n s w).lockoutTimer = p.lockoutTimer ∧ (p.decideLookup n s w).walk = p.walk ∧
    (p.decideLookup n s w).vkeep = p.vkeep ∧ (p.decideLookup n s w).crystal = p.crystal ∧
    (p.decideLookup n s w).arbiter = p.arbiter ∧ (p.decideLookup n s w).tableLost = p.tableLost ∧
    (p.decideLookup n s w).intake = p.intake ∧ (p.decideLookup n s w).fileNumber = p.fileNumber ∧
    (p.decideLookup n s w).fileNumberFault = p.fileNumberFault ∧ (p.decideLookup n s w).setup = p.setup ∧
    (p.decideLookup n s w).locked = p.locked ∧ (p.decideLookup n s w).setupFault = p.setupFault ∧
    (p.decideLookup n s w).setupIgnored = p.setupIgnored ∧ (p.decideLookup n s w).journal = p.journal ∧
    (p.decideLookup n s w).previousPage = p.previousPage ∧ (p.decideLookup n s w).clock = p.clock ∧
    (p.decideLookup n s w).follow = p.follow ∧ (p.decideLookup n s w).sweep = p.sweep ∧
    (p.decideLookup n s w).memory = p.memory ∧ (p.decideLookup n s w).memoryEpoch = p.memoryEpoch ∧
    (p.decideLookup n s w).draws = p.draws := by
  unfold Part.decideLookup
  split <;> simp

end Sys2Proof.Machine
end

