-- ==== Sys2Proof/Laws/Journal.lean ====
section
/-! SUPPORT. The operations of the journal watcher: what each leaves as it was, and when a tap record's
annex is due. -/

namespace Sys2Proof.Machine

@[simp] theorem Assembly.annexDue_unclosed (a : Assembly) (h : a.closing = none) : a.annexDue = a.role.annex := by
  simp [Assembly.annexDue, h]

@[simp] theorem Assembly.annexDue_closed (a : Assembly) (h : a.closing ≠ none) : a.annexDue = none := by
  cases hc : a.closing
  · exact absurd hc h
  · simp [Assembly.annexDue, hc]

@[simp] theorem Part.completePage_keeps (p : Part) (g : Page) :
    (p.completePage g).supply = p.supply ∧ (p.completePage g).keepValid = p.keepValid ∧
    (p.completePage g).initialising = p.initialising ∧ (p.completePage g).lockoutTimer = p.lockoutTimer ∧
    (p.completePage g).walk = p.walk ∧ (p.completePage g).vkeep = p.vkeep ∧
    (p.completePage g).crystal = p.crystal ∧ (p.completePage g).store = p.store ∧
    (p.completePage g).arbiter = p.arbiter ∧ (p.completePage g).tableLost = p.tableLost ∧
    (p.completePage g).intake = p.intake ∧ (p.completePage g).fileNumber = p.fileNumber ∧
    (p.completePage g).fileNumberFault = p.fileNumberFault ∧ (p.completePage g).setup = p.setup ∧
    (p.completePage g).locked = p.locked ∧ (p.completePage g).setupFault = p.setupFault ∧
    (p.completePage g).setupIgnored = p.setupIgnored ∧ (p.completePage g).contexts = p.contexts ∧
    (p.completePage g).awaitOrder = p.awaitOrder ∧ (p.completePage g).journal = p.journal ∧
    (p.completePage g).monitor = p.monitor ∧ (p.completePage g).clock = p.clock ∧
    (p.completePage g).follow = p.follow ∧ (p.completePage g).sweep = p.sweep ∧
    (p.completePage g).path = p.path ∧ (p.completePage g).memory = p.memory ∧
    (p.completePage g).memoryEpoch = p.memoryEpoch ∧ (p.completePage g).draws = p.draws := by
  unfold Part.completePage
  split <;> simp

@[simp] theorem Part.completeReport_keeps (p : Part) (r : Report) :
    (p.completeReport r).supply = p.supply ∧ (p.completeReport r).keepValid = p.keepValid ∧
    (p.completeReport r).initialising = p.initialising ∧
    (p.completeReport r).lockoutTimer = p.lockoutTimer ∧ (p.completeReport r).walk = p.walk ∧
    (p.completeReport r).vkeep = p.vkeep ∧ (p.completeReport r).crystal = p.crystal ∧
    (p.completeReport r).store = p.store ∧ (p.completeReport r).arbiter = p.arbiter ∧
    (p.completeReport r).intake = p.intake ∧ (p.completeReport r).fileNumber = p.fileNumber ∧
    (p.completeReport r).fileNumberFault = p.fileNumberFault ∧ (p.completeReport r).setup = p.setup ∧
    (p.completeReport r).locked = p.locked ∧ (p.completeReport r).setupFault = p.setupFault ∧
    (p.completeReport r).contexts = p.contexts ∧ (p.completeReport r).awaitOrder = p.awaitOrder ∧
    (p.completeReport r).journal = p.journal ∧ (p.completeReport r).monitor = p.monitor ∧
    (p.completeReport r).clock = p.clock ∧ (p.completeReport r).follow = p.follow ∧
    (p.completeReport r).sweep = p.sweep ∧ (p.completeReport r).path = p.path ∧
    (p.completeReport r).memory = p.memory ∧ (p.completeReport r).memoryEpoch = p.memoryEpoch ∧
    (p.completeReport r).draws = p.draws := by
  unfold Part.completeReport
  simp

@[simp] theorem Part.abandonAssembly_keeps (p : Part) :
    (p.abandonAssembly).supply = p.supply ∧ (p.abandonAssembly).keepValid = p.keepValid ∧
    (p.abandonAssembly).initialising = p.initialising ∧ (p.abandonAssembly).lockoutTimer = p.lockoutTimer ∧
    (p.abandonAssembly).walk = p.walk ∧ (p.abandonAssembly).vkeep = p.vkeep ∧
    (p.abandonAssembly).crystal = p.crystal ∧ (p.abandonAssembly).store = p.store ∧
    (p.abandonAssembly).arbiter = p.arbiter ∧ (p.abandonAssembly).tableLost = p.tableLost ∧
    (p.abandonAssembly).intake = p.intake ∧ (p.abandonAssembly).fileNumber = p.fileNumber ∧
    (p.abandonAssembly).fileNumberFault = p.fileNumberFault ∧ (p.abandonAssembly).setup = p.setup ∧
    (p.abandonAssembly).locked = p.locked ∧ (p.abandonAssembly).setupFault = p.setupFault ∧
    (p.abandonAssembly).setupIgnored = p.setupIgnored ∧ (p.abandonAssembly).contexts = p.contexts ∧
    (p.abandonAssembly).awaitOrder = p.awaitOrder ∧ (p.abandonAssembly).counters = p.counters ∧
    (p.abandonAssembly).previousPage = p.previousPage ∧ (p.abandonAssembly).monitor = p.monitor ∧
    (p.abandonAssembly).clock = p.clock ∧ (p.abandonAssembly).follow = p.follow ∧
    (p.abandonAssembly).sweep = p.sweep ∧ (p.abandonAssembly).path = p.path ∧
    (p.abandonAssembly).memory = p.memory ∧ (p.abandonAssembly).memoryEpoch = p.memoryEpoch ∧
    (p.abandonAssembly).draws = p.draws := by
  unfold Part.abandonAssembly
  repeat' split
  all_goals simp

@[simp] theorem Part.settleRole_keeps (p : Part) (k : Byte) :
    (p.settleRole k).1.supply = p.supply ∧ (p.settleRole k).1.keepValid = p.keepValid ∧
    (p.settleRole k).1.initialising = p.initialising ∧ (p.settleRole k).1.lockoutTimer = p.lockoutTimer ∧
    (p.settleRole k).1.walk = p.walk ∧ (p.settleRole k).1.vkeep = p.vkeep ∧
    (p.settleRole k).1.crystal = p.crystal ∧ (p.settleRole k).1.store = p.store ∧
    (p.settleRole k).1.arbiter = p.arbiter ∧ (p.settleRole k).1.tableLost = p.tableLost ∧
    (p.settleRole k).1.intake = p.intake ∧ (p.settleRole k).1.fileNumber = p.fileNumber ∧
    (p.settleRole k).1.fileNumberFault = p.fileNumberFault ∧ (p.settleRole k).1.setup = p.setup ∧
    (p.settleRole k).1.locked = p.locked ∧ (p.settleRole k).1.setupFault = p.setupFault ∧
    (p.settleRole k).1.setupIgnored = p.setupIgnored ∧ (p.settleRole k).1.contexts = p.contexts ∧
    (p.settleRole k).1.awaitOrder = p.awaitOrder ∧ (p.settleRole k).1.journal = p.journal ∧
    (p.settleRole k).1.queue = p.queue ∧ (p.settleRole k).1.previousPage = p.previousPage ∧
    (p.settleRole k).1.monitor = p.monitor ∧ (p.settleRole k).1.clock = p.clock ∧
    (p.settleRole k).1.follow = p.follow ∧ (p.settleRole k).1.sweep = p.sweep ∧
    (p.settleRole k).1.path = p.path ∧ (p.settleRole k).1.memory = p.memory ∧
    (p.settleRole k).1.memoryEpoch = p.memoryEpoch ∧ (p.settleRole k).1.draws = p.draws := by
  unfold Part.settleRole
  split <;> simp

@[simp] theorem Part.enterWordZero_keeps (p : Part) (a : Assembly) (b : LaneBytes) :
    (p.enterWordZero a b).supply = p.supply ∧ (p.enterWordZero a b).keepValid = p.keepValid ∧
    (p.enterWordZero a b).initialising = p.initialising ∧
    (p.enterWordZero a b).lockoutTimer = p.lockoutTimer ∧ (p.enterWordZero a b).walk = p.walk ∧
    (p.enterWordZero a b).vkeep = p.vkeep ∧ (p.enterWordZero a b).crystal = p.crystal ∧
    (p.enterWordZero a b).store = p.store ∧ (p.enterWordZero a b).arbiter = p.arbiter ∧
    (p.enterWordZero a b).tableLost = p.tableLost ∧ (p.enterWordZero a b).intake = p.intake ∧
    (p.enterWordZero a b).fileNumber = p.fileNumber ∧
    (p.enterWordZero a b).fileNumberFault = p.fileNumberFault ∧ (p.enterWordZero a b).setup = p.setup ∧
    (p.enterWordZero a b).locked = p.locked ∧ (p.enterWordZero a b).setupFault = p.setupFault ∧
    (p.enterWordZero a b).setupIgnored = p.setupIgnored ∧ (p.enterWordZero a b).contexts = p.contexts ∧
    (p.enterWordZero a b).awaitOrder = p.awaitOrder ∧ (p.enterWordZero a b).queue = p.queue ∧
    (p.enterWordZero a b).previousPage = p.previousPage ∧ (p.enterWordZero a b).monitor = p.monitor ∧
    (p.enterWordZero a b).clock = p.clock ∧ (p.enterWordZero a b).follow = p.follow ∧
    (p.enterWordZero a b).sweep = p.sweep ∧ (p.enterWordZero a b).path = p.path ∧
    (p.enterWordZero a b).memory = p.memory ∧ (p.enterWordZero a b).memoryEpoch = p.memoryEpoch ∧
    (p.enterWordZero a b).draws = p.draws := by
  unfold Part.enterWordZero
  dsimp only
  repeat' split
  all_goals simp

@[simp] theorem Part.beginAssembly_keeps (p : Part) (r : Nat) (b : LaneBytes) :
    (p.beginAssembly r b).supply = p.supply ∧ (p.beginAssembly r b).keepValid = p.keepValid ∧
    (p.beginAssembly r b).initialising = p.initialising ∧
    (p.beginAssembly r b).lockoutTimer = p.lockoutTimer ∧ (p.beginAssembly r b).walk = p.walk ∧
    (p.beginAssembly r b).vkeep = p.vkeep ∧ (p.beginAssembly r b).crystal = p.crystal ∧
    (p.beginAssembly r b).store = p.store ∧ (p.beginAssembly r b).arbiter = p.arbiter ∧
    (p.beginAssembly r b).tableLost = p.tableLost ∧ (p.beginAssembly r b).intake = p.intake ∧
    (p.beginAssembly r b).fileNumber = p.fileNumber ∧
    (p.beginAssembly r b).fileNumberFault = p.fileNumberFault ∧ (p.beginAssembly r b).setup = p.setup ∧
    (p.beginAssembly r b).locked = p.locked ∧ (p.beginAssembly r b).setupFault = p.setupFault ∧
    (p.beginAssembly r b).setupIgnored = p.setupIgnored ∧ (p.beginAssembly r b).contexts = p.contexts ∧
    (p.beginAssembly r b).awaitOrder = p.awaitOrder ∧ (p.beginAssembly r b).previousPage = p.previousPage ∧
    (p.beginAssembly r b).monitor = p.monitor ∧ (p.beginAssembly r b).clock = p.clock ∧
    (p.beginAssembly r b).follow = p.follow ∧ (p.beginAssembly r b).sweep = p.sweep ∧
    (p.beginAssembly r b).path = p.path ∧ (p.beginAssembly r b).memory = p.memory ∧
    (p.beginAssembly r b).memoryEpoch = p.memoryEpoch ∧ (p.beginAssembly r b).draws = p.draws := by
  unfold Part.beginAssembly
  simp

@[simp] theorem Part.journalWordZero_keeps (p : Part) (r : Nat) (b : LaneBytes) :
    (p.journalWordZero r b).supply = p.supply ∧ (p.journalWordZero r b).keepValid = p.keepValid ∧
    (p.journalWordZero r b).initialising = p.initialising ∧
    (p.journalWordZero r b).lockoutTimer = p.lockoutTimer ∧ (p.journalWordZero r b).walk = p.walk ∧
    (p.journalWordZero r b).vkeep = p.vkeep ∧ (p.journalWordZero r b).crystal = p.crystal ∧
    (p.journalWordZero r b).store = p.store ∧ (p.journalWordZero r b).arbiter = p.arbiter ∧
    (p.journalWordZero r b).tableLost = p.tableLost ∧ (p.journalWordZero r b).intake = p.intake ∧
    (p.journalWordZero r b).fileNumber = p.fileNumber ∧
    (p.journalWordZero r b).fileNumberFault = p.fileNumberFault ∧ (p.journalWordZero r b).setup = p.setup ∧
    (p.journalWordZero r b).locked = p.locked ∧ (p.journalWordZero r b).setupFault = p.setupFault ∧
    (p.journalWordZero r b).setupIgnored = p.setupIgnored ∧ (p.journalWordZero r b).contexts = p.contexts ∧
    (p.journalWordZero r b).awaitOrder = p.awaitOrder ∧
    (p.journalWordZero r b).previousPage = p.previousPage ∧ (p.journalWordZero r b).monitor = p.monitor ∧
    (p.journalWordZero r b).clock = p.clock ∧ (p.journalWordZero r b).follow = p.follow ∧
    (p.journalWordZero r b).sweep = p.sweep ∧ (p.journalWordZero r b).path = p.path ∧
    (p.journalWordZero r b).memory = p.memory ∧ (p.journalWordZero r b).memoryEpoch = p.memoryEpoch ∧
    (p.journalWordZero r b).draws = p.draws := by
  unfold Part.journalWordZero
  repeat' split
  all_goals simp

@[simp] theorem Part.passedWrite_keeps (p : Part) (a : Assembly) (k : Nat) (b : LaneBytes) :
    (p.passedWrite a k b).1.supply = p.supply ∧ (p.passedWrite a k b).1.keepValid = p.keepValid ∧
    (p.passedWrite a k b).1.initialising = p.initialising ∧
    (p.passedWrite a k b).1.lockoutTimer = p.lockoutTimer ∧ (p.passedWrite a k b).1.walk = p.walk ∧
    (p.passedWrite a k b).1.vkeep = p.vkeep ∧ (p.passedWrite a k b).1.crystal = p.crystal ∧
    (p.passedWrite a k b).1.store = p.store ∧ (p.passedWrite a k b).1.arbiter = p.arbiter ∧
    (p.passedWrite a k b).1.tableLost = p.tableLost ∧ (p.passedWrite a k b).1.intake = p.intake ∧
    (p.passedWrite a k b).1.fileNumber = p.fileNumber ∧
    (p.passedWrite a k b).1.fileNumberFault = p.fileNumberFault ∧ (p.passedWrite a k b).1.setup = p.setup ∧
    (p.passedWrite a k b).1.locked = p.locked ∧ (p.passedWrite a k b).1.setupFault = p.setupFault ∧
    (p.passedWrite a k b).1.setupIgnored = p.setupIgnored ∧ (p.passedWrite a k b).1.contexts = p.contexts ∧
    (p.passedWrite a k b).1.awaitOrder = p.awaitOrder ∧ (p.passedWrite a k b).1.queue = p.queue ∧
    (p.passedWrite a k b).1.counters = p.counters ∧ (p.passedWrite a k b).1.previousPage = p.previousPage ∧
    (p.passedWrite a k b).1.monitor = p.monitor ∧ (p.passedWrite a k b).1.clock = p.clock ∧
    (p.passedWrite a k b).1.follow = p.follow ∧ (p.passedWrite a k b).1.sweep = p.sweep ∧
    (p.passedWrite a k b).1.path = p.path ∧ (p.passedWrite a k b).1.memory = p.memory ∧
    (p.passedWrite a k b).1.memoryEpoch = p.memoryEpoch ∧ (p.passedWrite a k b).1.draws = p.draws := by
  simp only [Part.passedWrite, Part.withAssembly]
  split <;> simp

@[simp] theorem Part.substitutedWrite_keeps (p : Part) (a : Assembly) (k : Nat) (b : LaneBytes) (w : Word) :
    (p.substitutedWrite a k b w).1.supply = p.supply ∧
    (p.substitutedWrite a k b w).1.keepValid = p.keepValid ∧
    (p.substitutedWrite a k b w).1.initialising = p.initialising ∧
    (p.substitutedWrite a k b w).1.lockoutTimer = p.lockoutTimer ∧
    (p.substitutedWrite a k b w).1.walk = p.walk ∧ (p.substitutedWrite a k b w).1.vkeep = p.vkeep ∧
    (p.substitutedWrite a k b w).1.crystal = p.crystal ∧ (p.substitutedWrite a k b w).1.store = p.store ∧
    (p.substitutedWrite a k b w).1.arbiter = p.arbiter ∧
    (p.substitutedWrite a k b w).1.tableLost = p.tableLost ∧
    (p.substitutedWrite a k b w).1.intake = p.intake ∧
    (p.substitutedWrite a k b w).1.fileNumber = p.fileNumber ∧
    (p.substitutedWrite a k b w).1.fileNumberFault = p.fileNumberFault ∧
    (p.substitutedWrite a k b w).1.setup = p.setup ∧ (p.substitutedWrite a k b w).1.locked = p.locked ∧
    (p.substitutedWrite a k b w).1.setupFault = p.setupFault ∧
    (p.substitutedWrite a k b w).1.setupIgnored = p.setupIgnored ∧
    (p.substitutedWrite a k b w).1.contexts = p.contexts ∧
    (p.substitutedWrite a k b w).1.awaitOrder = p.awaitOrder ∧
    (p.substitutedWrite a k b w).1.queue = p.queue ∧ (p.substitutedWrite a k b w).1.counters = p.counters ∧
    (p.substitutedWrite a k b w).1.previousPage = p.previousPage ∧
    (p.substitutedWrite a k b w).1.monitor = p.monitor ∧ (p.substitutedWrite a k b w).1.clock = p.clock ∧
    (p.substitutedWrite a k b w).1.follow = p.follow ∧ (p.substitutedWrite a k b w).1.sweep = p.sweep ∧
    (p.substitutedWrite a k b w).1.path = p.path ∧ (p.substitutedWrite a k b w).1.memory = p.memory ∧
    (p.substitutedWrite a k b w).1.memoryEpoch = p.memoryEpoch ∧
    (p.substitutedWrite a k b w).1.draws = p.draws := by
  simp only [Part.substitutedWrite, Part.withAssembly]
  split <;> simp

@[simp] theorem Part.tapWrite_keeps
    (p : Part) (a : Assembly) (f : Bool) (m : TapMatch) (e : Bool) (k : Nat) (b : LaneBytes) :
    (p.tapWrite a f m e k b).1.supply = p.supply ∧ (p.tapWrite a f m e k b).1.keepValid = p.keepValid ∧
    (p.tapWrite a f m e k b).1.initialising = p.initialising ∧
    (p.tapWrite a f m e k b).1.lockoutTimer = p.lockoutTimer ∧ (p.tapWrite a f m e k b).1.walk = p.walk ∧
    (p.tapWrite a f m e k b).1.vkeep = p.vkeep ∧ (p.tapWrite a f m e k b).1.crystal = p.crystal ∧
    (p.tapWrite a f m e k b).1.tableLost = p.tableLost ∧ (p.tapWrite a f m e k b).1.intake = p.intake ∧
    (p.tapWrite a f m e k b).1.fileNumber = p.fileNumber ∧
    (p.tapWrite a f m e k b).1.fileNumberFault = p.fileNumberFault ∧
    (p.tapWrite a f m e k b).1.setup = p.setup ∧ (p.tapWrite a f m e k b).1.locked = p.locked ∧
    (p.tapWrite a f m e k b).1.setupFault = p.setupFault ∧
    (p.tapWrite a f m e k b).1.setupIgnored = p.setupIgnored ∧
    (p.tapWrite a f m e k b).1.awaitOrder = p.awaitOrder ∧
    (p.tapWrite a f m e k b).1.previousPage = p.previousPage ∧
    (p.tapWrite a f m e k b).1.monitor = p.monitor ∧ (p.tapWrite a f m e k b).1.clock = p.clock ∧
    (p.tapWrite a f m e k b).1.follow = p.follow ∧ (p.tapWrite a f m e k b).1.sweep = p.sweep ∧
    (p.tapWrite a f m e k b).1.path = p.path ∧ (p.tapWrite a f m e k b).1.memory = p.memory ∧
    (p.tapWrite a f m e k b).1.memoryEpoch = p.memoryEpoch ∧ (p.tapWrite a f m e k b).1.draws = p.draws := by
  unfold Part.tapWrite Part.closingWrite
  simp only [Part.withAssembly]
  repeat' split
  all_goals simp

@[simp] theorem Part.heartbeatWrite_keeps (p : Part) (a : Assembly) (r : Report) (k : Nat) (b : LaneBytes) :
    (p.heartbeatWrite a r k b).1.supply = p.supply ∧ (p.heartbeatWrite a r k b).1.keepValid = p.keepValid ∧
    (p.heartbeatWrite a r k b).1.initialising = p.initialising ∧
    (p.heartbeatWrite a r k b).1.lockoutTimer = p.lockoutTimer ∧
    (p.heartbeatWrite a r k b).1.walk = p.walk ∧ (p.heartbeatWrite a r k b).1.vkeep = p.vkeep ∧
    (p.heartbeatWrite a r k b).1.crystal = p.crystal ∧ (p.heartbeatWrite a r k b).1.store = p.store ∧
    (p.heartbeatWrite a r k b).1.arbiter = p.arbiter ∧ (p.heartbeatWrite a r k b).1.intake = p.intake ∧
    (p.heartbeatWrite a r k b).1.fileNumber = p.fileNumber ∧
    (p.heartbeatWrite a r k b).1.fileNumberFault = p.fileNumberFault ∧
    (p.heartbeatWrite a r k b).1.setup = p.setup ∧ (p.heartbeatWrite a r k b).1.locked = p.locked ∧
    (p.heartbeatWrite a r k b).1.setupFault = p.setupFault ∧
    (p.heartbeatWrite a r k b).1.contexts = p.contexts ∧
    (p.heartbeatWrite a r k b).1.awaitOrder = p.awaitOrder ∧
    (p.heartbeatWrite a r k b).1.monitor = p.monitor ∧ (p.heartbeatWrite a r k b).1.clock = p.clock ∧
    (p.heartbeatWrite a r k b).1.follow = p.follow ∧ (p.heartbeatWrite a r k b).1.sweep = p.sweep ∧
    (p.heartbeatWrite a r k b).1.path = p.path ∧ (p.heartbeatWrite a r k b).1.memory = p.memory ∧
    (p.heartbeatWrite a r k b).1.memoryEpoch = p.memoryEpoch ∧ (p.heartbeatWrite a r k b).1.draws = p.draws := by
  unfold Part.heartbeatWrite
  split
  · simp
  split
  · simp
  unfold Part.closingWrite
  simp only [Part.withAssembly]
  repeat' split
  all_goals simp

@[simp] theorem Part.recordWrite_keeps (p : Part) (a : Assembly) (k : Nat) (b : LaneBytes) :
    (p.recordWrite a k b).1.supply = p.supply ∧ (p.recordWrite a k b).1.keepValid = p.keepValid ∧
    (p.recordWrite a k b).1.initialising = p.initialising ∧
    (p.recordWrite a k b).1.lockoutTimer = p.lockoutTimer ∧ (p.recordWrite a k b).1.walk = p.walk ∧
    (p.recordWrite a k b).1.vkeep = p.vkeep ∧ (p.recordWrite a k b).1.crystal = p.crystal ∧
    (p.recordWrite a k b).1.intake = p.intake ∧ (p.recordWrite a k b).1.fileNumber = p.fileNumber ∧
    (p.recordWrite a k b).1.fileNumberFault = p.fileNumberFault ∧ (p.recordWrite a k b).1.setup = p.setup ∧
    (p.recordWrite a k b).1.locked = p.locked ∧ (p.recordWrite a k b).1.setupFault = p.setupFault ∧
    (p.recordWrite a k b).1.awaitOrder = p.awaitOrder ∧ (p.recordWrite a k b).1.monitor = p.monitor ∧
    (p.recordWrite a k b).1.clock = p.clock ∧ (p.recordWrite a k b).1.follow = p.follow ∧
    (p.recordWrite a k b).1.sweep = p.sweep ∧ (p.recordWrite a k b).1.path = p.path ∧
    (p.recordWrite a k b).1.memory = p.memory ∧ (p.recordWrite a k b).1.memoryEpoch = p.memoryEpoch ∧
    (p.recordWrite a k b).1.draws = p.draws := by
  unfold Part.recordWrite
  split <;> simp

@[simp] theorem Part.journalWrite_keeps (p : Part) (r k : Nat) (b : LaneBytes) :
    (p.journalWrite r k b).1.supply = p.supply ∧ (p.journalWrite r k b).1.keepValid = p.keepValid ∧
    (p.journalWrite r k b).1.initialising = p.initialising ∧
    (p.journalWrite r k b).1.lockoutTimer = p.lockoutTimer ∧ (p.journalWrite r k b).1.walk = p.walk ∧
    (p.journalWrite r k b).1.vkeep = p.vkeep ∧ (p.journalWrite r k b).1.crystal = p.crystal ∧
    (p.journalWrite r k b).1.intake = p.intake ∧ (p.journalWrite r k b).1.fileNumber = p.fileNumber ∧
    (p.journalWrite r k b).1.fileNumberFault = p.fileNumberFault ∧
    (p.journalWrite r k b).1.setup = p.setup ∧ (p.journalWrite r k b).1.locked = p.locked ∧
    (p.journalWrite r k b).1.setupFault = p.setupFault ∧
    (p.journalWrite r k b).1.awaitOrder = p.awaitOrder ∧ (p.journalWrite r k b).1.monitor = p.monitor ∧
    (p.journalWrite r k b).1.clock = p.clock ∧ (p.journalWrite r k b).1.follow = p.follow ∧
    (p.journalWrite r k b).1.sweep = p.sweep ∧ (p.journalWrite r k b).1.path = p.path ∧
    (p.journalWrite r k b).1.memory = p.memory ∧ (p.journalWrite r k b).1.memoryEpoch = p.memoryEpoch ∧
    (p.journalWrite r k b).1.draws = p.draws := by
  unfold Part.journalWrite
  repeat' split
  all_goals simp

end Sys2Proof.Machine
end

