-- ==== Sys2Proof/Laws/Sparse.lean ====
section
/-! SUPPORT. Data by number: what a lookup finds after an insertion or an erasure, and that both keep the numbers
strictly rising. -/

namespace Sys2Proof.Machine

theorem Sparse.find_of_lt {α : Type} (m : Sparse α) (k : Nat) (h : ∀ x ∈ m, k < x.1) : Sparse.find m k = none := by
  induction m with
  | nil => rfl
  | cons x m ih =>
    have hx := h x (List.mem_cons_self ..)
    rw [Sparse.find, if_neg (by omega)]
    exact ih fun y hy => h y (List.mem_cons_of_mem _ hy)

theorem Sparse.mem_insert {α : Type} (m : Sparse α) (k : Nat) (v : α) (x : Nat × α) (h : x ∈ Sparse.insert m k v) :
    x = (k, v) ∨ x ∈ m := by
  induction m with
  | nil => simpa [Sparse.insert] using h
  | cons y m ih =>
    rw [Sparse.insert] at h
    split at h
    · simpa using h
    split at h
    · rcases List.mem_cons.1 h with h | h
      · exact .inl h
      · exact .inr (List.mem_cons_of_mem _ h)
    · rcases List.mem_cons.1 h with h | h
      · exact .inr (h ▸ List.mem_cons_self ..)
      · exact (ih h).imp_right (List.mem_cons_of_mem _)

theorem Sparse.mem_erase {α : Type} (m : Sparse α) (k : Nat) (x : Nat × α) (h : x ∈ Sparse.erase m k) : x ∈ m := by
  induction m with
  | nil => simp [Sparse.erase] at h
  | cons y m ih =>
    rw [Sparse.erase] at h
    split at h
    · exact List.mem_cons_of_mem _ h
    · rcases List.mem_cons.1 h with h | h
      · exact h ▸ List.mem_cons_self ..
      · exact List.mem_cons_of_mem _ (ih h)

theorem Sparse.insert_rising {α : Type} (m : Sparse α) (k : Nat) (v : α) (h : Sparse.rising m) :
    Sparse.rising (Sparse.insert m k v) := by
  induction m with
  | nil => simp [Sparse.insert]
  | cons y m ih =>
    obtain ⟨hy, hm⟩ := List.pairwise_cons.1 h
    rw [Sparse.insert]
    split
    · refine List.pairwise_cons.2 ⟨fun x hx => ?_, h⟩
      rcases List.mem_cons.1 hx with rfl | hx
      · assumption
      · exact Nat.lt_trans ‹_› (hy x hx)
    split
    · exact List.pairwise_cons.2 ⟨fun x hx => by have := hy x hx; dsimp only; omega, hm⟩
    · refine List.pairwise_cons.2 ⟨fun x hx => ?_, ih hm⟩
      rcases Sparse.mem_insert m k v x hx with rfl | hx
      · dsimp only; omega
      · exact hy x hx

theorem Sparse.erase_rising {α : Type} (m : Sparse α) (k : Nat) (h : Sparse.rising m) :
    Sparse.rising (Sparse.erase m k) := by
  induction m with
  | nil => exact h
  | cons y m ih =>
    obtain ⟨hy, hm⟩ := List.pairwise_cons.1 h
    rw [Sparse.erase]
    split
    · exact hm
    · exact List.pairwise_cons.2 ⟨fun x hx => hy x (Sparse.mem_erase m k x hx), ih hm⟩

@[simp] theorem Sparse.find_insert {α : Type} (m : Sparse α) (k : Nat) (v : α) (j : Nat) :
    Sparse.find (Sparse.insert m k v) j = if j = k then some v else Sparse.find m j := by
  induction m with
  | nil => simp only [Sparse.insert, Sparse.find, eq_comm]
  | cons y m ih =>
    rw [Sparse.insert]
    split
    · simp only [Sparse.find, eq_comm]
    split
    · rename_i h
      simp only [Sparse.find]
      by_cases hj : j = k
      · simp [hj]
      · simp [hj, Ne.symm hj, ← h]
    · rw [Sparse.find, Sparse.find, ih]
      by_cases h1 : y.1 = j
      · simp only [h1, if_true]
        rw [if_neg]
        omega
      · simp only [h1, if_false]

theorem Sparse.find_erase {α : Type} (m : Sparse α) (k : Nat) (j : Nat) (h : Sparse.rising m) :
    Sparse.find (Sparse.erase m k) j = if j = k then none else Sparse.find m j := by
  induction m with
  | nil => simp [Sparse.erase, Sparse.find]
  | cons y m ih =>
    obtain ⟨hy, hm⟩ := List.pairwise_cons.1 h
    rw [Sparse.erase]
    split
    · rename_i hk
      by_cases hj : j = k
      · rw [if_pos hj, Sparse.find_of_lt m j fun x hx => by have := hy x hx; omega]
      · rw [if_neg hj, Sparse.find, if_neg (by omega)]
    · rw [Sparse.find, Sparse.find, ih hm]
      by_cases h1 : y.1 = j
      · rw [if_pos h1, if_pos h1, if_neg (by omega)]
      · rw [if_neg h1, if_neg h1]

theorem Sparse.mem_of_find {α : Type} (m : Sparse α) (k : Nat) (v : α) (h : Sparse.find m k = some v) :
    (k, v) ∈ m := by
  induction m with
  | nil => simp [Sparse.find] at h
  | cons y m ih =>
    rw [Sparse.find] at h
    split at h
    · rename_i hk
      cases h
      exact hk ▸ List.mem_cons_self ..
    · exact List.mem_cons_of_mem _ (ih h)

theorem Sparse.find_of_mem {α : Type} (m : Sparse α) (k : Nat) (v : α) (h : Sparse.rising m) (hm : (k, v) ∈ m) :
    Sparse.find m k = some v := by
  induction m with
  | nil => simp at hm
  | cons y m ih =>
    obtain ⟨hy, hr⟩ := List.pairwise_cons.1 h
    rcases List.mem_cons.1 hm with rfl | hm
    · simp [Sparse.find]
    · have := hy _ hm
      rw [Sparse.find, if_neg (by simp at this; omega)]
      exact ih hr hm

end Sys2Proof.Machine
end

