-- ==== Sys2Proof/Laws/Memory.lean ====
section
/-! SUPPORT. The memory behind the part: every operation keeps its canonical form, and what a byte reads as after a
write. -/

namespace Sys2Proof.Machine

theorem Memory.wf_nil : Memory.wf [] := ⟨List.Pairwise.nil, fun _ h => absurd h List.not_mem_nil⟩

theorem Memory.writeByte_wf (m : Memory) (a : Nat) (b : Option Byte) (h : Memory.wf m) (ha : a < 16777216) :
    Memory.wf (Memory.writeByte m a b) := by
  cases b with
  | none => exact h
  | some v =>
    refine ⟨Sparse.insert_rising m a v h.1, fun c hc => ?_⟩
    rcases Sparse.mem_insert m a v c hc with rfl | hc
    · exact ha
    · exact h.2 c hc

theorem Memory.writeWord_wf (m : Memory) (w : BitVec 23) (b : LaneBytes) (h : Memory.wf m) :
    Memory.wf (Memory.writeWord m w b) := by
  have hw := w.isLt
  exact Memory.writeByte_wf _ _ _ (Memory.writeByte_wf m _ _ h (by omega)) (by omega)

theorem Memory.filter_wf (m : Memory) (p : Host.Cell → Bool) (h : Memory.wf m) : Memory.wf (m.filter p) :=
  ⟨h.1.filter p, fun c hc => h.2 c (List.mem_filter.1 hc).1⟩

theorem Part.writeMemory_wf (p : Part) (w : BitVec 23) (b : LaneBytes) (h : Memory.wf p.memory) :
    Memory.wf (p.writeMemory w b).memory := Memory.writeWord_wf p.memory w b h

/-- What a byte reads as after one byte may have been written. -/
theorem Memory.find_writeByte (m : Memory) (a : Nat) (b : Option Byte) (j : Nat) :
    Sparse.find (Memory.writeByte m a b) j = if j = a then b.orElse fun _ => Sparse.find m j else Sparse.find m j := by
  cases b with
  | none => simp [Memory.writeByte]
  | some v => simp [Memory.writeByte]

/-- What a byte reads as after a write of a word: the byte of its lane, where the write drives one. -/
theorem Part.memoryByte_writeMemory (p : Part) (w : BitVec 23) (b : LaneBytes) (a : Nat) :
    (p.writeMemory w b).memoryByte a =
      if a = 2 * w.toNat + 1 then b.lower.getD (p.memoryByte a)
      else if a = 2 * w.toNat then b.upper.getD (p.memoryByte a) else p.memoryByte a := by
  obtain ⟨u, l⟩ := b
  simp only [Part.memoryByte, Part.writeMemory, Memory.writeWord, Memory.find_writeByte]
  by_cases h1 : a = 2 * w.toNat + 1
  · have h2 : ¬ a = 2 * w.toNat := by omega
    cases l <;> simp [h1]
  · by_cases h2 : a = 2 * w.toNat
    · subst h2
      cases u <;> simp
    · simp [h1, h2]

/-- A write leaves every byte outside its word as it was. -/
theorem Part.memoryByte_writeMemory_outside (p : Part) (w : BitVec 23) (b : LaneBytes) (a : Nat)
    (h0 : a ≠ 2 * w.toNat) (h1 : a ≠ 2 * w.toNat + 1) : (p.writeMemory w b).memoryByte a = p.memoryByte a := by
  rw [Part.memoryByte_writeMemory, if_neg h1, if_neg h0]

end Sys2Proof.Machine
end

