-- ==== Sys2Proof/Laws/Path.lean ====
section
/-! SUPPORT. The operations of the memory path: what each leaves as it was. -/

namespace Sys2Proof.Machine

@[simp] theorem Part.takeRead_keeps (p : Part) (a : BitVec 23) (l : Lanes) :
    (p.takeRead a l).supply = p.supply ∧ (p.takeRead a l).keepValid = p.keepValid ∧
    (p.takeRead a l).initialising = p.initialising ∧ (p.takeRead a l).lockoutTimer = p.lockoutTimer ∧
    (p.takeRead a l).walk = p.walk ∧ (p.takeRead a l).vkeep = p.vkeep ∧
    (p.takeRead a l).crystal = p.crystal ∧ (p.takeRead a l).store = p.store ∧
    (p.takeRead a l).arbiter = p.arbiter ∧ (p.takeRead a l).tableLost = p.tableLost ∧
    (p.takeRead a l).intake = p.intake ∧ (p.takeRead a l).fileNumber = p.fileNumber ∧
    (p.takeRead a l).fileNumberFault = p.fileNumberFault ∧ (p.takeRead a l).setup = p.setup ∧
    (p.takeRead a l).locked = p.locked ∧ (p.takeRead a l).setupFault = p.setupFault ∧
    (p.takeRead a l).setupIgnored = p.setupIgnored ∧ (p.takeRead a l).contexts = p.contexts ∧
    (p.takeRead a l).awaitOrder = p.awaitOrder ∧ (p.takeRead a l).journal = p.journal ∧
    (p.takeRead a l).queue = p.queue ∧ (p.takeRead a l).counters = p.counters ∧
    (p.takeRead a l).previousPage = p.previousPage ∧ (p.takeRead a l).monitor = p.monitor ∧
    (p.takeRead a l).clock = p.clock ∧ (p.takeRead a l).follow = p.follow ∧
    (p.takeRead a l).sweep = p.sweep ∧ (p.takeRead a l).memory = p.memory ∧
    (p.takeRead a l).memoryEpoch = p.memoryEpoch ∧ (p.takeRead a l).draws = p.draws := by
  unfold Part.takeRead
  split <;> simp

@[simp] theorem Part.takeWrite_keeps (p : Part) (a : BitVec 23) (b : LaneBytes) :
    (p.takeWrite a b).supply = p.supply ∧ (p.takeWrite a b).keepValid = p.keepValid ∧
    (p.takeWrite a b).initialising = p.initialising ∧ (p.takeWrite a b).lockoutTimer = p.lockoutTimer ∧
    (p.takeWrite a b).walk = p.walk ∧ (p.takeWrite a b).vkeep = p.vkeep ∧
    (p.takeWrite a b).crystal = p.crystal ∧ (p.takeWrite a b).fileNumber = p.fileNumber ∧
    (p.takeWrite a b).fileNumberFault = p.fileNumberFault ∧ (p.takeWrite a b).setup = p.setup ∧
    (p.takeWrite a b).locked = p.locked ∧ (p.takeWrite a b).setupFault = p.setupFault ∧
    (p.takeWrite a b).awaitOrder = p.awaitOrder ∧ (p.takeWrite a b).monitor = p.monitor ∧
    (p.takeWrite a b).sweep = p.sweep ∧ (p.takeWrite a b).memoryEpoch = p.memoryEpoch ∧
    (p.takeWrite a b).draws = p.draws := by
  unfold Part.takeWrite
  split <;> simp

@[simp] theorem Part.takeCycle_keeps (p : Part) (a : BitVec 23) (x : Access) :
    (p.takeCycle a x).supply = p.supply ∧ (p.takeCycle a x).keepValid = p.keepValid ∧
    (p.takeCycle a x).initialising = p.initialising ∧ (p.takeCycle a x).lockoutTimer = p.lockoutTimer ∧
    (p.takeCycle a x).walk = p.walk ∧ (p.takeCycle a x).vkeep = p.vkeep ∧
    (p.takeCycle a x).crystal = p.crystal ∧ (p.takeCycle a x).fileNumber = p.fileNumber ∧
    (p.takeCycle a x).fileNumberFault = p.fileNumberFault ∧ (p.takeCycle a x).setup = p.setup ∧
    (p.takeCycle a x).locked = p.locked ∧ (p.takeCycle a x).setupFault = p.setupFault ∧
    (p.takeCycle a x).awaitOrder = p.awaitOrder ∧ (p.takeCycle a x).monitor = p.monitor ∧
    (p.takeCycle a x).sweep = p.sweep ∧ (p.takeCycle a x).memoryEpoch = p.memoryEpoch ∧
    (p.takeCycle a x).draws = p.draws := by
  unfold Part.takeCycle
  split <;> simp

@[simp] theorem Part.arrive_keeps (p : Part) (a : BitVec 23) (x : Access) :
    (p.arrive a x).supply = p.supply ∧ (p.arrive a x).keepValid = p.keepValid ∧
    (p.arrive a x).initialising = p.initialising ∧ (p.arrive a x).lockoutTimer = p.lockoutTimer ∧
    (p.arrive a x).walk = p.walk ∧ (p.arrive a x).vkeep = p.vkeep ∧ (p.arrive a x).crystal = p.crystal ∧
    (p.arrive a x).fileNumber = p.fileNumber ∧ (p.arrive a x).fileNumberFault = p.fileNumberFault ∧
    (p.arrive a x).setup = p.setup ∧ (p.arrive a x).locked = p.locked ∧
    (p.arrive a x).setupFault = p.setupFault ∧ (p.arrive a x).awaitOrder = p.awaitOrder ∧
    (p.arrive a x).monitor = p.monitor ∧ (p.arrive a x).sweep = p.sweep ∧
    (p.arrive a x).memoryEpoch = p.memoryEpoch ∧ (p.arrive a x).draws = p.draws := by
  unfold Part.arrive
  repeat' split
  all_goals simp

@[simp] theorem Part.endCycle_keeps (p : Part) :
    (p.endCycle).supply = p.supply ∧ (p.endCycle).keepValid = p.keepValid ∧
    (p.endCycle).initialising = p.initialising ∧ (p.endCycle).lockoutTimer = p.lockoutTimer ∧
    (p.endCycle).walk = p.walk ∧ (p.endCycle).vkeep = p.vkeep ∧ (p.endCycle).crystal = p.crystal ∧
    (p.endCycle).store = p.store ∧ (p.endCycle).arbiter = p.arbiter ∧
    (p.endCycle).tableLost = p.tableLost ∧ (p.endCycle).intake = p.intake ∧
    (p.endCycle).fileNumber = p.fileNumber ∧ (p.endCycle).fileNumberFault = p.fileNumberFault ∧
    (p.endCycle).setup = p.setup ∧ (p.endCycle).locked = p.locked ∧
    (p.endCycle).setupFault = p.setupFault ∧ (p.endCycle).setupIgnored = p.setupIgnored ∧
    (p.endCycle).contexts = p.contexts ∧ (p.endCycle).awaitOrder = p.awaitOrder ∧
    (p.endCycle).journal = p.journal ∧ (p.endCycle).queue = p.queue ∧ (p.endCycle).counters = p.counters ∧
    (p.endCycle).previousPage = p.previousPage ∧ (p.endCycle).monitor = p.monitor ∧
    (p.endCycle).clock = p.clock ∧ (p.endCycle).follow = p.follow ∧ (p.endCycle).sweep = p.sweep ∧
    (p.endCycle).memory = p.memory ∧ (p.endCycle).memoryEpoch = p.memoryEpoch ∧ (p.endCycle).draws = p.draws := by
  unfold Part.endCycle
  split <;> simp

@[simp] theorem Part.startSettle_keeps (p : Part) :
    (p.startSettle).supply = p.supply ∧ (p.startSettle).keepValid = p.keepValid ∧
    (p.startSettle).initialising = p.initialising ∧ (p.startSettle).lockoutTimer = p.lockoutTimer ∧
    (p.startSettle).walk = p.walk ∧ (p.startSettle).vkeep = p.vkeep ∧ (p.startSettle).crystal = p.crystal ∧
    (p.startSettle).store = p.store ∧ (p.startSettle).arbiter = p.arbiter ∧
    (p.startSettle).tableLost = p.tableLost ∧ (p.startSettle).intake = p.intake ∧
    (p.startSettle).fileNumber = p.fileNumber ∧ (p.startSettle).fileNumberFault = p.fileNumberFault ∧
    (p.startSettle).setup = p.setup ∧ (p.startSettle).locked = p.locked ∧
    (p.startSettle).setupFault = p.setupFault ∧ (p.startSettle).setupIgnored = p.setupIgnored ∧
    (p.startSettle).contexts = p.contexts ∧ (p.startSettle).awaitOrder = p.awaitOrder ∧
    (p.startSettle).journal = p.journal ∧ (p.startSettle).queue = p.queue ∧
    (p.startSettle).counters = p.counters ∧ (p.startSettle).previousPage = p.previousPage ∧
    (p.startSettle).monitor = p.monitor ∧ (p.startSettle).clock = p.clock ∧
    (p.startSettle).follow = p.follow ∧ (p.startSettle).sweep = p.sweep ∧
    (p.startSettle).memory = p.memory ∧ (p.startSettle).memoryEpoch = p.memoryEpoch ∧
    (p.startSettle).draws = p.draws := by
  unfold Part.startSettle
  repeat' split
  all_goals simp

@[simp] theorem Part.noteSettled_keeps (p : Part) (w : SettleWrite) :
    (p.noteSettled w).supply = p.supply ∧ (p.noteSettled w).keepValid = p.keepValid ∧
    (p.noteSettled w).initialising = p.initialising ∧ (p.noteSettled w).lockoutTimer = p.lockoutTimer ∧
    (p.noteSettled w).walk = p.walk ∧ (p.noteSettled w).vkeep = p.vkeep ∧
    (p.noteSettled w).crystal = p.crystal ∧ (p.noteSettled w).tableLost = p.tableLost ∧
    (p.noteSettled w).intake = p.intake ∧ (p.noteSettled w).fileNumber = p.fileNumber ∧
    (p.noteSettled w).fileNumberFault = p.fileNumberFault ∧ (p.noteSettled w).setup = p.setup ∧
    (p.noteSettled w).locked = p.locked ∧ (p.noteSettled w).setupFault = p.setupFault ∧
    (p.noteSettled w).setupIgnored = p.setupIgnored ∧ (p.noteSettled w).awaitOrder = p.awaitOrder ∧
    (p.noteSettled w).journal = p.journal ∧ (p.noteSettled w).queue = p.queue ∧
    (p.noteSettled w).counters = p.counters ∧ (p.noteSettled w).previousPage = p.previousPage ∧
    (p.noteSettled w).monitor = p.monitor ∧ (p.noteSettled w).clock = p.clock ∧
    (p.noteSettled w).follow = p.follow ∧ (p.noteSettled w).sweep = p.sweep ∧
    (p.noteSettled w).path = p.path ∧ (p.noteSettled w).memory = p.memory ∧
    (p.noteSettled w).memoryEpoch = p.memoryEpoch ∧ (p.noteSettled w).draws = p.draws := by
  unfold Part.noteSettled
  split <;> simp

@[simp] theorem Part.takeWaiting_keeps (p : Part) :
    (p.takeWaiting).supply = p.supply ∧ (p.takeWaiting).keepValid = p.keepValid ∧
    (p.takeWaiting).initialising = p.initialising ∧ (p.takeWaiting).lockoutTimer = p.lockoutTimer ∧
    (p.takeWaiting).walk = p.walk ∧ (p.takeWaiting).vkeep = p.vkeep ∧ (p.takeWaiting).crystal = p.crystal ∧
    (p.takeWaiting).fileNumber = p.fileNumber ∧ (p.takeWaiting).fileNumberFault = p.fileNumberFault ∧
    (p.takeWaiting).setup = p.setup ∧ (p.takeWaiting).locked = p.locked ∧
    (p.takeWaiting).setupFault = p.setupFault ∧ (p.takeWaiting).awaitOrder = p.awaitOrder ∧
    (p.takeWaiting).monitor = p.monitor ∧ (p.takeWaiting).sweep = p.sweep ∧
    (p.takeWaiting).memoryEpoch = p.memoryEpoch ∧ (p.takeWaiting).draws = p.draws := by
  unfold Part.takeWaiting
  split <;> simp

@[simp] theorem Part.completeSettle_keeps (p : Part) :
    (p.completeSettle).supply = p.supply ∧ (p.completeSettle).keepValid = p.keepValid ∧
    (p.completeSettle).initialising = p.initialising ∧ (p.completeSettle).lockoutTimer = p.lockoutTimer ∧
    (p.completeSettle).walk = p.walk ∧ (p.completeSettle).vkeep = p.vkeep ∧
    (p.completeSettle).crystal = p.crystal ∧ (p.completeSettle).fileNumber = p.fileNumber ∧
    (p.completeSettle).fileNumberFault = p.fileNumberFault ∧ (p.completeSettle).setup = p.setup ∧
    (p.completeSettle).locked = p.locked ∧ (p.completeSettle).setupFault = p.setupFault ∧
    (p.completeSettle).awaitOrder = p.awaitOrder ∧ (p.completeSettle).monitor = p.monitor ∧
    (p.completeSettle).sweep = p.sweep ∧ (p.completeSettle).memoryEpoch = p.memoryEpoch ∧
    (p.completeSettle).draws = p.draws := by
  unfold Part.completeSettle
  split <;> simp

end Sys2Proof.Machine
end

