-- ==== Sys2Proof/Laws/Arbiter.lean ====
section
/-! SUPPORT. What a completed operation of the table leaves as it was. -/

namespace Sys2Proof.Machine

@[simp] theorem Part.followWindow_keeps (p : Part) (y : Setup) (n : Fin 4) :
    (p.followWindow y n).supply = p.supply ∧ (p.followWindow y n).keepValid = p.keepValid ∧
    (p.followWindow y n).initialising = p.initialising ∧
    (p.followWindow y n).lockoutTimer = p.lockoutTimer ∧ (p.followWindow y n).walk = p.walk ∧
    (p.followWindow y n).vkeep = p.vkeep ∧ (p.followWindow y n).crystal = p.crystal ∧
    (p.followWindow y n).tableLost = p.tableLost ∧ (p.followWindow y n).intake = p.intake ∧
    (p.followWindow y n).fileNumber = p.fileNumber ∧
    (p.followWindow y n).fileNumberFault = p.fileNumberFault ∧ (p.followWindow y n).setup = p.setup ∧
    (p.followWindow y n).locked = p.locked ∧ (p.followWindow y n).setupFault = p.setupFault ∧
    (p.followWindow y n).setupIgnored = p.setupIgnored ∧ (p.followWindow y n).awaitOrder = p.awaitOrder ∧
    (p.followWindow y n).journal = p.journal ∧ (p.followWindow y n).previousPage = p.previousPage ∧
    (p.followWindow y n).monitor = p.monitor ∧ (p.followWindow y n).clock = p.clock ∧
    (p.followWindow y n).follow = p.follow ∧ (p.followWindow y n).sweep = p.sweep ∧
    (p.followWindow y n).memory = p.memory ∧ (p.followWindow y n).memoryEpoch = p.memoryEpoch ∧
    (p.followWindow y n).draws = p.draws := by
  unfold Part.followWindow
  split <;> simp

@[simp] theorem Part.followJournal_keeps (p : Part) (y : Setup) :
    (p.followJournal y).supply = p.supply ∧ (p.followJournal y).keepValid = p.keepValid ∧
    (p.followJournal y).initialising = p.initialising ∧ (p.followJournal y).lockoutTimer = p.lockoutTimer ∧
    (p.followJournal y).walk = p.walk ∧ (p.followJournal y).vkeep = p.vkeep ∧
    (p.followJournal y).crystal = p.crystal ∧ (p.followJournal y).store = p.store ∧
    (p.followJournal y).arbiter = p.arbiter ∧ (p.followJournal y).tableLost = p.tableLost ∧
    (p.followJournal y).intake = p.intake ∧ (p.followJournal y).fileNumber = p.fileNumber ∧
    (p.followJournal y).fileNumberFault = p.fileNumberFault ∧ (p.followJournal y).setup = p.setup ∧
    (p.followJournal y).locked = p.locked ∧ (p.followJournal y).setupFault = p.setupFault ∧
    (p.followJournal y).setupIgnored = p.setupIgnored ∧ (p.followJournal y).contexts = p.contexts ∧
    (p.followJournal y).awaitOrder = p.awaitOrder ∧ (p.followJournal y).counters = p.counters ∧
    (p.followJournal y).previousPage = p.previousPage ∧ (p.followJournal y).monitor = p.monitor ∧
    (p.followJournal y).clock = p.clock ∧ (p.followJournal y).follow = p.follow ∧
    (p.followJournal y).sweep = p.sweep ∧ (p.followJournal y).path = p.path ∧
    (p.followJournal y).memory = p.memory ∧ (p.followJournal y).memoryEpoch = p.memoryEpoch ∧
    (p.followJournal y).draws = p.draws := by
  unfold Part.followJournal
  split <;> simp

@[simp] theorem Part.followClockWord_keeps (p : Part) (y : Setup) :
    (p.followClockWord y).supply = p.supply ∧ (p.followClockWord y).keepValid = p.keepValid ∧
    (p.followClockWord y).initialising = p.initialising ∧
    (p.followClockWord y).lockoutTimer = p.lockoutTimer ∧ (p.followClockWord y).walk = p.walk ∧
    (p.followClockWord y).vkeep = p.vkeep ∧ (p.followClockWord y).crystal = p.crystal ∧
    (p.followClockWord y).store = p.store ∧ (p.followClockWord y).arbiter = p.arbiter ∧
    (p.followClockWord y).tableLost = p.tableLost ∧ (p.followClockWord y).intake = p.intake ∧
    (p.followClockWord y).fileNumber = p.fileNumber ∧
    (p.followClockWord y).fileNumberFault = p.fileNumberFault ∧ (p.followClockWord y).setup = p.setup ∧
    (p.followClockWord y).locked = p.locked ∧ (p.followClockWord y).setupFault = p.setupFault ∧
    (p.followClockWord y).setupIgnored = p.setupIgnored ∧ (p.followClockWord y).contexts = p.contexts ∧
    (p.followClockWord y).awaitOrder = p.awaitOrder ∧ (p.followClockWord y).journal = p.journal ∧
    (p.followClockWord y).queue = p.queue ∧ (p.followClockWord y).counters = p.counters ∧
    (p.followClockWord y).previousPage = p.previousPage ∧ (p.followClockWord y).monitor = p.monitor ∧
    (p.followClockWord y).clock = p.clock ∧ (p.followClockWord y).sweep = p.sweep ∧
    (p.followClockWord y).path = p.path ∧ (p.followClockWord y).memory = p.memory ∧
    (p.followClockWord y).memoryEpoch = p.memoryEpoch ∧ (p.followClockWord y).draws = p.draws := by
  unfold Part.followClockWord
  split <;> simp

@[simp] theorem Part.followAttention_keeps (p : Part) (y : Setup) :
    (p.followAttention y).supply = p.supply ∧ (p.followAttention y).keepValid = p.keepValid ∧
    (p.followAttention y).initialising = p.initialising ∧
    (p.followAttention y).lockoutTimer = p.lockoutTimer ∧ (p.followAttention y).walk = p.walk ∧
    (p.followAttention y).vkeep = p.vkeep ∧ (p.followAttention y).crystal = p.crystal ∧
    (p.followAttention y).store = p.store ∧ (p.followAttention y).arbiter = p.arbiter ∧
    (p.followAttention y).tableLost = p.tableLost ∧ (p.followAttention y).intake = p.intake ∧
    (p.followAttention y).fileNumber = p.fileNumber ∧
    (p.followAttention y).fileNumberFault = p.fileNumberFault ∧ (p.followAttention y).setup = p.setup ∧
    (p.followAttention y).locked = p.locked ∧ (p.followAttention y).setupFault = p.setupFault ∧
    (p.followAttention y).setupIgnored = p.setupIgnored ∧ (p.followAttention y).contexts = p.contexts ∧
    (p.followAttention y).awaitOrder = p.awaitOrder ∧ (p.followAttention y).journal = p.journal ∧
    (p.followAttention y).queue = p.queue ∧ (p.followAttention y).counters = p.counters ∧
    (p.followAttention y).previousPage = p.previousPage ∧ (p.followAttention y).clock = p.clock ∧
    (p.followAttention y).follow = p.follow ∧ (p.followAttention y).sweep = p.sweep ∧
    (p.followAttention y).path = p.path ∧ (p.followAttention y).memory = p.memory ∧
    (p.followAttention y).memoryEpoch = p.memoryEpoch ∧ (p.followAttention y).draws = p.draws := by
  unfold Part.followAttention
  repeat' split
  all_goals simp

@[simp] theorem Part.followSetup_keeps (p : Part) (y : Setup) :
    (p.followSetup y).supply = p.supply ∧ (p.followSetup y).keepValid = p.keepValid ∧
    (p.followSetup y).initialising = p.initialising ∧ (p.followSetup y).lockoutTimer = p.lockoutTimer ∧
    (p.followSetup y).walk = p.walk ∧ (p.followSetup y).vkeep = p.vkeep ∧
    (p.followSetup y).crystal = p.crystal ∧ (p.followSetup y).tableLost = p.tableLost ∧
    (p.followSetup y).intake = p.intake ∧ (p.followSetup y).fileNumber = p.fileNumber ∧
    (p.followSetup y).fileNumberFault = p.fileNumberFault ∧ (p.followSetup y).setup = p.setup ∧
    (p.followSetup y).locked = p.locked ∧ (p.followSetup y).setupFault = p.setupFault ∧
    (p.followSetup y).setupIgnored = p.setupIgnored ∧ (p.followSetup y).awaitOrder = p.awaitOrder ∧
    (p.followSetup y).previousPage = p.previousPage ∧ (p.followSetup y).clock = p.clock ∧
    (p.followSetup y).sweep = p.sweep ∧ (p.followSetup y).memory = p.memory ∧
    (p.followSetup y).memoryEpoch = p.memoryEpoch ∧ (p.followSetup y).draws = p.draws := by
  unfold Part.followSetup
  simp

@[simp] theorem Part.applySetup_keeps (p : Part) (l : List PendingEffect) :
    (p.applySetup l).supply = p.supply ∧ (p.applySetup l).keepValid = p.keepValid ∧
    (p.applySetup l).initialising = p.initialising ∧ (p.applySetup l).lockoutTimer = p.lockoutTimer ∧
    (p.applySetup l).walk = p.walk ∧ (p.applySetup l).vkeep = p.vkeep ∧
    (p.applySetup l).crystal = p.crystal ∧ (p.applySetup l).tableLost = p.tableLost ∧
    (p.applySetup l).intake = p.intake ∧ (p.applySetup l).fileNumber = p.fileNumber ∧
    (p.applySetup l).fileNumberFault = p.fileNumberFault ∧ (p.applySetup l).awaitOrder = p.awaitOrder ∧
    (p.applySetup l).previousPage = p.previousPage ∧ (p.applySetup l).clock = p.clock ∧
    (p.applySetup l).sweep = p.sweep ∧ (p.applySetup l).memory = p.memory ∧
    (p.applySetup l).memoryEpoch = p.memoryEpoch ∧ (p.applySetup l).draws = p.draws := by
  unfold Part.applySetup
  repeat' split
  all_goals simp

@[simp] theorem Part.commitClock_keeps (p : Part) (l : List PendingEffect) :
    (p.commitClock l).supply = p.supply ∧ (p.commitClock l).keepValid = p.keepValid ∧
    (p.commitClock l).initialising = p.initialising ∧ (p.commitClock l).lockoutTimer = p.lockoutTimer ∧
    (p.commitClock l).walk = p.walk ∧ (p.commitClock l).vkeep = p.vkeep ∧
    (p.commitClock l).crystal = p.crystal ∧ (p.commitClock l).store = p.store ∧
    (p.commitClock l).arbiter = p.arbiter ∧ (p.commitClock l).tableLost = p.tableLost ∧
    (p.commitClock l).intake = p.intake ∧ (p.commitClock l).fileNumber = p.fileNumber ∧
    (p.commitClock l).fileNumberFault = p.fileNumberFault ∧ (p.commitClock l).setup = p.setup ∧
    (p.commitClock l).locked = p.locked ∧ (p.commitClock l).setupFault = p.setupFault ∧
    (p.commitClock l).setupIgnored = p.setupIgnored ∧ (p.commitClock l).contexts = p.contexts ∧
    (p.commitClock l).awaitOrder = p.awaitOrder ∧ (p.commitClock l).journal = p.journal ∧
    (p.commitClock l).queue = p.queue ∧ (p.commitClock l).counters = p.counters ∧
    (p.commitClock l).previousPage = p.previousPage ∧ (p.commitClock l).monitor = p.monitor ∧
    (p.commitClock l).follow = p.follow ∧ (p.commitClock l).sweep = p.sweep ∧
    (p.commitClock l).path = p.path ∧ (p.commitClock l).memory = p.memory ∧
    (p.commitClock l).memoryEpoch = p.memoryEpoch ∧ (p.commitClock l).draws = p.draws := by
  unfold Part.commitClock
  split <;> simp

@[simp] theorem Part.commitSweep_keeps (p : Part) (l : List PendingEffect) :
    (p.commitSweep l).supply = p.supply ∧ (p.commitSweep l).keepValid = p.keepValid ∧
    (p.commitSweep l).initialising = p.initialising ∧ (p.commitSweep l).lockoutTimer = p.lockoutTimer ∧
    (p.commitSweep l).walk = p.walk ∧ (p.commitSweep l).vkeep = p.vkeep ∧
    (p.commitSweep l).crystal = p.crystal ∧ (p.commitSweep l).store = p.store ∧
    (p.commitSweep l).tableLost = p.tableLost ∧ (p.commitSweep l).intake = p.intake ∧
    (p.commitSweep l).fileNumber = p.fileNumber ∧ (p.commitSweep l).fileNumberFault = p.fileNumberFault ∧
    (p.commitSweep l).setup = p.setup ∧ (p.commitSweep l).locked = p.locked ∧
    (p.commitSweep l).setupFault = p.setupFault ∧ (p.commitSweep l).setupIgnored = p.setupIgnored ∧
    (p.commitSweep l).contexts = p.contexts ∧ (p.commitSweep l).awaitOrder = p.awaitOrder ∧
    (p.commitSweep l).journal = p.journal ∧ (p.commitSweep l).queue = p.queue ∧
    (p.commitSweep l).counters = p.counters ∧ (p.commitSweep l).previousPage = p.previousPage ∧
    (p.commitSweep l).monitor = p.monitor ∧ (p.commitSweep l).clock = p.clock ∧
    (p.commitSweep l).follow = p.follow ∧ (p.commitSweep l).path = p.path ∧
    (p.commitSweep l).memory = p.memory ∧ (p.commitSweep l).memoryEpoch = p.memoryEpoch ∧
    (p.commitSweep l).draws = p.draws := by
  unfold Part.commitSweep
  split <;> simp

@[simp] theorem Part.commitEffects_keeps (p : Part) (c : CommitPayload) :
    (p.commitEffects c).supply = p.supply ∧ (p.commitEffects c).keepValid = p.keepValid ∧
    (p.commitEffects c).initialising = p.initialising ∧ (p.commitEffects c).lockoutTimer = p.lockoutTimer ∧
    (p.commitEffects c).walk = p.walk ∧ (p.commitEffects c).vkeep = p.vkeep ∧
    (p.commitEffects c).crystal = p.crystal ∧ (p.commitEffects c).tableLost = p.tableLost ∧
    (p.commitEffects c).intake = p.intake ∧ (p.commitEffects c).awaitOrder = p.awaitOrder ∧
    (p.commitEffects c).previousPage = p.previousPage ∧ (p.commitEffects c).memory = p.memory ∧
    (p.commitEffects c).memoryEpoch = p.memoryEpoch ∧ (p.commitEffects c).draws = p.draws := by
  unfold Part.commitEffects
  simp

@[simp] theorem Part.takeRelease_keeps (p : Part) :
    (p.takeRelease).supply = p.supply ∧ (p.takeRelease).keepValid = p.keepValid ∧
    (p.takeRelease).initialising = p.initialising ∧ (p.takeRelease).lockoutTimer = p.lockoutTimer ∧
    (p.takeRelease).walk = p.walk ∧ (p.takeRelease).vkeep = p.vkeep ∧ (p.takeRelease).crystal = p.crystal ∧
    (p.takeRelease).tableLost = p.tableLost ∧ (p.takeRelease).intake = p.intake ∧
    (p.takeRelease).fileNumber = p.fileNumber ∧ (p.takeRelease).fileNumberFault = p.fileNumberFault ∧
    (p.takeRelease).setup = p.setup ∧ (p.takeRelease).locked = p.locked ∧
    (p.takeRelease).setupFault = p.setupFault ∧ (p.takeRelease).setupIgnored = p.setupIgnored ∧
    (p.takeRelease).contexts = p.contexts ∧ (p.takeRelease).awaitOrder = p.awaitOrder ∧
    (p.takeRelease).journal = p.journal ∧ (p.takeRelease).queue = p.queue ∧
    (p.takeRelease).counters = p.counters ∧ (p.takeRelease).previousPage = p.previousPage ∧
    (p.takeRelease).monitor = p.monitor ∧ (p.takeRelease).clock = p.clock ∧
    (p.takeRelease).follow = p.follow ∧ (p.takeRelease).sweep = p.sweep ∧ (p.takeRelease).path = p.path ∧
    (p.takeRelease).memory = p.memory ∧ (p.takeRelease).memoryEpoch = p.memoryEpoch ∧
    (p.takeRelease).draws = p.draws := by
  unfold Part.takeRelease
  split <;> simp

@[simp] theorem Part.completeMark_keeps (p : Part) :
    (p.completeMark).supply = p.supply ∧ (p.completeMark).keepValid = p.keepValid ∧
    (p.completeMark).initialising = p.initialising ∧ (p.completeMark).lockoutTimer = p.lockoutTimer ∧
    (p.completeMark).walk = p.walk ∧ (p.completeMark).vkeep = p.vkeep ∧
    (p.completeMark).crystal = p.crystal ∧ (p.completeMark).tableLost = p.tableLost ∧
    (p.completeMark).intake = p.intake ∧ (p.completeMark).fileNumber = p.fileNumber ∧
    (p.completeMark).fileNumberFault = p.fileNumberFault ∧ (p.completeMark).setup = p.setup ∧
    (p.completeMark).locked = p.locked ∧ (p.completeMark).setupFault = p.setupFault ∧
    (p.completeMark).setupIgnored = p.setupIgnored ∧ (p.completeMark).contexts = p.contexts ∧
    (p.completeMark).awaitOrder = p.awaitOrder ∧ (p.completeMark).journal = p.journal ∧
    (p.completeMark).queue = p.queue ∧ (p.completeMark).counters = p.counters ∧
    (p.completeMark).previousPage = p.previousPage ∧ (p.completeMark).monitor = p.monitor ∧
    (p.completeMark).clock = p.clock ∧ (p.completeMark).follow = p.follow ∧
    (p.completeMark).sweep = p.sweep ∧ (p.completeMark).path = p.path ∧
    (p.completeMark).memory = p.memory ∧ (p.completeMark).memoryEpoch = p.memoryEpoch := by
  unfold Part.completeMark
  split <;> simp

@[simp] theorem Part.completeSweepStep_keeps (p : Part) :
    (p.completeSweepStep).supply = p.supply ∧ (p.completeSweepStep).keepValid = p.keepValid ∧
    (p.completeSweepStep).initialising = p.initialising ∧
    (p.completeSweepStep).lockoutTimer = p.lockoutTimer ∧ (p.completeSweepStep).walk = p.walk ∧
    (p.completeSweepStep).vkeep = p.vkeep ∧ (p.completeSweepStep).crystal = p.crystal ∧
    (p.completeSweepStep).tableLost = p.tableLost ∧ (p.completeSweepStep).intake = p.intake ∧
    (p.completeSweepStep).fileNumber = p.fileNumber ∧
    (p.completeSweepStep).fileNumberFault = p.fileNumberFault ∧ (p.completeSweepStep).setup = p.setup ∧
    (p.completeSweepStep).locked = p.locked ∧ (p.completeSweepStep).setupFault = p.setupFault ∧
    (p.completeSweepStep).setupIgnored = p.setupIgnored ∧ (p.completeSweepStep).contexts = p.contexts ∧
    (p.completeSweepStep).awaitOrder = p.awaitOrder ∧ (p.completeSweepStep).journal = p.journal ∧
    (p.completeSweepStep).queue = p.queue ∧ (p.completeSweepStep).counters = p.counters ∧
    (p.completeSweepStep).previousPage = p.previousPage ∧ (p.completeSweepStep).monitor = p.monitor ∧
    (p.completeSweepStep).clock = p.clock ∧ (p.completeSweepStep).follow = p.follow ∧
    (p.completeSweepStep).path = p.path ∧ (p.completeSweepStep).memory = p.memory ∧
    (p.completeSweepStep).memoryEpoch = p.memoryEpoch ∧ (p.completeSweepStep).draws = p.draws := by
  unfold Part.completeSweepStep
  split <;> simp

end Sys2Proof.Machine
end

