-- ==== Sys2Proof/Laws/ColdStart.lean ====
section
/-! SUPPORT. Cold initialisation: when it changes nothing, what it comes to, and how it is cut; and when an internal
check holds. -/

namespace Sys2Proof.Machine

/-- Where none is in progress there is nothing to complete. -/
theorem Part.finishCold_of_none (p : Part) (h : p.initialising = none) : p.finishCold = p := by
  unfold Part.finishCold
  rw [h]
  simp

/-- Where the part is supplied and past its entry to LOCKOUT there is nothing to complete. -/
theorem Part.finishCold_of_supplied (p : Part) (h : p.supply ≠ .off) (h' : p.supply ≠ .keep) : p.finishCold = p := by
  unfold Part.finishCold
  rw [if_neg (fun c => c.elim h h')]

/-- A part that can take a cycle has no cold initialisation to complete. -/
theorem Part.finishCold_of_accepts (p : Part) (h : p.accepts = true) : p.finishCold = p := by
  unfold Part.accepts at h
  simp only [Bool.and_eq_true, bne_iff_ne] at h
  exact p.finishCold_of_supplied h.1.1.1 h.1.1.2

/-- One in progress in OFF or KEEP completes. -/
theorem Part.finishCold_of_some (p : Part) (c : ColdInit) (h : p.initialising = some c)
    (h' : p.supply = .off ∨ p.supply = .keep) : p.finishCold = p.completeCold c := by
  unfold Part.finishCold
  rw [if_pos h', h]

/-- R177: what cold initialisation leaves. -/
@[simp] theorem Part.coldInit_fields (p : Part) :
    p.coldInit.store = Store.cold ∧ p.coldInit.fileNumber = 0 ∧ p.coldInit.fileNumberFault = 0 ∧
    p.coldInit.setup = Setup.cold ∧ p.coldInit.locked = false ∧ p.coldInit.setupFault = 0 ∧
    p.coldInit.queue = OutcomeQueue.cold ∧ p.coldInit.clock = DayClock.cold ∧ p.coldInit.keepValid = some true ∧
    p.coldInit.crystal = 0 ∧ p.coldInit.initialising = none ∧ p.coldInit.supply = p.supply ∧
    p.coldInit.path = p.path ∧ p.coldInit.memory = p.memory ∧ p.coldInit.vkeep = p.vkeep :=
  ⟨rfl, rfl, rfl, rfl, rfl, rfl, rfl, rfl, rfl, rfl, rfl, rfl, rfl, rfl, rfl⟩

/-- R177: a cut cold initialisation leaves KEEP with keep-valid false, or OFF. -/
theorem Part.cutCold_effect (p : Part) :
    p.cutCold.initialising = none
      ∧ (p.vkeep = .good → p.cutCold.supply = .keep ∧ p.cutCold.keepValid = some false)
      ∧ (p.vkeep ≠ .good → p.cutCold.supply = .off ∧ p.cutCold.keepValid = none) := by
  unfold Part.cutCold
  split <;> simp_all [Part.enterOff]

/-- R192: a check word stands as the CRC-16 of its fields exactly where its difference is 0. -/
theorem storedCheck_eq_iff (fields : List Nat) (fault : Word) :
    storedCheck fields fault = internalCheck fields ↔ fault = 0 := by
  unfold storedCheck
  constructor
  · intro h
    have := congrArg (fun x => internalCheck fields ^^^ x) h
    simpa [← BitVec.xor_assoc] using this
  · rintro rfl
    simp

end Sys2Proof.Machine
end

