-- ==== Sys2Proof/Laws/Grant.lean ====
section
/-! SUPPORT. The table arbiter: when a grant changes nothing, and that it leaves no claim to grant. -/

namespace Sys2Proof.Machine

/-- A grant changes nothing exactly where the table is not free or no claim waits. -/
theorem Part.claimsGranted_iff (p : Part) :
    p.claimsGranted ↔ p.arbiter.op ≠ none ∨ p.arbiter.releases ≠ [] ∨
      (p.arbiter.marks = [] ∧ p.arbiter.lookups = [] ∧ p.arbiter.intake = none ∧ p.arbiter.sweep = false) := by
  unfold Part.claimsGranted Part.grant
  split
  · rename_i h
    have hop (a : Arbiter) (o : Operation) : p.begin a o ≠ p := fun e => by
      have := congrArg (fun q : Part => q.arbiter.op) e
      simp [h.1] at this
    unfold Part.grantNext
    dsimp only
    split <;> simp_all
  · rename_i h
    simp only [not_and_or] at h
    refine iff_of_true rfl ?_
    rcases h with h | h
    · exact .inl h
    · exact .inr (.inl h)

/-- Whether claims stand ungranted depends on the arbiter alone. -/
theorem Part.claimsGranted_of_arbiter (p q : Part) (h : q.arbiter = p.arbiter) (hp : p.claimsGranted) :
    q.claimsGranted := by
  rw [Part.claimsGranted_iff] at hp ⊢
  rwa [h]

/-- A grant leaves no claim to grant. -/
theorem Part.grant_claimsGranted (p : Part) : p.grant.claimsGranted := by
  rw [Part.claimsGranted_iff]
  by_cases h : p.arbiter.op = none ∧ p.arbiter.releases = []
  · rw [Part.grant, if_pos h]
    unfold Part.grantNext
    dsimp only
    split <;> simp_all
  · rw [Part.grant, if_neg h]
    simp only [not_and_or] at h
    rcases h with h | h
    · exact .inl h
    · exact .inr (.inl h)

@[simp] theorem Part.grant_grant (p : Part) : p.grant.grant = p.grant := p.grant_claimsGranted

end Sys2Proof.Machine
end

