-- ==== Sys2Proof/Laws/Table.lean ====
section
/-! SUPPORT. The action table by entry: what each of its changes leaves at an entry, and that each keeps the table
in canonical form. -/

namespace Sys2Proof.Machine

theorem Store.withSlot_rising (st : Store) (n : Nat) (s : Slot) (h : Sparse.rising st.table) :
    Sparse.rising (st.withSlot n s).table := by
  unfold Store.withSlot
  dsimp only
  split
  · exact Sparse.erase_rising _ _ h
  · exact Sparse.insert_rising _ _ _ h

/-- What stands at an entry after a slot is written. -/
theorem Store.slot_withSlot (st : Store) (n : Nat) (s : Slot) (m : Nat) (h : Sparse.rising st.table) :
    (st.withSlot n s).slot m = if m = n then s else st.slot m := by
  unfold Store.withSlot Store.slot
  dsimp only
  split
  · rename_i hs
    rw [Sparse.find_erase _ _ _ h]
    split <;> simp [hs]
  · rw [Sparse.find_insert]
    split <;> simp

theorem Store.entry_withSlot (st : Store) (n : Nat) (e : Entry) (m : Nat) :
    (st.withSlot n (.held e)).entry m = if m = n then some e else st.entry m := by
  have hs : (Slot.held e : Slot) ≠ .free 0 := fun h => by cases h
  unfold Store.entry Store.slot Store.withSlot
  dsimp only
  rw [if_neg hs, Sparse.find_insert]
  by_cases hm : m = n
  · simp [hm]
  · simp only [hm, if_false]

theorem Store.update_rising (st : Store) (n : Nat) (f : Entry → Entry) (h : Sparse.rising st.table) :
    Sparse.rising (st.update n f).table := by
  unfold Store.update
  split
  · exact h
  · exact Store.withSlot_rising _ _ _ h

/-- What stands at an entry after one is changed. -/
theorem Store.entry_update (st : Store) (n : Nat) (f : Entry → Entry) (m : Nat) :
    (st.update n f).entry m = if m = n then (st.entry n).map f else st.entry m := by
  unfold Store.update
  split
  · rename_i he
    split <;> simp [*]
  · rename_i e he
    rw [Store.entry_withSlot]
    split <;> simp [*]

theorem Store.mapEntries_rising (st : Store) (f : Entry → Entry) (h : Sparse.rising st.table) :
    Sparse.rising (st.mapEntries f).table := by
  unfold Store.mapEntries Sparse.rising
  rw [List.pairwise_map]
  exact h

theorem Sparse.find_map {α : Type} (m : Sparse α) (f : α → α) (k : Nat) :
    Sparse.find (m.map fun x => (x.1, f x.2)) k = (Sparse.find m k).map f := by
  induction m with
  | nil => rfl
  | cons y m ih =>
    simp only [List.map_cons, Sparse.find]
    split
    · rfl
    · exact ih

/-- What stands at an entry after every entry is changed. -/
theorem Store.entry_mapEntries (st : Store) (f : Entry → Entry) (m : Nat) :
    (st.mapEntries f).entry m = (st.entry m).map f := by
  unfold Store.entry Store.slot Store.mapEntries
  rw [Sparse.find_map]
  cases Sparse.find st.table m with
  | none => rfl
  | some s => cases s <;> rfl

/-- A chain written is read back; the table stands. -/
@[simp] theorem Store.entry_withChain (st : Store) (b : Nat) (c : List Nat) (m : Nat) :
    (st.withChain b c).entry m = st.entry m := rfl

theorem Store.chain_withChain_of_ne_nil (st : Store) (b : Nat) (c : List Nat) (h : c ≠ []) :
    (st.withChain b c).chain b = c := by
  unfold Store.chain Store.withChain
  dsimp only
  rw [if_neg h, Sparse.find_insert]
  simp

@[simp] theorem Store.withSlot_keeps (st : Store) (n : Nat) (s : Slot) :
    (st.withSlot n s).freeList = st.freeList ∧ (st.withSlot n s).buckets = st.buckets ∧
      (st.withSlot n s).freePasses = st.freePasses := ⟨rfl, rfl, rfl⟩

@[simp] theorem Store.update_keeps (st : Store) (n : Nat) (f : Entry → Entry) :
    (st.update n f).freeList = st.freeList ∧ (st.update n f).buckets = st.buckets ∧
      (st.update n f).freePasses = st.freePasses := by
  unfold Store.update
  split <;> simp

@[simp] theorem Store.chain_withSlot (st : Store) (n : Nat) (s : Slot) (b : Nat) :
    (st.withSlot n s).chain b = st.chain b := rfl

@[simp] theorem Store.chain_update (st : Store) (n : Nat) (f : Entry → Entry) (b : Nat) :
    (st.update n f).chain b = st.chain b := by
  unfold Store.update
  split <;> simp

/-- What stands at an entry after one is linked. -/
theorem Store.entry_link (st : Store) (n : Nat) (e : Entry) (m : Nat) :
    (st.link n e).entry m =
      if m = n then some { e with position := (st.chain (bucketOf e.serial)).getLast?, checkFault := 0 }
      else st.entry m := by
  unfold Store.link
  rw [Store.entry_withSlot]
  simp

/-- Linking adds the entry at the tail of its serial's bucket, and takes nothing from the free list or the pool. -/
theorem Store.link_keeps (st : Store) (n : Nat) (e : Entry) :
    (st.link n e).chain (bucketOf e.serial) = st.chain (bucketOf e.serial) ++ [n]
      ∧ (st.link n e).freeList = st.freeList ∧ (st.link n e).freePasses = st.freePasses := by
  unfold Store.link
  refine ⟨?_, rfl, rfl⟩
  rw [Store.chain_withSlot]
  exact Store.chain_withChain_of_ne_nil _ _ _ (by simp)

/-- Unlinking changes no entry but for the position of the one after it in its bucket. -/
theorem Store.entry_unlink (st : Store) (n : Nat) (e : Entry) (m : Nat) :
    ((st.unlink n e).entry m).map (fun x => { x with position := none, checkFault := 0 })
      = (st.entry m).map (fun x => { x with position := none, checkFault := 0 }) := by
  unfold Store.unlink
  dsimp only
  split
  · simp
  · rw [Store.entry_withChain, Store.entry_update]
    split
    · rename_i h
      rw [h]
      cases st.entry _ <;> rfl
    · rfl

theorem Store.unlink_keeps (st : Store) (n : Nat) (e : Entry) :
    (st.unlink n e).freeList = st.freeList ∧ (st.unlink n e).freePasses = st.freePasses := by
  unfold Store.unlink
  dsimp only
  split <;> simp [Store.withChain]

theorem Store.unlink_rising (st : Store) (n : Nat) (e : Entry) (h : Sparse.rising st.table) :
    Sparse.rising (st.unlink n e).table := by
  unfold Store.unlink
  dsimp only
  split
  · exact h
  · exact Store.update_rising _ _ _ h

/-- R8: what a reclaim of an entry does. -/
theorem Store.reclaim_effect (st : Store) (n : Nat) (e : Entry) (he : st.entry n = some e)
    (h : Sparse.rising st.table) :
    (st.reclaim n).entry n = none
      ∧ (∀ m, m ≠ n → ((st.reclaim n).entry m).map (fun x => { x with position := none, checkFault := 0 })
        = (st.entry m).map (fun x => { x with position := none, checkFault := 0 }))
      ∧ (st.reclaim n).freeList = st.freeList ++ [n]
      ∧ (st.reclaim n).freePasses = st.freePasses + e.passes.length := by
  have hs (m : Nat) := Store.slot_withSlot (st.unlink n e) n (.free 0) m (Store.unlink_rising st n e h)
  have hr : st.reclaim n = { (st.unlink n e).withSlot n (.free 0) with
      freeList := (st.unlink n e).freeList ++ [n]
      freePasses := (st.unlink n e).freePasses + e.passes.length
      structureFault := 0 } := by
    unfold Store.reclaim
    rw [he]
    rfl
  have hent (m : Nat) : (st.reclaim n).entry m = ((st.unlink n e).withSlot n (.free 0)).entry m := by
    rw [hr]
    rfl
  refine ⟨?_, fun m hm => ?_, ?_, ?_⟩
  · rw [hent, Store.entry, hs, if_pos rfl]
  · rw [← Store.entry_unlink st n e m, hent, Store.entry, hs, if_neg hm]
    rfl
  · rw [hr, (Store.unlink_keeps st n e).1]
  · rw [hr, (Store.unlink_keeps st n e).2]

/-- R1: the entry after one in a chain, by the chain's two parts. -/
theorem successor_eq_some (n k : Nat) (c : List Nat) :
    successor n c = some k ↔ ∃ before after, c = before ++ n :: k :: after ∧ n ∉ before := by
  induction c with
  | nil => simp [successor]
  | cons a rest ih =>
    unfold successor
    split
    · rename_i h
      subst h
      constructor
      · intro hk
        cases rest with
        | nil => simp at hk
        | cons x xs => exact ⟨[], xs, by simpa using hk, by simp⟩
      · rintro ⟨before, after, hc, hb⟩
        cases before with
        | nil =>
          obtain rfl : rest = k :: after := (List.cons.inj hc).2
          rfl
        | cons y ys => exact absurd (by simp [(List.cons.inj hc).1]) hb
    · rename_i h
      rw [ih]
      constructor
      · rintro ⟨before, after, rfl, hb⟩
        exact ⟨a :: before, after, rfl, by simp [Ne.symm h, hb]⟩
      · rintro ⟨before, after, hc, hb⟩
        cases before with
        | nil => exact absurd (List.cons.inj hc).1 h
        | cons y ys => exact ⟨ys, after, (List.cons.inj hc).2, fun hm => hb (by simp [hm])⟩

/-- R1, R8: what a reclaim leaves at every other entry: the one after it in its bucket takes its position, and the rest
stand. -/
theorem Store.entry_reclaim (st : Store) (n : Nat) (e : Entry) (he : st.entry n = some e)
    (h : Sparse.rising st.table) (m : Nat) (hm : m ≠ n) :
    (st.reclaim n).entry m =
      if successor n (st.chain (bucketOf e.serial)) = some m
      then (st.entry m).map fun x => { x with position := e.position, checkFault := 0 } else st.entry m := by
  have hent : (st.reclaim n).entry m = ((st.unlink n e).withSlot n (.free 0)).entry m := by
    unfold Store.reclaim
    rw [he]
    rfl
  have hs : (st.reclaim n).entry m = (st.unlink n e).entry m := by
    rw [hent, Store.entry, Store.slot_withSlot _ _ _ _ (Store.unlink_rising st n e h), if_neg hm]
    rfl
  rw [hs]
  unfold Store.unlink
  dsimp only
  split
  · rename_i hn
    simp [hn]
  · rename_i k hk
    rw [Store.entry_withChain, Store.entry_update, hk]
    by_cases hkm : m = k
    · simp [hkm]
    · simp [hkm, Ne.symm hkm]

/-- A chain read after one is written. -/
theorem Store.chain_withChain (st : Store) (b : Nat) (c : List Nat) (x : Nat) (h : Sparse.rising st.buckets) :
    (st.withChain b c).chain x = if x = b then c else st.chain x := by
  unfold Store.chain Store.withChain
  dsimp only
  split
  · rename_i hc
    rw [Sparse.find_erase _ _ _ h]
    split <;> simp [hc]
  · rw [Sparse.find_insert]
    split <;> rfl

theorem Store.withChain_rising (st : Store) (b : Nat) (c : List Nat) (h : Sparse.rising st.buckets) :
    Sparse.rising (st.withChain b c).buckets := by
  unfold Store.withChain
  dsimp only
  split
  · exact Sparse.erase_rising _ _ h
  · exact Sparse.insert_rising _ _ _ h

/-- R6, R8: a reclaim takes its entry out of its bucket, the order of the rest kept, and leaves every other bucket. -/
theorem Store.chain_reclaim (st : Store) (n : Nat) (e : Entry) (he : st.entry n = some e)
    (h : Sparse.rising st.buckets) (b : Nat) :
    (st.reclaim n).chain b = if b = bucketOf e.serial then (st.chain b).erase n else st.chain b := by
  have hr : (st.reclaim n).chain b = (st.unlink n e).chain b := by
    unfold Store.reclaim
    rw [he]
    rfl
  rw [hr]
  unfold Store.unlink
  dsimp only
  split
  · rw [Store.chain_withChain _ _ _ _ h]
    split
    · rename_i hb
      rw [hb]
    · rfl
  · rw [Store.chain_withChain _ _ _ _ (by simpa using h), Store.chain_update]
    split
    · rename_i hb
      rw [hb]
    · rfl

/-- R8: a reclaim keeps both lists in their canonical form. -/
theorem Store.reclaim_rising (st : Store) (n : Nat) (h : Sparse.rising st.table) (h' : Sparse.rising st.buckets) :
    Sparse.rising (st.reclaim n).table ∧ Sparse.rising (st.reclaim n).buckets := by
  unfold Store.reclaim
  split
  · exact ⟨h, h'⟩
  · rename_i e he
    refine ⟨Store.withSlot_rising (st.unlink n e) n (.free 0) (Store.unlink_rising _ _ _ h), ?_⟩
    show Sparse.rising (st.unlink n e).buckets
    unfold Store.unlink
    dsimp only
    split
    · exact Store.withChain_rising _ _ _ h'
    · exact Store.withChain_rising _ _ _ (by simpa using h')

/-! ## Commits and entries listed -/

/-- The entries listed are those found. -/
theorem Store.mem_entries {st : Store} (hr : Sparse.rising st.table) (n : Nat) (e : Entry) :
    (n, e) ∈ st.entries ↔ st.entry n = some e := by
  simp only [Store.entries, List.mem_filterMap, Store.entry, Store.slot]
  constructor
  · rintro ⟨⟨a, x⟩, hm, h⟩
    cases x with
    | free c => simp at h
    | held y =>
      simp at h
      obtain ⟨rfl, rfl⟩ := h
      rw [Sparse.find_of_mem _ _ _ hr hm]
      rfl
  · intro h
    cases hf : Sparse.find st.table n with
    | none => simp [hf] at h
    | some x =>
      cases x with
      | free c => simp [hf] at h
      | held y =>
        simp [hf] at h
        subst h
        exact ⟨_, Sparse.mem_of_find _ _ _ hf, rfl⟩

theorem Entry.killIf_killIf (e : Entry) (a b : Bool) : (e.killIf a).killIf b = e.killIf (a || b) := by
  have hd : (e.become .dead).visible = false := rfl
  unfold Entry.killIf
  by_cases hv : e.visible = true
  · cases a <;> cases b <;> simp [hv, hd]
  · simp [hv]

@[simp] theorem Entry.killIf_keeps (e : Entry) (a : Bool) :
    (e.killIf a).serial = e.serial ∧ (e.killIf a).action = e.action ∧ (e.killIf a).fileTag = e.fileTag := by
  unfold Entry.killIf
  split <;> simp [Entry.become]

/-- What stands at an entry after the CANCELs of a file. -/
theorem Store.entry_cancelAll (effects : List PendingEffect) : ∀ (st : Store) (n : Nat),
    (st.cancelAll effects).entry n
      = (st.entry n).map fun e => e.killIf (decide (.cancel e.serial e.action ∈ effects)) := by
  induction effects with
  | nil =>
    intro st n
    simp [Store.cancelAll, Entry.killIf]
  | cons x xs ih =>
    intro st n
    cases x with
    | cancel a b =>
      simp only [Store.cancelAll, ih, Store.cancel, Store.entry_mapEntries, Option.map_map]
      congr 1
      funext e
      simp only [Function.comp, Entry.killIf_killIf, (Entry.killIf_keeps _ _).1, (Entry.killIf_keeps _ _).2.1]
      congr 1
      by_cases h : e.serial = a ∧ e.action = b
      · simp [h]
      · have : (e.serial == a && e.action == b) = false := by simpa using h
        simp [h, this]
    | _ => simp [Store.cancelAll, ih]

/-- The serials a file staged. -/
theorem Store.mem_stagedSerials {st : Store} (hr : Sparse.rising st.table) (x : BitVec 64) :
    x ∈ st.stagedSerials ↔ ∃ m a, st.entry m = some a ∧ a.state = .staged ∧ a.serial = x := by
  simp only [Store.stagedSerials, List.mem_map, List.mem_filter]
  constructor
  · rintro ⟨⟨m, a⟩, ⟨h1, h2⟩, h3⟩
    exact ⟨m, a, (Store.mem_entries hr _ _).1 h1, by simpa using h2, h3⟩
  · rintro ⟨m, a, h1, h2, h3⟩
    exact ⟨(m, a), ⟨(Store.mem_entries hr _ _).2 h1, by simpa using h2⟩, h3⟩

/-- R15: what a commit leaves at an entry. -/
theorem Store.entry_commit (st : Store) (c : CommitPayload) (n : Nat) :
    (st.commit c).entry n = (st.entry n).map fun e =>
      (if e.state = .staged then e.become .live else e).killIf
        ((st.stagedSerials.contains e.serial && e.fileTag != c.number)
          || (c.kind == .full && e.fileTag != c.number) || decide (.cancel e.serial e.action ∈ c.effects)) := by
  have hk (x : Store) :
      (match c.kind with
        | .delta => x
        | .full => x.mapEntries fun e => e.killIf (e.fileTag != c.number)).entry n
        = (x.entry n).map fun e => e.killIf (c.kind == .full && e.fileTag != c.number) := by
    cases c.kind with
    | delta => simp [Entry.killIf]
    | full => simp [Store.entry_mapEntries]
  unfold Store.commit
  dsimp only
  rw [Store.entry_cancelAll]
  refine (congrArg _ (hk _)).trans ?_
  simp only [Store.entry_mapEntries, Option.map_map]
  congr 1
  funext e
  have hb : (if e.state = .staged then e.become .live else e).serial = e.serial
      ∧ (if e.state = .staged then e.become .live else e).action = e.action
      ∧ (if e.state = .staged then e.become .live else e).fileTag = e.fileTag := by
    split <;> simp [Entry.become]
  simp only [Function.comp, Entry.killIf_killIf, (Entry.killIf_keeps _ _).1, (Entry.killIf_keeps _ _).2.1,
    (Entry.killIf_keeps _ _).2.2, hb.1, hb.2.1, hb.2.2, Bool.or_assoc]

/-- R9, R11: the entry a reclaim on demand picks is the lowest-numbered that may be reclaimed and meets the
condition. -/
theorem Store.lowestReclaimable_eq {st : Store} (hr : Sparse.rising st.table) (p : Entry → Bool) (n : Nat) (e : Entry)
    (he : st.entry n = some e) (h : e.reclaimable = true) (hp : p e = true)
    (hl : ∀ k < n, ∀ x, st.entry k = some x → (x.reclaimable && p x) = false) :
    st.lowestReclaimable p = some n := by
  have hs : st.entries.Pairwise fun a b => a.1 < b.1 := by
    unfold Store.entries
    rw [List.pairwise_filterMap]
    refine List.Pairwise.imp ?_ hr
    intro a b hab x hx y hy
    split at hx <;> split at hy <;> simp_all
    rw [← hx, ← hy]
    exact hab
  obtain ⟨before, after, hsplit⟩ := List.append_of_mem ((Store.mem_entries hr n e).2 he)
  unfold Store.lowestReclaimable
  have hnone : before.find? (fun x => x.2.reclaimable && p x.2) = none := by
    rw [List.find?_eq_none]
    intro x hx
    have hxm : x ∈ st.entries := by simp [hsplit, hx]
    rw [hsplit, List.pairwise_append] at hs
    have := hl x.1 (hs.2.2 x hx (n, e) (by simp)) x.2 ((Store.mem_entries hr x.1 x.2).1 hxm)
    simp [this]
  rw [hsplit, List.find?_append, hnone]
  simp [h, hp]

/-- R13: the earlier STAGED entry of a serial is DEAD; every other entry stands. -/
theorem Store.entry_killStaged (st : Store) (serial : BitVec 64) (k : Nat) :
    (st.killStaged serial).entry k
      = if st.stagedOf serial = some k then (st.entry k).map (·.become .dead) else st.entry k := by
  unfold Store.killStaged
  split
  · rename_i h
    simp [h]
  · rename_i m h
    rw [Store.entry_update, h]
    simp only [Option.some.injEq, eq_comm (a := m)]
    split <;> simp_all

theorem Store.killStaged_keeps (st : Store) (serial : BitVec 64) :
    (st.killStaged serial).freeList = st.freeList ∧ (st.killStaged serial).buckets = st.buckets
      ∧ (st.killStaged serial).freePasses = st.freePasses := by
  unfold Store.killStaged
  split <;> simp

theorem Store.killStaged_rising (st : Store) (serial : BitVec 64) (h : Sparse.rising st.table) :
    Sparse.rising (st.killStaged serial).table := by
  unfold Store.killStaged
  split
  · exact h
  · exact Store.update_rising _ _ _ h

end Sys2Proof.Machine
end

