-- ==== Sys2Proof/Machine/Timing.lean ====
section
/-! DEFINITION. How long the part's own work takes, in steps of 0.25 microseconds (R21, R179). These figures drive
nothing in the model (logs 17, 36). -/

namespace Sys2Proof.Machine

/-- R17: the entries a lookup examines in a chain. -/
def Store.examined (st : Store) (serial : BitVec 64) : List Nat → Nat
  | [] => 0
  | n :: rest =>
    if (st.entry n).any fun e => e.visible && e.serial == serial then 1 else 1 + st.examined serial rest

/-- R21: whether a decision changes the answering entry: its state, for a pin alone counts no step (log 36). -/
def Decision.changesEntry (d : Decision) : Bool :=
  match d with
  | .none => false
  | .restore _ _ _ => false
  | .block _ _ => false
  | .blockOnly _ => false
  | .skipApplied => false
  | .skipLive _ => true
  | .skipBlock => false
  | .defer _ => false
  | .expired => true

/-- R21: a lookup. -/
def Store.lookupSteps (st : Store) (serial : BitVec 64) (d : Decision) : Nat :=
  2 + st.examined serial (st.chain (bucketOf serial)) + (if d.changesEntry then 1 else 0)

/-- R21: a confirmation mark. -/
def markSteps : Nat := 2

/-- The steps of a reclaim on demand: 4 where an entry is there to be reclaimed. -/
def reclaimSteps (needed : Bool) (candidate : Option Nat) : Nat := if needed && candidate.isSome then 4 else 0

/-- R21: a stage-entry. -/
def Store.stageEntrySteps (st : Store) (serial : BitVec 64) : Nat :=
  4 + (st.chain (bucketOf serial)).length
    + reclaimSteps (st.killStaged serial).freeList.isEmpty ((st.killStaged serial).lowestReclaimable fun _ => true)

/-- R21: a stage-pass: one entry reclaimed on demand frees a pass record at least. -/
def Store.stagePassSteps (st : Store) : Nat :=
  2 + reclaimSteps (st.freePasses == 0) (st.lowestReclaimable fun e => !e.passes.isEmpty)

/-- The entries whose state differs between two tables. -/
def Store.changedStates (before after : Store) : Nat :=
  (before.entries.filter fun x => (after.entry x.1).any fun e => e.state != x.2.state).length

/-- A CANCEL record. -/
def PendingEffect.isCancel (e : PendingEffect) : Bool :=
  match e with
  | .cancel _ _ => true
  | .windows _ => false
  | .policy _ _ => false
  | .keys _ => false
  | .clock _ => false
  | .sweep => false

/-- R21: a commit. -/
def Store.commitSteps (st : Store) (c : CommitPayload) : Nat :=
  4 + st.changedStates (st.commit c) + (c.effects.filter (·.isCancel)).length

/-- R21: a discard. -/
def Store.discardSteps (st : Store) : Nat := 2 + st.changedStates st.discard

/-- R21, R153: a sweep step. -/
def sweepStepSteps : Nat := 2

/-- R179: the whole walk: one step an entry and one more for each STAGED entry made DEAD, the two checks, the setup,
the queue with each outcome held, and a rebuild. -/
def Part.walkSteps (p : Part) : Nat :=
  Config.tableSize
    + (p.store.entries.filter fun x => x.2.checkFault == 0 && x.2.state == .staged).length
    + 2
    + (if p.setupCheckHolds then 1 else 2)
    + (1 + p.queue.outcomes.length)
    + (if p.finishWalk.walkNow.failed then Config.tableSize else 0)

end Sys2Proof.Machine
end

