-- ==== Sys2Proof/WellFormed.lean ====
section
/-! DEFINITION. Which commands are well formed. R157: a cycle arrives with at least one of the two lane selects
asserted. Every other operand may take every value of its type, so nothing else is checked; a cycle with neither
lane, which R157 also describes, can be sent as a PASS_THROUGH_CYCLE. -/

namespace Sys2Proof

/-- At least one lane is selected. -/
def Lanes.any (l : Lanes) : Bool := l.upper || l.lower

/-- The lanes in which bytes stand. -/
def LaneBytes.lanes (b : LaneBytes) : Lanes := ⟨b.upper.isSome, b.lower.isSome⟩

/-- R157, for the five rows that are cycles handed or copied to a block. -/
def Instr.wellFormed : Instr → Bool
  | .fileWindowWrite _ b => b.lanes.any
  | .imageWindowWrite _ b => b.lanes.any
  | .imageWindowRead _ l => l.any
  | .journalWrite _ b => b.lanes.any
  | .clockWordWrite _ b => b.lanes.any
  | .passThroughCycle _ _ => true
  | .processorCycleEnd => true
  | .settleWriteStart => true
  | .settleWriteComplete => true
  | .lookup => true
  | .confirmationMark => true
  | .stageEntry => true
  | .stagePass => true
  | .commit => true
  | .discard => true
  | .sweepStep => true
  | .pinRelease => true
  | .holdExpiry => true
  | .intakeHoldExpiry => true
  | .awaitExpiry _ => true
  | .attentionHoldExpiry => true
  | .slotEnd => true
  | .clockSecond => true
  | .lockoutExpiry => true
  | .verificationWalkComplete => true
  | .vmainGood _ => true
  | .vmainFall => true
  | .vkeepGood => true
  | .vkeepLow => true
  | .vkeepLost => true
  | .resetN _ => true

end Sys2Proof
end

