-- ==== Sys2Proof/Tests/Slice0.lean ====
section
/-! SUPPORT. Tests: ill-formed commands, worked figures of the manual, and for each statement of the obligations a
state and operands that meet its hypotheses, clause by clause. -/

namespace Sys2Proof.Tests

open Sys2Proof Sys2Proof.Machine

/-! ## Ill-formed commands (R157) -/

theorem test_illFormed_fileWindowWrite : (Instr.fileWindowWrite 0 ⟨none, none⟩).wellFormed = false := by decide
theorem test_illFormed_imageWindowWrite : (Instr.imageWindowWrite 0 ⟨none, none⟩).wellFormed = false := by decide
theorem test_illFormed_imageWindowRead : (Instr.imageWindowRead 0 ⟨false, false⟩).wellFormed = false := by decide
theorem test_illFormed_journalWrite : (Instr.journalWrite 0 ⟨none, none⟩).wellFormed = false := by decide
theorem test_illFormed_clockWordWrite : (Instr.clockWordWrite 0 ⟨none, none⟩).wellFormed = false := by decide
theorem test_wellFormed_oneLane : (Instr.journalWrite 7 ⟨some 1, none⟩).wellFormed = true := by decide
theorem test_noWordSpellsACommand : decodeTableWord 16 0x1234 = none := by decide

/-! ## Figures the manual works out -/

/-- R5: three serials of bucket 3,294, and one of bucket 0. -/
theorem test_buckets :
    bucketOf 0x000000123456789A = 3294 ∧ bucketOf 0x0000000000004CDE = 3294 ∧ bucketOf 0x0000000010005CDE = 3294
      ∧ bucketOf 0x0123456789ABCDEF = 0 := by decide

/-- R192: the register after each byte of the word 0000 hex, and the reference of nine bytes. -/
theorem test_crc16 :
    crc16Byte 0xFFFF 0 = 0xE1F0 ∧ crc16 [0] = 0x1D0F
      ∧ crc16Byte (crc16 [0x3132, 0x3334, 0x3536, 0x3738]) 0x39 = 0x29B1 := by decide +kernel

/-- R193: the reference of nine bytes, before and after its inversion. -/
theorem test_crc32 :
    crc32Byte (crc32Run crc32Start [0x3132, 0x3334, 0x3536, 0x3738]) 0x39 = 0x0376E6E7
      ∧ crc32Final 0x0376E6E7 = 0xFC891918 := by decide +kernel

/-- R188: the annex of a RESTORED outcome. -/
theorem test_annex :
    annexWords ⟨.restored, 0, 9120, 1850, 1, 0, .attached 4411⟩ 4411 .following
      = [0x0101, 0x0000, 0x23A0, 0x0000, 0x073A, 0x0002, 0x113B] := by decide

/-- R29: a strap level whose base is aligned down to its size. -/
theorem test_fileWindow : fileWindowOf 0b1110000001 = ⟨0x800000, 3⟩ ∧ (fileWindowOf 0b0010000001).base = 0x810000 := by
  decide

/-- R68: a write of one lane to a PENDING overlay word is widened with the overlay's other byte. -/
theorem test_widened : widened 0x1234 ⟨some 0xAB, none⟩ = ⟨some 0xAB, some 0x34⟩ := by decide

/-- R146: the table of a clock word followed with a tolerance of 5 seconds. -/
theorem test_follow :
    agrees none 952199990 5 = false ∧ agrees (some 952199990) 952199991 5 = true
      ∧ agrees (some 952199991) 952300000 5 = false ∧ agrees (some 952300000) 952199993 5 = false
      ∧ agrees (some 952199993) 952199994 5 = true := by decide

/-- R88: a FILL takes the first empty slot; a REPLACE the slot of its own product first. -/
theorem test_places :
    placePass ⟨31, 6, 1, 2, .fill⟩ [⟨5, 0, 0, 0⟩, ⟨0, 9, 9, 9⟩] = some [⟨5, 0, 0, 0⟩, ⟨31, 6, 1, 2⟩]
      ∧ placePass ⟨5, 6, 1, 2, .replace⟩ [⟨0, 0, 0, 0⟩, ⟨5, 9, 9, 9⟩] = some [⟨0, 0, 0, 0⟩, ⟨5, 6, 1, 2⟩]
      ∧ placePass ⟨31, 6, 1, 2, .fill⟩ [⟨5, 0, 0, 0⟩] = none := by decide

/-- The worked restore: purse 420 and amount 1,850, action 9,120 over 9,050, a pass into slot 0. -/
theorem test_workedRestore :
    let image := (([0, 0, 0, 7, 0, 0, 420, 0, 0, 9050] : List Word) ++ List.replicate 22 0)
    let i : DecisionInputs := ⟨image, some 11010, 1000000, 64⟩
    (decideFor i (some ⟨7, .restore ⟨9120, 1850, 0, [⟨31, 6, 11000, 11029, .fill⟩]⟩, .live, 9120, 0xFFFF, 8004, 0,
      none, 0⟩) = .restore (restoredImage image 1850 9120 [⟨31, 6, 11000, 11029⟩, ⟨0, 0, 0, 0⟩, ⟨0, 0, 0, 0⟩,
        ⟨0, 0, 0, 0⟩]) 1 0)
      ∧ (overlayOf image (restoredImage image 1850 9120 [⟨31, 6, 11000, 11029⟩, ⟨0, 0, 0, 0⟩, ⟨0, 0, 0, 0⟩,
        ⟨0, 0, 0, 0⟩]) (List.replicate 32 ⟨false, false⟩)).map (·.word) = [6, 9, 10, 11, 12, 13, 31] := by
  decide +kernel

/-- R140: the slots 103 and 104 of the manual's table. -/
theorem test_slots :
    (⟨false, none, true, true, true, false⟩ : Monitor).runOfThree = true
      ∧ (⟨false, none, true, true, true, true⟩ : Monitor).runOfThree = false := by decide

/-- R189: the flags of a report's word 29. -/
theorem test_flagAt : (flagAt true 2 ||| flagAt true 5 : Word) = 0x24 := by decide

/-- R21: the worked steps of a RESTORE found by a lookup: the decision's pin counts no step, an observed action one. -/
theorem test_steps_decisions :
    (Decision.restore [] 0 0).changesEntry = false ∧ (Decision.skipLive true).changesEntry = true
      ∧ Decision.expired.changesEntry = true ∧ Decision.skipApplied.changesEntry = false := by decide

/-! ## States for the witnesses -/

/-- An image window at word address 2000 hex, a journal window of 4 KiB at 8000 hex, a clock word at 10000 hex. -/
def windows : Windows := ⟨⟨some 0x100, none, none, none⟩, some ⟨0x010000, 0⟩, some 0x020000⟩

/-- Key 0 a TAP of kind 11 hex, key 1 a HEARTBEAT of kind 22 hex. -/
def keys : Four JournalKey := ⟨⟨0x11, 0, .tap⟩, ⟨0x22, 0, .heartbeat⟩, ⟨0, 0, .none⟩, ⟨0, 0, .none⟩⟩

/-- The setup of a gate in ACTIVE. -/
def setup : Setup :=
  { windows := windows, policy := { Setup.cold.policy with mode := .active, attentionMode := .repeated }, keys := keys }

/-- A table of nothing but a free list of one number. -/
def smallStore : Store := { Store.cold with freeList := [7] }

/-- The part in RUN under that setup, with a file window of 64 KiB at word address 400000 hex. -/
def run : Part :=
  { Part.reset with
    supply := .run, keepValid := some true, vkeep := .good, setup := setup, store := smallStore
    path := MemoryPath.quiet (some ⟨0x800000, 0⟩) }

/-- A part with no command waiting. -/
def at_ (p : Part) : State := { p with pending := [] }

/-- A serial, and a card image that carries it with zeros. -/
def card : List Word := [0, 0, 0, 0x4CDE] ++ List.replicate 28 0

/-- Its serial. -/
def serial : BitVec 64 := 0x4CDE

/-- A RESTORE entry of action 9, LIVE, for the card. -/
def restoreEntry : Entry :=
  ⟨serial, .restore ⟨9, 100, 0, []⟩, .live, 9, 0xFFFF, 3, 0, none, 0⟩

/-- A BLOCK entry of action 9, LIVE, flagged for attention. -/
def blockEntry : Entry := ⟨serial, .block true, .live, 9, 0xFFFF, 3, 0, none, 0⟩

/-- A table that holds one entry, number 5, for the card. -/
def storeOf (e : Entry) : Store := { smallStore with table := [(5, .held e)], buckets := [(3294, [5])] }

/-- Nothing written since the snapshot. -/
def unwritten : List Lanes := List.replicate 32 ⟨false, false⟩

/-- Context 0 in LOOKUP for the card, its lookup granted; the table holds `e`; `outcomes` stand in the queue. -/
def looking (e : Entry) (outcomes : List Outcome) (clock : DayClock) : Part :=
  { run with
    store := storeOf e, contexts := ⟨.lookup card unwritten, .empty, .empty, .empty⟩
    arbiter := { Arbiter.idle with op := some (.lookup 0 serial true) }
    queue := { OutcomeQueue.cold with outcomes := outcomes }, clock := clock }

/-- A clock SET on service day 100. -/
def day100 : DayClock := ⟨8640000, .set, false⟩

/-- An UNREPORTED outcome. -/
def reported : Outcome := ⟨.observed, serial, 1, 0, 0, 0, .unreported 3⟩

/-- A presentation of the card, RESTORE, with words 6 and 31 to settle, its await running. -/
def presentation : Presentation :=
  ⟨card, unwritten, .restore, 5, 9, [⟨6, 100, true⟩, ⟨31, 0x7777, true⟩], false, .running 8⟩

/-- Context 0 in AMENDED with a presentation. -/
def amended (pr : Presentation) : Part :=
  { run with
    contexts := ⟨.amended pr, .empty, .empty, .empty⟩, awaitOrder := [0], store := storeOf restoreEntry
    queue := { OutcomeQueue.cold with outcomes := [⟨.restored, serial, 9, 100, 0, 0, .reserved 0⟩] } }

/-- The settle write of a window word of context 0. -/
def settle (k : Nat) (v : Word) : SettleWrite := ⟨0, k, BitVec.ofNat 23 (0x2000 + k), v, true⟩

/-- A part with that settle write on the M-port. -/
def settling (pr : Presentation) (k : Nat) (v : Word) : Part :=
  { amended pr with path := { run.path with settleWrite := some (settle k v) } }

/-- A staging file of number 4. -/
def staging : StagingFile := ⟨4, .full, 9, 2, 0, 1, [], some 5⟩

/-- Intake in RECEIVING at a cursor. -/
def receiving (c : Cursor) : Intake :=
  { Intake.draining with state := .receiving, cursor := c, staging := some staging }

/-- An intake operation in progress for the record at the head of the buffer. -/
def intakeOp (c : IntakeClaim) (st : Store) : Part :=
  { run with
    arbiter := { Arbiter.idle with op := some (.intake c) }, store := st
    intake := { receiving .closed with buffer := [[]] } }

/-- The record copy of a journal record whose words below `n` are complete. -/
def copyUpTo (n : Nat) : List LaneBytes :=
  List.replicate n ⟨some 0, some 0⟩ ++ List.replicate (32 - n) ⟨none, none⟩

/-- A part with an assembly of record 0. -/
def assembling (role : AssemblyRole) (n : Nat) : Part := { run with journal := some ⟨0, role, copyUpTo n, none⟩ }

/-- The role of a tap record that has found its outcome. -/
def matched : AssemblyRole := .tap true (.outcome reported 3 .set) false

/-- A read of word 6 of the image window held for context 0. -/
def heldRead : Cycle := ⟨0x2006, .context 0, .read ⟨true, true⟩ .hold⟩

/-- The memory path with a cycle in progress. -/
def pathWith (c : Cycle) : MemoryPath := { run.path with cycle := some c, hold := some 60 }

/-- R21: a stage-entry on an empty free list counts 4 steps more where an entry is there to be reclaimed, and none more
where the table is full. -/
theorem test_steps_stageEntry :
    (storeOf { restoreEntry with state := .dead }).stageEntrySteps serial = 5
      ∧ ({ storeOf { restoreEntry with state := .dead } with freeList := [] } : Store).stageEntrySteps serial = 9
      ∧ ({ storeOf restoreEntry with freeList := [] } : Store).stageEntrySteps serial = 5 := by decide

/-- R179: an outcome held counts its step in stage 5 where the queue check fails as well. -/
theorem test_steps_walk :
    ({ run with supply := .verify, queue := ⟨[reported], 1, 0, 0⟩ } : Part).walkSteps
      = ({ run with supply := .verify, queue := ⟨[reported], 0, 0, 0⟩ } : Part).walkSteps := by decide +kernel

/-- R177: a cold initialisation from KEEP that a fall of main supply cuts leaves KEEP with keep-valid false; left to
itself it is in LOCKOUT with keep-valid true. -/
theorem test_coldInit_cut :
    let p : Part := { Part.reset with supply := .keep, keepValid := some false, vkeep := .good }
    ((p.mainGood 0).mainFall.supply = .keep ∧ (p.mainGood 0).mainFall.keepValid = some false
        ∧ (p.mainGood 0).mainFall.initialising = none)
      ∧ (p.mainGood 0).tick.supply = .lockout ∧ (p.mainGood 0).tick.keepValid = some true := by decide +kernel

/-! ## Witnesses: the queue and the memory path -/

theorem test_witness_StepRunsTheFrontCommand :
    ({ at_ run with pending := [.slotEnd] } : State).pending = .slotEnd :: [] := by decide

theorem test_witness_EmptyQueueStep :
    (at_ run).pending = [] ∧ (at_ run).supply ≠ .verify
      ∧ (at_ { run with supply := .verify }).pending = [] ∧ (at_ { run with supply := .verify }).supply = .verify
      ∧ (at_ { Part.reset with initialising := some .atVkeep }).supply = .off
      ∧ (at_ { Part.reset with initialising := some (.atVmain 5) }).initialising = some (.atVmain 5) := by decide

/-- The part in VERIFY at a stage of the walk. -/
def walking (stage : WalkStage) (failed : Bool) (q : OutcomeQueue) : Part :=
  { run with
    supply := .verify, walk := some ⟨stage, failed⟩, queue := q
    store := { smallStore with table := [(5, .held { restoreEntry with state := .staged }), (6, .free 3)] } }

theorem test_witness_WalkStepTaken :
    (at_ (walking (.entry 16383) false OutcomeQueue.cold)).pending = []
      ∧ (at_ (walking (.entry 16383) false OutcomeQueue.cold)).supply = .verify
      ∧ (walking (.entry 5) false OutcomeQueue.cold).walk = some ⟨.entry 5, false⟩
      ∧ Sparse.rising (walking (.entry 5) false OutcomeQueue.cold).store.table
      ∧ (walking (.entry 5) false OutcomeQueue.cold).store.slot 5 = .held { restoreEntry with state := .staged }
      ∧ (walking (.entry 5) false OutcomeQueue.cold).store.slot 6 = .free 3
      ∧ restoreEntry.checkFault = 0 ∧ ({ restoreEntry with checkFault := 1 } : Entry).checkFault ≠ 0
      ∧ (walking .structureCheck true OutcomeQueue.cold).walk = some ⟨.structureCheck, true⟩
      ∧ (walking .fileNumber false OutcomeQueue.cold).walk = some ⟨.fileNumber, false⟩
      ∧ (walking .setup false OutcomeQueue.cold).setupFault = 0
      ∧ ({ walking .setup true OutcomeQueue.cold with setupFault := 1 } : Part).setupFault ≠ 0
      ∧ (walking .queueCheck false OutcomeQueue.cold).queue.checkFault = 0
      ∧ (walking .queueCheck true ⟨[], 1, 0, 0⟩).queue.checkFault ≠ 0 := by decide

/-- An outcome held RESERVED for context 0, and an ATTACHED one. -/
def reservedFor0 : Outcome := ⟨.restored, serial, 9, 100, 0, 0, .reserved 0⟩

/-- The outcome that a tap record carries. -/
def attachedOne : Outcome := ⟨.restored, serial, 9, 100, 0, 0, .attached 4⟩

theorem test_witness_WalkStepTaken_queueAndRebuild :
    let q : OutcomeQueue := ⟨[reservedFor0, attachedOne, reported], 0, 0, 0⟩
    (walking (.queueItem 0) false q).queue.outcomes[0]? = some reservedFor0 ∧ reservedFor0.state = .reserved 0
      ∧ (walking (.queueItem 1) false q).queue.outcomes[1]? = some attachedOne ∧ attachedOne.state = .attached 4
      ∧ (walking (.queueItem 2) true q).queue.outcomes[2]? = some reported ∧ reported.state = .unreported 3
      ∧ (walking (.queueItem 3) true q).queue.outcomes[3]? = none
      ∧ (walking (.rebuild 0) true q).walk = some ⟨.rebuild 0, true⟩
      ∧ (walking (.rebuild 16382) true q).walk = some ⟨.rebuild 16382, true⟩
      ∧ (walking (.rebuild 16383) true q).walk = some ⟨.rebuild 16383, true⟩
      ∧ (walking .done true q).walk = some ⟨.done, true⟩ := by decide

theorem test_takesAtOnce : run.takesAtOnce := ⟨by decide, by decide, rfl⟩

theorem test_witness_UndecodedCyclePasses :
    (at_ run).takesAtOnce ∧ (at_ run).region 0x1FFF = .outside ∧ (at_ run).region 0x400000 = .file 0
      ∧ (at_ run).region 0x2020 = .outside ∧ (at_ run).path.hold = none
      ∧ (at_ { run with path := pathWith heldRead }).path.hold ≠ none
      ∧ (at_ (settling presentation 6 100)).accepts = true
      ∧ (at_ (settling presentation 6 100)).path.settleWrite = some (settle 6 100) :=
  ⟨test_takesAtOnce, by decide, by decide, by decide, by decide, by decide, by decide, by decide⟩

theorem test_witness_RegionsDecoded :
    (at_ Part.reset).supply ≠ .run ∧ (at_ { run with setup := Setup.cold }).setup.policy.mode = .bypass
      ∧ (at_ run).supply = .run ∧ (at_ run).path.fileWindow = some ⟨0x800000, 0⟩
      ∧ (at_ run).setup.policy.mode = .active
      ∧ (at_ run).region 0x407FFF = .file 0x7FFF ∧ (at_ run).region 0x408000 = .outside
      ∧ fourAt (at_ run).setup.windows.image 0 = some 0x100 ∧ (0x201F : BitVec 23).toNat / 32 = (0x100 : BitVec 18).toNat
      ∧ (∀ m : Fin 4, m ≠ 0 → fourAt (at_ run).setup.windows.image m ≠ some 0x100)
      ∧ (at_ run).region 0x201F = .image 0 31
      ∧ (at_ run).setup.windows.journal = some ⟨0x010000, 0⟩ ∧ (at_ run).region 0x8000 = .journal 0 0
      ∧ (at_ run).region 0x87FF = .journal 63 31 ∧ (at_ run).region 0x8800 = .outside
      ∧ (at_ run).setup.windows.clockWord = some 0x020000 ∧ (at_ run).region 0x10000 = .clock false
      ∧ (at_ run).region 0x10001 = .clock true ∧ (at_ run).region 0x10002 = .outside := by decide

/-- R160: a word past every region is decoded nowhere: the one behind the clock word's second. -/
theorem test_witness_RegionsDecoded_outside :
    let s := at_ run
    let w : BitVec 23 := 0x10002
    (∀ f, s.path.fileWindow = some f →
        ¬ (f.base.toNat / 2 ≤ w.toNat ∧ w.toNat < f.base.toNat / 2 + f.bytes / 2))
      ∧ (∀ n b, fourAt s.setup.windows.image n = some b → w.toNat / 32 ≠ b.toNat)
      ∧ (∀ j, s.setup.windows.journal = some j →
        ¬ (j.base.toNat / 2 ≤ w.toNat ∧ w.toNat < j.base.toNat / 2 + 2048 * 2 ^ j.sizeCode))
      ∧ (∀ a, s.setup.windows.clockWord = some a → w.toNat ≠ a.toNat / 2 ∧ w.toNat ≠ a.toNat / 2 + 1)
      ∧ s.region w = .outside := by
  refine ⟨fun f h => ?_, fun n b h => ?_, fun j h => ?_, fun a h => ?_, by decide⟩
  · obtain rfl : _ = f := by simpa [at_, run, MemoryPath.quiet] using h
    decide
  · fin_cases n <;> simp only [at_, run, setup, windows, fourAt, Option.some.injEq, reduceCtorEq] at h
    subst h
    decide
  · obtain rfl : _ = j := by simpa [at_, run, setup, windows] using h
    decide
  · obtain rfl : _ = a := by simpa [at_, run, setup, windows] using h
    decide

/-- R29: the strap levels at the ends of their range. -/
theorem test_witness_RegionsDecoded_straps :
    fileWindowOf 0 = ⟨0, 0⟩ ∧ fileWindowOf 0x3FF = ⟨0xF80000, 3⟩ ∧ (fileWindowOf 0x0FF).bytes = 65536 := by decide

theorem test_witness_SettleWriteGrantedInTurn :
    let s := at_ (amended presentation)
    s.supply = .run ∧ s.path.cycle = none ∧ s.path.waiting = none ∧ s.path.settleWrite = none
      ∧ [s.path.lastGranted + 1, s.path.lastGranted + 2, s.path.lastGranted + 3, s.path.lastGranted]
        = [] ++ 0 :: [1, 2, 3]
      ∧ s.settleRequest 0 = some ⟨6, 100, true⟩ ∧ fourAt s.setup.windows.image 0 = some 0x100
      ∧ s.context 0 = .amended presentation ∧ presentation.overlay.Pairwise (fun a b => a.word < b.word)
      ∧ (at_ (settling presentation 6 100)).path.settleWrite = some (settle 6 100) ∧ (settle 6 100).owned = true
      ∧ (settle 6 100).context = 0 := by decide

/-- The presentation with its overlay down to the word that is being settled. -/
def lastWord : Presentation := { presentation with overlay := [⟨31, 0x7777, true⟩] }

theorem test_witness_SettleWriteCompletes :
    (at_ (settling presentation 6 100)).path.settleWrite = some (settle 6 100)
      ∧ (at_ (settling presentation 6 100)).path.waiting = none
      ∧ (at_ (settling presentation 6 100)).context 0 = .amended presentation
      ∧ (presentation.markWritten 6).overlay.any (·.pending) = true
      ∧ (lastWord.markWritten 31).overlay.any (·.pending) = false ∧ lastWord.await = .running 8
      ∧ lastWord.confirmed = false ∧ lastWord.confirm.confirmed = true
      ∧ (lastWord.confirm.markWritten 31).overlay.any (·.pending) = false
      ∧ (at_ (settling lastWord.confirm 31 0x7777)).arbiter.op = none := by decide

/-- What is left to settle once the await of the presentation has expired; and a settle write no longer its context's. -/
theorem test_witness_SettleWriteCompletes_others :
    let expired : Presentation := { lastWord with await := .expired }
    ((expired.markWritten 31).overlay.any (·.pending) = false ∧ expired.confirmed = false ∧ expired.await ≠ .running 8)
      ∧ (at_ { settling presentation 6 100 with path := { run.path with
          settleWrite := some { settle 6 100 with owned := false }, waiting := some (0x2006, .read ⟨true, true⟩) } }
        ).path.waiting = some (0x2006, .read ⟨true, true⟩)
      ∧ (at_ (settling presentation 6 100)).path.cycle = none ∧ (at_ (settling presentation 6 100)).supply = .run
      ∧ ({ settle 6 100 with owned := false } : SettleWrite).owned = false := by decide

theorem test_witness_SettleWriteCompletes_granted :
    (at_ (settling presentation 6 100)).claimsGranted ∧ (at_ (settling lastWord 31 0x7777)).claimsGranted
      ∧ (at_ (settling lastWord.confirm 31 0x7777)).claimsGranted := ⟨rfl, rfl, rfl⟩

/-! ## Witnesses: the file window -/

/-- An intake operation in progress, in RECEIVING with the cursor at word 3. -/
def midFile (c : IntakeClaim) : Part :=
  { run with
    arbiter := { Arbiter.idle with op := some (.intake c) }, intake := receiving (.onWord 3 ⟨none, none⟩) }

/-- The same with two records that wait behind the operation, the answer to be ignored or not. -/
def waiting (c : IntakeClaim) (ignored : Bool) (held : Option FileRecord) : Part :=
  { midFile c with intake := { (midFile c).intake with buffer := [[], []], answerIgnored := ignored, held := held } }

theorem test_witness_FileWordAccepted :
    (at_ run).takesAtOnce ∧ (at_ (waiting .discard true none)).takesAtOnce
      ∧ (at_ { run with intake := receiving (.onWord 3 ⟨some 1, none⟩) }).toPart.intakeWaits
      ∧ (at_ (waiting .discard true none)).toPart.intakeWaits
      ∧ (at_ (waiting .discard true none)).region 0x400003 = .file 3
      ∧ (at_ (waiting .discard true none)).intake.state = .receiving
      ∧ (at_ (waiting .discard true none)).intake.cursor = .onWord 3 ⟨none, none⟩ ∧ 3 % 16 ≠ 15 := by
  refine ⟨test_takesAtOnce, ⟨by decide, by decide, rfl⟩, ?_, ?_, by decide, rfl, rfl, by decide⟩
  · exact ⟨by decide, fun h => absurd rfl h, fun h => absurd rfl h, fun h => absurd rfl h,
      fun c h => absurd h (by simp [at_, run, MemoryPath.quiet])⟩
  · exact ⟨by decide, fun _ => .inl rfl, fun h => absurd rfl h, fun h => absurd rfl h,
      fun c h => absurd h (by simp [at_, waiting, midFile, run, MemoryPath.quiet])⟩

theorem test_witness_FileBegins :
    (at_ run).takesAtOnce ∧ (at_ run).region 0x400000 = .file 0 ∧ (at_ run).intake.held = none
      ∧ (at_ run).intake.state ≠ .receiving ∧ (at_ run).intake.buffer = []
      ∧ (at_ { run with intake := receiving (.onWord 3 ⟨none, none⟩) }).intake.state = .receiving
      ∧ (at_ { run with intake := receiving (.onWord 3 ⟨none, none⟩) }).intakeRunning = none
      ∧ (at_ (midFile .discard)).arbiter.op = some (.intake .discard)
      ∧ (at_ (midFile (.commit ⟨4, .full, []⟩))).arbiter.op = some (.intake (.commit ⟨4, .full, []⟩))
      ∧ (at_ (midFile (.commit ⟨4, .full, []⟩))).intake.answerIgnored = false :=
  ⟨test_takesAtOnce, by decide, by decide, by decide, by decide, by decide, by decide, by decide, by decide, by decide⟩

theorem test_witness_FileBegins_takesAtOnce :
    (at_ (midFile .discard)).takesAtOnce ∧ (at_ (midFile (.commit ⟨4, .full, []⟩))).takesAtOnce
      ∧ ∀ written, (at_ (midFile .discard)).intake.cursor ≠ .onWord 0 written :=
  ⟨⟨by decide, by decide, rfl⟩, ⟨by decide, by decide, rfl⟩, fun _ h => by simp [at_, midFile, receiving] at h⟩

/-- R33: a newer file in hand while an older file's granted commit runs, its answer ignored already (log 31). -/
theorem test_witness_FileBegins_newer :
    let s := at_ (waiting (.commit ⟨4, .full, []⟩) true none)
    s.takesAtOnce ∧ s.region 0x400000 = .file 0 ∧ s.intake.held = none ∧ s.intake.state = .receiving
      ∧ (∀ written, s.intake.cursor ≠ .onWord 0 written)
      ∧ s.arbiter.op = some (.intake (.commit ⟨4, .full, []⟩)) ∧ s.intake.answerIgnored = true :=
  ⟨⟨by decide, by decide, rfl⟩, by decide, rfl, rfl, fun _ h => by simp [at_, waiting, midFile, receiving] at h, rfl,
    rfl⟩

theorem test_witness_FileRefusedMidway :
    let s := at_ { run with intake := receiving (.onWord 3 ⟨none, none⟩) }
    s.takesAtOnce ∧ s.region 0x400004 = .file 4 ∧ s.intake.state = .receiving
      ∧ s.intake.cursor = .onWord 3 ⟨none, none⟩ ∧ s.intakeRunning = none
      ∧ (at_ (midFile .discard)).intake.cursor = .onWord 3 ⟨none, none⟩
      ∧ (at_ { run with path := pathWith ⟨0x400007, .fileIntake, .write ⟨some 1, some 2⟩ .hold⟩ }).path.cycle
        = some ⟨0x400007, .fileIntake, .write ⟨some 1, some 2⟩ .hold⟩
      ∧ (at_ { run with intake := receiving .closed }).intake.cursor = .closed
      ∧ (at_ run).intake.state ≠ .receiving ∧ (at_ run).intake.held = none ∧ (at_ run).intake.buffer = [] :=
  ⟨⟨by decide, by decide, rfl⟩, by decide, rfl, rfl, by decide, by decide, by decide, by decide, by decide, by decide,
    by decide⟩

/-- A record of a kind whose words but its check are zero, under an ordinal. -/
def bareRecord (kind ordinal : Word) : FileRecord := [kind <<< 8, ordinal] ++ List.replicate 13 0

/-- It with its check word. -/
def recordOf (kind ordinal : Word) : FileRecord := bareRecord kind ordinal ++ [crc16 (bareRecord kind ordinal)]

/-- A staging file of 9 records to come that owes `owed` passes. -/
def owing (expected owed : Nat) : StagingFile := ⟨4, .full, expected, 2, 0, owed, [], some 5⟩

/-- One record for each of the checks 1 to 7 that fails it alone, and one that fails none. -/
theorem test_witness_RecordChecksInOrder :
    let f : FileWindow := ⟨0x800000, 0⟩
    checkRecord 3 (some f) (some (owing 9 0)) (List.replicate 16 0) = .error .badCheck
      ∧ checkRecord 3 (some f) (some (owing 9 0)) (recordOf 10 3) = .error .order
      ∧ checkRecord 3 (some f) none (recordOf 10 0) = .error .noHeader
      ∧ checkRecord 3 (some f) (some (owing 9 0)) (recordOf 12 2) = .error .shape
      ∧ checkRecord 3 (some f) (some { owing 2047 0 with taken := 2047 }) (recordOf 10 2047) = .error .overrun
      ∧ checkRecord 3 (some f) (some (owing 2 0)) (recordOf 10 2) = .error .count
      ∧ checkRecord 3 (some f) (some (owing 3 1)) (recordOf 10 2) = .error .shape
      ∧ checkRecord 3 (some f) (some (owing 3 0)) (recordOf 10 2) = .ok (.effect .sweep) := by decide +kernel

/-- A record by its words that are not zero. -/
def recordWith (l : List (Nat × Word)) : FileRecord :=
  l.foldl (fun r x => r.set x.1 x.2) (List.replicate 16 0)

/-- What the kind checks answer at the bounds of their ranges. -/
theorem test_witness_RecordKindsChecked :
    let check := kindCheck 3 (some ⟨0x800000, 0⟩) 2048
    let full : Option StagingFile := some { owing 9 0 with effects := List.replicate 64 .sweep }
    check none (recordWith [(0, 0x100), (3, 4), (4, 1), (7, 2047)]) = .ok (.header 4 .full 2047)
      ∧ check none (recordWith [(0, 0x100), (3, 4), (4, 1), (7, 2048)]) = .error .shape
      ∧ check none (recordWith [(0, 0x100), (3, 3), (4, 1), (7, 1)]) = .error .stale
      ∧ check none (recordWith [(0, 0x100), (3, 4), (4, 2), (6, 2), (7, 1)]) = .error .base
      ∧ check none (recordWith [(0, 0x100), (3, 4), (4, 2), (6, 3), (7, 1)]) = .ok (.header 4 .delta 1)
      ∧ check none (recordWith [(0, 0x200), (5, 1), (7, 1), (9, 1)]) = .ok (.entry ⟨1, 1, 0, .block true⟩ 0)
      ∧ check none (recordWith [(0, 0x200), (5, 1), (7, 1), (9, 2)]) = .error .shape
      ∧ check none (recordWith [(0, 0x300), (5, 1), (7, 1), (14, 4)]) = .ok (.entry ⟨1, 1, 0, .restore ⟨0, 0, 0, []⟩⟩ 4)
      ∧ check none (recordWith [(0, 0x300), (5, 1), (7, 1), (14, 5)]) = .error .shape
      ∧ check none (recordWith [(0, 0x400), (2, 1), (6, 2)]) = .ok (.pass ⟨1, 0, 0, 0, .replace⟩)
      ∧ check none (recordWith [(0, 0x400), (2, 1), (4, 1), (6, 2)]) = .error .shape
      ∧ check none (recordWith [(0, 0x500), (5, 1), (7, 1)]) = .ok (.effect (.cancel 1 1))
      ∧ check full (recordWith [(0, 0x500), (5, 1), (7, 1)]) = .error .shape
      ∧ check full (recordWith [(0, 0x900)]) = .error .shape
      ∧ check none (recordWith [(0, 0x900), (3, 77)]) = .ok (.effect (.clock 77)) := by decide +kernel

/-- The three ends of a TRAILER's checks. -/
theorem test_witness_RecordKindsChecked_trailer :
    let check := kindCheck 3 (some ⟨0x800000, 0⟩) 2048 (some (owing 2 0))
    check (recordWith [(0, 0xB00), (1, 2), (2, 1)]) = .error .count
      ∧ check (recordWith [(0, 0xB00), (1, 2), (2, 2)]) = .error .fileCheck
      ∧ check (recordWith [(0, 0xB00), (1, 2), (2, 2), (3, 0xFFFF), (4, 0xFFFF), (6, 4)]) = .ok .trailer := by
  decide +kernel

/-- The setup records at the bounds of their ranges. -/
theorem test_witness_SetupRecordsChecked :
    let check := kindCheck 3 (some ⟨0x800000, 0⟩) 2048
    let full : Option StagingFile := some { owing 9 0 with effects := List.replicate 64 .sweep }
    let policy : List (Nat × Word) :=
      [(0, 0x700), (2, 0x100), (3, 2), (4, 1), (5, 0x11E), (6, 1), (7, 0x517F), (8, 0x701), (9, 23), (10, 255),
        (12, 1), (13, 0x20F)]
    check none (recordWith [(0, 0x600), (12, 0x200)]) = .error .setupRange
      ∧ check none (recordWith [(0, 0x600), (13, 0x80FF), (14, 0xFFFE)]) = .error .setupRange
      ∧ check none (recordWith [(0, 0x600), (2, 0x8080)]) = .error .setupConflict
      ∧ check full (recordWith [(0, 0x600), (2, 0x8080)]) = .error .setupConflict
      ∧ check full (recordWith [(0, 0x600)]) = .error .shape
      ∧ check none (recordWith [(0, 0x600), (13, 0x80FF), (14, 0xFFFC)])
        = .ok (.effect (.windows ⟨⟨none, none, none, none⟩, none, some 0xFFFFFC⟩))
      ∧ (∃ y, check none (recordWith policy) = .ok (.effect (.policy y false)))
      ∧ check none (recordWith (policy ++ [(7, 0x5180)])) = .error .setupRange
      ∧ check full (recordWith policy) = .error .shape
      ∧ check none (recordWith [(0, 0x800), (3, 3)]) = .error .setupRange
      ∧ check none (recordWith [(0, 0x800), (9, 2)])
        = .ok (.effect (.keys ⟨⟨0, 0, .none⟩, ⟨0, 0, .none⟩, ⟨0, 0, .none⟩, ⟨0, 0, .heartbeat⟩⟩)) := by
  refine ⟨?_, ?_, ?_, ?_, ?_, ?_, ⟨_, rfl⟩, ?_, ?_, ?_, ?_⟩ <;> decide +kernel

/-- Intake at the last word of a record, with records buffered, and with an operation of its own in progress or not. -/
def atLastWord (op : Option Operation) (buffer : List FileRecord) : Part :=
  { run with
    arbiter := { Arbiter.idle with op := op }
    intake := { receiving (.onWord 47 ⟨none, none⟩) with buffer := buffer, assembly := (recordOf 10 2).take 15 } }

theorem test_witness_RecordCompleted :
    let s := at_ (atLastWord none [])
    (s.region 0x40002F = .file 47 ∧ s.intake.state = .receiving ∧ s.intake.cursor = .onWord 47 ⟨none, none⟩
        ∧ 47 % 16 = 15 ∧ overlaid ⟨none, none⟩ ⟨some 1, some 2⟩ = ⟨some 1, some 2⟩ ∧ s.intake.held = none
        ∧ s.intakeOutstanding = false ∧ s.intake.discardOwed = false ∧ s.intake.buffer = []
        ∧ s.intake.staging = some staging)
      ∧ (at_ (atLastWord (some (.intake .discard)) [[], []])).intakeOutstanding = true
      ∧ (at_ (atLastWord (some (.intake .discard)) [[], []])).intake.buffer.length = 2
      ∧ (at_ (atLastWord (some (.intake .discard)) [[]])).intake.buffer.length < 2 := by decide +kernel

theorem test_witness_RecordCompleted_takesAtOnce :
    (at_ (atLastWord none [])).takesAtOnce ∧ (at_ (atLastWord (some (.intake .discard)) [[], []])).takesAtOnce :=
  ⟨⟨by decide, by decide, rfl⟩, ⟨by decide, by decide, rfl⟩⟩

/-- A stage-pass in progress with the buffer full and a write held. -/
theorem test_witness_RecordCompleted_held :
    let q : PassRecord := ⟨31, 6, 1, 2, .fill⟩
    let p : Part := { atLastWord (some (.intake (.stagePass (some 5) q))) [[], []] with
      path := pathWith ⟨0x40002F, .fileIntake, .write ⟨some 1, some 2⟩ .hold⟩ }
    let s := at_ { p with intake := { p.intake with held := some [] } }
    0 < s.store.freePasses ∧ s.path.cycle = some ⟨0x40002F, .fileIntake, .write ⟨some 1, some 2⟩ .hold⟩
      ∧ s.arbiter.op = some (.intake (.stagePass (some 5) q)) ∧ s.arbiter.intake = none
      ∧ s.intake.answerIgnored = false ∧ s.intake.discardOwed = false ∧ s.intake.buffer = [[], []]
      ∧ s.intake.held = some [] ∧ s.intake.staging = some staging := by decide

/-- A write held with its record. -/
def heldCycle : Cycle := ⟨0x40002F, .fileIntake, .write ⟨some 1, some 2⟩ .hold⟩

/-- Intake with records in its buffer and one held, nothing of its own outstanding. -/
def untaken (buffer : List FileRecord) (held : FileRecord) : Part :=
  { run with
    path := pathWith heldCycle
    intake := { receiving (.onWord 48 ⟨none, none⟩) with
      buffer := buffer, held := some held, staging := some (owing 9 0) } }

theorem test_witness_IntakeGoesOn :
    let busy : Part := { waiting .discard true (some []) with path := pathWith heldCycle }
    let f : FileWindow := ⟨0x800000, 0⟩
    run.intake.held = none ∧ run.intake.buffer = []
      ∧ busy.intakeOutstanding = true ∧ 2 ≤ busy.intake.buffer.length
      ∧ busy.path.cycle = some heldCycle ∧ busy.intake.held = some []
      ∧ (untaken [] []).intakeOutstanding = false ∧ (untaken [] []).intake.discardOwed = false
      ∧ (untaken [recordOf 10 2, recordOf 10 3] []).intake.buffer = recordOf 10 2 :: [recordOf 10 3]
      ∧ checkRecord 0 (some f) (some (owing 9 0)) (recordOf 10 2) = .ok (.effect .sweep)
      ∧ checkRecord 0 (some f) (some (owing 9 0)) [] = .error .badCheck := by decide +kernel

/-- R36, R37: effect records are taken one after another, the held one last; a bad one refuses the file and drops them. -/
theorem test_intakeGoesOn :
    let p := untaken [recordOf 10 2, recordOf 10 3] (recordOf 10 4)
    let q := untaken [recordOf 10 2, []] (recordOf 10 4)
    p.intakeWork.intake.buffer = [] ∧ p.intakeWork.intake.held = none
      ∧ p.intakeWork.intake.staging.map (·.effects) = some [.sweep, .sweep, .sweep] ∧ p.intakeWork.path.hold = none
      ∧ q.intakeWork.intake.state = .draining ∧ q.intakeWork.counters.lastRefusal = some .badCheck
      ∧ q.intakeWork.arbiter.intake = some .discard ∧ q.intakeWork.path.hold = none := by decide +kernel

/-! ## Witnesses: the image windows -/

/-- Context 0 in a state, nothing else in hand. -/
def withContext0 (c : Context) : Part := { run with contexts := ⟨c, .empty, .empty, .empty⟩ }

theorem test_witness_ImageWritesFollowed :
    (at_ run).takesAtOnce ∧ (at_ run).region 0x2000 = .image 0 0 ∧ (at_ run).region 0x201E = .image 0 30
      ∧ (at_ run).context 0 = .empty
      ∧ (at_ (withContext0 (.filling (copyUpTo 1)))).context 0 = .filling (copyUpTo 1)
      ∧ completesOther (lanesAt (copyUpTo 1) 0) ⟨some 1, some 2⟩ = false
      ∧ completesOther ⟨some 1, none⟩ ⟨none, some 2⟩ = true
      ∧ complete (overlaid (lanesAt (copyUpTo 1) 31) ⟨some 1, none⟩) = false
      ∧ (at_ (withContext0 (.lookup card unwritten))).context 0 = .lookup card unwritten :=
  ⟨test_takesAtOnce, by decide, by decide, by decide, by decide, by decide, by decide, by decide, by decide⟩

/-- Context 0 in FILLING with its words below 31 complete, while a sweep step runs. -/
def filling : Part :=
  { run with
    contexts := ⟨.filling (copyUpTo 31), .empty, .empty, .empty⟩
    arbiter := { Arbiter.idle with op := some .sweep } }

theorem test_witness_ImageCloses :
    (at_ filling).takesAtOnce ∧ (at_ filling).arbiter.op ≠ none ∧ (at_ filling).region 0x201F = .image 0 31
      ∧ (at_ filling).context 0 = .filling (copyUpTo 31) ∧ (copyUpTo 31).length = 32
      ∧ complete (overlaid (lanesAt (copyUpTo 31) 31) ⟨some 1, some 2⟩) = true :=
  ⟨⟨by decide, by decide, rfl⟩, by decide, by decide, by decide, by decide, by decide⟩

/-- The card with its check word; and that it is one an image closes with, while the zeros are not. -/
theorem test_witness_ImageCloses_images :
    wordAt (withCheckWord card) 31 = crc16 ((withCheckWord card).take 31) ∧ imageSerial (withCheckWord card) ≠ 0
      ∧ ¬ imageSerial (List.replicate 32 0) ≠ 0 := by decide +kernel

/-- Context 0 in LOOKUP with its claim waiting behind a sweep step. -/
def inLookup : Part :=
  { run with
    contexts := ⟨.lookup card unwritten, .empty, .empty, .empty⟩
    arbiter := { Arbiter.idle with op := some .sweep, lookups := [(0, serial)] } }

theorem test_witness_PresentationOvertaken :
    (at_ inLookup).takesAtOnce ∧ (at_ inLookup).region 0x2000 = .image 0 0
      ∧ (at_ inLookup).context 0 = .lookup card unwritten
      ∧ ((at_ (withContext0 (.amended presentation))).context 0).holds presentation
      ∧ ((at_ (withContext0 (.settled presentation))).context 0).holds presentation
      ∧ presentation.confirmed = false ∧ presentation.await ≠ .expired :=
  ⟨⟨by decide, by decide, rfl⟩, by decide, by decide, .inl rfl, .inr rfl, rfl, by decide⟩

theorem test_witness_ImageReadAnswered :
    (at_ (amended presentation)).takesAtOnce ∧ (at_ (amended presentation)).region 0x2006 = .image 0 6
      ∧ (at_ (amended presentation)).context 0 = .amended presentation
      ∧ presentation.overlay.find? (·.word == 6) = some ⟨6, 100, true⟩
      ∧ presentation.overlay.find? (·.word == 7) = none ∧ (at_ inLookup).takesAtOnce
      ∧ (at_ inLookup).region 0x2006 = .image 0 6 ∧ (at_ inLookup).context 0 = .lookup card unwritten :=
  ⟨⟨by decide, by decide, rfl⟩, by decide, by decide, by decide, by decide, ⟨by decide, by decide, rfl⟩, by decide,
    by decide⟩

theorem test_witness_OverlayWordWritten :
    (at_ (amended presentation)).takesAtOnce ∧ (at_ (amended presentation)).region 0x2006 = .image 0 6
      ∧ (at_ (amended presentation)).context 0 = .amended presentation
      ∧ presentation.overlay.find? (·.word == 6) = some ⟨6, 100, true⟩
      ∧ presentation.overlay.find? (·.word == 7) = none
      ∧ (presentation.overlay.filter (·.word != 6)).any (·.pending) = true
      ∧ (lastWord.overlay.filter (·.word != 31)).any (·.pending) = false ∧ lastWord.await = .running 8
      ∧ lastWord.confirm.confirmed = true
      ∧ (at_ (withContext0 (.settled (presentation.markWritten 6)))).context 0 = .settled (presentation.markWritten 6)
      ∧ (presentation.markWritten 6).overlay.find? (·.word == 6) = some ⟨6, 100, false⟩ :=
  ⟨⟨by decide, by decide, rfl⟩, by decide, by decide, by decide, by decide, by decide, by decide, by decide, by decide,
    by decide, by decide⟩

/-! ## Witnesses: the journal -/

theorem test_witness_FirstMatchingKeyGivesRole :
    ({ run with setupFault := 1 } : Part).setupFault ≠ 0 ∧ (⟨0x11, 0xFF, .tap⟩ : JournalKey).mask = 0xFF
      ∧ roleOf keys 0x11 = .tap ∧ roleOf keys 0x22 = .heartbeat ∧ roleOf keys 0x33 = .none := by decide

theorem test_witness_JournalRecordBegins :
    (at_ run).takesAtOnce ∧ (at_ run).region 0x8000 = .journal 0 0 ∧ (at_ run).region 0x87E0 = .journal 63 0
      ∧ (at_ run).journal = none ∧ (at_ (assembling matched 5)).takesAtOnce
      ∧ (at_ (assembling matched 5)).region 0x8020 = .journal 1 0
      ∧ (at_ (assembling matched 5)).journal = some ⟨0, matched, copyUpTo 5, none⟩
      ∧ matched = .tap true (.outcome reported 3 .set) false
      ∧ completesOther (lanesAt [⟨some 0x11, none⟩] 0) ⟨none, some 2⟩ = true
      ∧ overlaid (lanesAt [⟨some 0x11, none⟩] 0) ⟨none, some 2⟩ = ⟨some 0x11, some 2⟩ :=
  ⟨test_takesAtOnce, by decide, by decide, by decide, ⟨by decide, by decide, rfl⟩, by decide, by decide, by decide,
    by decide, by decide⟩

theorem test_witness_ReportFreezesFigures :
    (at_ { run with queue := { OutcomeQueue.cold with outcomes := [reported] } }).previousPage = .counters
      ∧ [reported] = [] ++ reported :: [] ∧ reported.isUnreported = true
      ∧ (at_ { run with previousPage := .outcome }).previousPage = .outcome
      ∧ (∀ x ∈ (at_ run).queue.outcomes, x.isUnreported = false)
      ∧ ({ run with queue := { OutcomeQueue.cold with outcomes := [reported] } } : Part).report.page
        = .outcome reported
      ∧ reported.state = .unreported 3 ∧ run.report.page = .counters run.counters := by decide

/-- A tap record whose words 0 to 3 are complete, with the card's context in AMENDED, while a sweep step runs. -/
def tapping : Part :=
  { amended presentation with
    journal := some ⟨0, .tap false .notAsked false, copyUpTo 4, none⟩
    arbiter := { Arbiter.idle with op := some .sweep } }

theorem test_witness_SerialConfirmsRestore :
    let a : Assembly := ⟨0, .tap false .notAsked false, copyUpTo 4, none⟩
    let b : LaneBytes := ⟨some 0x4C, some 0xDE⟩
    let s := at_ tapping
    s.takesAtOnce ∧ s.arbiter.op ≠ none ∧ s.region 0x8004 = .journal 0 4 ∧ s.journal = some a
      ∧ a.offers b = true ∧ (a.enter 4 b).serial ≠ 0 ∧ s.toPart.matching (a.enter 4 b).serial = some 0
      ∧ s.context 0 = .amended presentation ∧ presentation.confirmed = false ∧ presentation.await = .running 8
      ∧ presentation.decision = .restore
      ∧ s.toPart.outcomeHeld 0 = some ⟨.restored, serial, 9, 100, 0, 0, .reserved 0⟩ :=
  ⟨⟨by decide, by decide, rfl⟩, by decide, by decide, by decide, by decide, by decide, by decide, by decide, rfl, rfl,
    rfl, by decide⟩

theorem test_witness_SerialOffered :
    let a (early : Bool) : Assembly := ⟨0, .tap false .notAsked early, copyUpTo 4, none⟩
    let b : LaneBytes := ⟨some 0x4C, some 0xDE⟩
    let settled : Part := { tapping with contexts := ⟨.settled presentation, .empty, .empty, .empty⟩ }
    let early : Part := { settled with journal := some (a true) }
    (at_ settled).takesAtOnce ∧ (at_ early).takesAtOnce
      ∧ (at_ settled).journal = some (a false) ∧ (at_ early).journal = some (a true)
      ∧ (a false).offers b = true ∧ (a true).offers b = true ∧ (a false).copy.length = 32
      ∧ settled.matching ((a false).enter 4 b).serial = some 0 ∧ settled.matching ((a false).enter 4 ⟨some 1, some 1⟩).serial = none
      ∧ ((a false).enter 4 ⟨some 0, some 0⟩).serial = 0
      ∧ ((at_ settled).context 0).holds presentation :=
  ⟨⟨by decide, by decide, rfl⟩, ⟨by decide, by decide, rfl⟩, rfl, rfl, by decide, by decide, by decide, by decide,
    by decide, by decide, .inr rfl⟩

/-- A match takes the first context of the await order that is open and carries the serial. -/
theorem test_witness_SerialOffered_matching :
    (amended presentation).awaitOrder = [] ++ 0 :: [] ∧ (amended presentation).context 0 = .amended presentation
      ∧ presentation.confirmed = false ∧ presentation.await = .running 8
      ∧ imageSerial presentation.snapshot = serial := by decide

theorem test_witness_JournalWordsCarried :
    (at_ (assembling matched 24)).takesAtOnce ∧ (at_ (assembling matched 24)).region 0x8018 = .journal 0 24
      ∧ (at_ (assembling (.heartbeat run.report) 8)).takesAtOnce
      ∧ (at_ (assembling (.heartbeat run.report) 8)).region 0x801E = .journal 0 30
      ∧ complete (lanesAt (copyUpTo 24) 31) = false :=
  ⟨⟨by decide, by decide, rfl⟩, by decide, ⟨by decide, by decide, rfl⟩, by decide, by decide⟩

theorem test_witness_JournalWordsCarried_passed :
    (at_ run).journal = none ∧ (at_ (assembling .pending 5)).journal = some ⟨0, .pending, copyUpTo 5, none⟩
      ∧ (at_ (assembling .pending 5)).region 0x8025 = .journal 1 5
      ∧ (at_ (assembling .none 5)).region 0x801F = .journal 0 31 ∧ (copyUpTo 5).length = 32
      ∧ complete (lanesAt (copyUpTo 5) 31) = false
      ∧ complete (overlaid (lanesAt (copyUpTo 5) 31) ⟨some 1, some 2⟩) = true
      ∧ complete (overlaid (lanesAt (copyUpTo 5) 31) ⟨some 1, none⟩) = false
      ∧ (at_ (assembling (.tap false .notAsked false) 5)).region 0x8018 = .journal 0 24
      ∧ (⟨0, .tap false .notAsked false, copyUpTo 5, none⟩ : Assembly).offers ⟨some 1, some 2⟩ = false
      ∧ (at_ (assembling (.heartbeat run.report) 5)).region 0x8007 = .journal 0 7 := by decide

theorem test_witness_TapRecordEnds :
    (at_ (assembling matched 31)).takesAtOnce ∧ (at_ (assembling matched 31)).region 0x801F = .journal 0 31
      ∧ (copyUpTo 31).length = 32 ∧ (∀ k < 31, complete (lanesAt (copyUpTo 31) k) = true)
      ∧ (∃ k < 31, complete (lanesAt (copyUpTo 30) k) = false)
      ∧ complete (overlaid (lanesAt (copyUpTo 31) 31) ⟨some 1, some 2⟩) = true
      ∧ complete (overlaid (lanesAt (copyUpTo 31) 31) ⟨some 1, none⟩) = false :=
  ⟨⟨by decide, by decide, rfl⟩, by decide, by decide, by decide, by decide, by decide, by decide⟩

/-- An assembly of record 0 with the upper lane of word 31 written and its closing check fixed. -/
def halfClosed (role : AssemblyRole) (c : ClosingCheck) : Part :=
  { run with journal := some ⟨0, role, (copyUpTo 31).set 31 ⟨some 1, none⟩, some c⟩ }

theorem test_witness_TapRecordEnds_halves :
    (at_ (halfClosed matched (.whole 0x1234))).takesAtOnce ∧ (at_ (halfClosed matched .broken)).takesAtOnce
      ∧ ((copyUpTo 31).set 31 ⟨some 1, none⟩).length = 32
      ∧ complete (overlaid ⟨some 1, none⟩ ⟨none, some 2⟩) = true
      ∧ complete (overlaid ⟨some 1, none⟩ ⟨some 2, none⟩) = false :=
  ⟨⟨by decide, by decide, rfl⟩, ⟨by decide, by decide, rfl⟩, by decide, by decide, by decide⟩

/-- R116: between the two lane writes of word 31 an annex word passes as driven and enters the record copy; before them it
carries the outcome's. -/
theorem test_journalWordsCarried_halves :
    let p := (halfClosed matched (.whole 0x1234)).arrive 0x8018 (.write ⟨some 7, some 8⟩)
    let q := (assembling matched 24).arrive 0x8018 (.write ⟨some 7, some 8⟩)
    Sparse.find p.memory (2 * 0x8018) = some 7
      ∧ p.journal = some ⟨0, matched, ((copyUpTo 31).set 31 ⟨some 1, none⟩).set 24 ⟨some 7, some 8⟩, some (.whole 0x1234)⟩
      ∧ Sparse.find q.memory (2 * 0x8018) = some 3 := by
  decide +kernel

/-- R116: the second lane of word 31 completes the record with the check fixed at the first. -/
theorem test_tapRecordEnds_halves :
    let p := (halfClosed matched (.whole 0x1234)).arrive 0x801F (.write ⟨none, some 2⟩)
    p.journal = none ∧ Sparse.find p.memory (2 * 0x801F + 1) = some 0x34 ∧ Sparse.find p.memory (2 * 0x801F) = none := by
  decide +kernel

theorem test_witness_HeartbeatEnds :
    (at_ (assembling (.heartbeat run.report) 31)).takesAtOnce
      ∧ (at_ (assembling (.heartbeat run.report) 31)).journal = some ⟨0, .heartbeat run.report, copyUpTo 31, none⟩
      ∧ (at_ (halfClosed (.heartbeat run.report) (.whole 0x1234))).takesAtOnce
      ∧ (at_ (halfClosed (.heartbeat run.report) .broken)).takesAtOnce
      ∧ run.report.page = .counters run.counters
      ∧ ({ run with queue := { OutcomeQueue.cold with outcomes := [reported] } } : Part).report.page
        = .outcome reported :=
  ⟨⟨by decide, by decide, rfl⟩, rfl, ⟨by decide, by decide, rfl⟩, ⟨by decide, by decide, rfl⟩, rfl, rfl⟩

/-! ## Witnesses: the clock word -/

/-- A clock word whose high half is written, after a last value. -/
def halfFollowed (last : BitVec 32) : Part := { run with follow := ⟨some last, ⟨some 0, some 1⟩, ⟨none, none⟩⟩ }

theorem test_witness_ClockValueFollowed :
    (at_ (halfFollowed 0x10001)).takesAtOnce
      ∧ ((at_ (halfFollowed 0x10001)).follow.entered true ⟨some 0, some 6⟩).half0 = ⟨some 0, some 1⟩
      ∧ ((at_ (halfFollowed 0x10001)).follow.entered true ⟨some 0, some 6⟩).half1 = ⟨some 0, some 6⟩
      ∧ agrees (some 0x10001) (joinWords (joinBytes 0 1) (joinBytes 0 6)) 5 = true
      ∧ agrees (some 0x10000) (joinWords (joinBytes 0 1) (joinBytes 0 6)) 5 = false
      ∧ (at_ run).takesAtOnce ∧ (at_ run).region 0x10000 = .clock false ∧ (at_ run).region 0x10001 = .clock true
      ∧ ¬ (complete ((at_ run).follow.entered false ⟨some 1, some 2⟩).half0 = true
        ∧ complete ((at_ run).follow.entered false ⟨some 1, some 2⟩).half1 = true) :=
  ⟨⟨by decide, by decide, rfl⟩, by decide, by decide, by decide, by decide, test_takesAtOnce, by decide, by decide,
    by decide⟩

/-! ## Witnesses: the table arbiter and lookups -/

/-- A waiting mark. -/
def mark : MarkClaim := ⟨5, serial, 9⟩

theorem test_witness_GrantOrder :
    ({ run with arbiter := { Arbiter.idle with marks := [mark, mark, mark, mark], lookups := [(0, serial)] } } :
        Part).arbiter.marks.length = 4
      ∧ ({ run with arbiter := { Arbiter.idle with marks := [mark], lookups := [(0, serial)] } } :
        Part).arbiter.marks.length < 4
      ∧ ({ run with arbiter := { Arbiter.idle with intake := some .discard } } : Part).arbiter.marks = []
      ∧ ({ run with arbiter := { Arbiter.idle with sweep := true } } : Part).arbiter.intake = none
      ∧ run.arbiter.op = none ∧ run.arbiter.releases = [] ∧ filling.arbiter.op ≠ none := by decide

/-- A mark waits behind a release of an entry reference. -/
theorem test_witness_GrantOrder_release :
    let p : Part := { run with arbiter := { Arbiter.idle with marks := [mark], releases := [5] } }
    p.arbiter.op = none ∧ p.arbiter.releases ≠ [] ∧ p.grant = p := by decide

theorem test_witness_LookupAnswersVisible :
    (storeOf restoreEntry).lookup serial = some (5, restoreEntry) ∧ smallStore.lookup serial = none := by decide

theorem test_witness_lookup_premises :
    let s := at_ (looking restoreEntry [] day100)
    s.arbiter.op = some (.lookup 0 serial true) ∧ s.context 0 = .lookup card unwritten
      ∧ (∀ c, s.path.cycle = some c → ∀ l, c.kind ≠ .read l .hold)
      ∧ s.store.lookup (imageSerial card) = some (5, restoreEntry) :=
  ⟨by decide, by decide, fun _ h => absurd h (by simp [at_, looking, run, MemoryPath.quiet]), by decide⟩

theorem test_witness_RestoreTaken :
    (∃ image, decideFor ((looking restoreEntry [] day100).inputs card) (some restoreEntry) = .restore image 0 0)
      ∧ restoreEntry.part = .restore ⟨9, 100, 0, []⟩ ∧ (storeOf restoreEntry).entry 5 = some restoreEntry :=
  ⟨⟨_, rfl⟩, rfl, by decide⟩

/-- R64: the overlay leaves out a word that is equal and one of which a lane has been written. -/
theorem test_overlayOf :
    overlayOf card (card.set 9 7) unwritten = [⟨9, 7, true⟩] ∧ overlayOf card card unwritten = []
      ∧ overlayOf card (card.set 9 7) (unwritten.set 9 ⟨false, true⟩) = [] := by decide

theorem test_witness_BlockTaken :
    (∃ image, decideFor ((looking blockEntry [] day100).inputs card) (some blockEntry) = .block image 0)
      ∧ ∃ image, decideFor ((looking blockEntry (List.replicate 64 reported) day100).inputs card) (some blockEntry)
        = .blockOnly image := ⟨⟨_, rfl⟩, ⟨_, rfl⟩⟩

/-- The card with an applied-action number of 9. -/
def applied : List Word := card.set 9 9

theorem test_witness_OtherDecisionsTaken :
    decideFor ((looking restoreEntry [] day100).inputs card) (some { restoreEntry with state := .applied 3 })
        = .skipApplied
      ∧ decideFor ((looking restoreEntry [] DayClock.cold).inputs card) (some restoreEntry) = .defer .clockUnset
      ∧ decideFor ((looking restoreEntry [] day100).inputs card) (some { restoreEntry with expiry := 99 }) = .expired
      ∧ decideFor ((looking blockEntry [] day100).inputs applied) (some { blockEntry with part := .block false })
        = .skipBlock
      ∧ decideFor ((looking restoreEntry [] day100).inputs applied) (some restoreEntry) = .skipLive true
      ∧ decideFor ((looking restoreEntry (List.replicate 64 reported) day100).inputs applied) (some restoreEntry)
        = .skipLive false
      ∧ (looking restoreEntry [] day100).serviceDay = some 100 := by decide

theorem test_witness_HeldReadAnswered :
    (at_ { looking restoreEntry [] day100 with path := pathWith heldRead }).path.cycle
        = some ⟨0x2006, .context 0, .read ⟨true, true⟩ .hold⟩
      ∧ (at_ { looking restoreEntry [] day100 with path := pathWith { heldRead with owner := .context 1 } }).path.cycle
        = some ⟨0x2006, .context 1, .read ⟨true, true⟩ .hold⟩ := by decide

/-! ## Witnesses: decisions -/

/-- The inputs of a decision on the card, day 100. -/
def inputs (free : Nat) : DecisionInputs := ⟨card, some 100, 1000000, free⟩

theorem test_witness_DecisionTestsInOrder :
    restoreEntry.state = .live ∧ restoreEntry.part = .restore ⟨9, 100, 0, []⟩ ∧ blockEntry.part = .block true
      ∧ (inputs 5).day = some 100 ∧ ({ inputs 5 with day := none } : DecisionInputs).day = none
      ∧ (99 : Word).toNat < 100 ∧ (imageApplied card).toNat < 9 ∧ 9 ≤ (imageApplied applied).toNat
      ∧ restoreFit (inputs 5) 100 ⟨9, 100, 0, []⟩ ≠ none
      ∧ restoreFit { inputs 5 with ceiling := 99 } 100 ⟨9, 100, 0, []⟩ = none := by decide

theorem test_witness_DecisionTestsInOrder_bounds :
    decideFor (inputs 4) (some restoreEntry) = .defer .backlog
      ∧ decideFor (inputs 5) (some { restoreEntry with part := .restore ⟨9, 100, 101, []⟩ }) = .defer .notYet
      ∧ decideFor { inputs 5 with ceiling := 99 } (some restoreEntry) = .defer .noRoom := by decide

/-- A FILL pass, a REPLACE pass of product 5, and slots that take the one, the other, and neither. -/
theorem test_witness_RestoreFit :
    let fill : PassRecord := ⟨31, 6, 1, 100, .fill⟩
    let replace : PassRecord := ⟨5, 6, 1, 99, .replace⟩
    (imagePurse card + ((100 : BitVec 32).toNat : Int) ≤ 100 ∧ (99 : Int) < imagePurse card + ((100 : BitVec 32).toNat : Int))
      ∧ replace.endDay.toNat < 100 ∧ 100 ≤ fill.endDay.toNat
      ∧ placePass fill [⟨5, 0, 0, 0⟩] = none ∧ placePass fill [⟨0, 0, 0, 0⟩] = some [⟨31, 6, 1, 100⟩]
      ∧ placePass replace [⟨0, 0, 0, 0⟩, ⟨5, 9, 9, 9⟩] = some [⟨0, 0, 0, 0⟩, ⟨5, 6, 1, 99⟩]
      ∧ placePass replace [⟨7, 0, 0, 0⟩, ⟨0, 9, 9, 9⟩] = some [⟨7, 0, 0, 0⟩, ⟨5, 6, 1, 99⟩] := by decide

theorem test_witness_AmendedImages :
    (inputs 5).snapshot.length = 32 ∧ (inputs 5).ceiling ≤ 2000000
      ∧ (∃ image, decideFor (inputs 5) (some restoreEntry) = .restore image 0 0)
      ∧ (∃ image, decideFor (inputs 1) (some blockEntry) = .block image 0)
      ∧ ∃ image, decideFor (inputs 0) (some blockEntry) = .blockOnly image :=
  ⟨by decide, by decide, ⟨_, rfl⟩, ⟨_, rfl⟩, ⟨_, rfl⟩⟩

/-! ## Witnesses: the operations on the table -/

/-- A mark in progress. -/
def marking (day : Option Nat) (e : Entry) : Part :=
  { run with arbiter := { Arbiter.idle with op := some (.mark mark day) }, store := storeOf e }

theorem test_witness_ConfirmationMarkTaken :
    (at_ (marking (some 100) restoreEntry)).arbiter.op = some (.mark mark (some 100))
      ∧ (at_ (marking none restoreEntry)).arbiter.op = some (.mark mark none)
      ∧ (at_ (marking (some 100) restoreEntry)).store.entry mark.entry = some restoreEntry
      ∧ restoreEntry.serial = mark.serial ∧ restoreEntry.action = mark.action
      ∧ (at_ (marking (some 100) blockEntry)).store.entry mark.entry = some blockEntry := by decide

/-- What a RESTORE record asks to be staged. -/
def record : EntryRecord := ⟨serial, 9, 0xFFFF, .restore ⟨9, 100, 0, []⟩⟩

theorem test_witness_EntryStaged :
    let s := at_ (intakeOp (.stageEntry record 4) (storeOf { restoreEntry with state := .staged }))
    let full := at_ (intakeOp (.stageEntry record 4) { storeOf restoreEntry with freeList := [] })
    s.arbiter.op = some (.intake (.stageEntry record 4)) ∧ s.intake.answerIgnored = false
      ∧ s.intake.discardOwed = false ∧ s.intake.buffer = [[]] ∧ s.intake.held = none
      ∧ s.store.freeList = [7] ∧ s.store.entry 7 = none ∧ s.store.stagedOf serial = some 5
      ∧ full.store.freeList = [] ∧ full.store.stagedOf serial = none
      ∧ ∀ x ∈ full.store.entries, x.2.reclaimable = false := by decide

/-- The answer of an operation whose records wait two deep with a third held, ignored with a discard owed or not. -/
def answering (p : Part) (ignored : Bool) : Part :=
  { p with
    path := pathWith heldCycle
    intake := { p.intake with
      buffer := [[], recordOf 10 2], held := some (recordOf 10 3), staging := some (owing 9 0)
      answerIgnored := ignored, discardOwed := ignored } }

/-- R35, R36, R39: STAGED for the head: the next record is taken and the held one after it. -/
theorem test_entryStaged_goesOn :
    let p := (answering (intakeOp (.stageEntry record 4) smallStore) false).completeStageEntry
    p.intake.buffer = [] ∧ p.intake.held = none ∧ p.intake.staging.map (·.effects) = some [.sweep, .sweep]
      ∧ (p.store.entry 7).map (·.serial) = some serial ∧ p.path.hold = none := by decide +kernel

/-- R41: an answer ignored, the discard owed claimed and granted after it, the records still waiting. -/
theorem test_answerIgnored :
    let p := (answering (intakeOp (.stageEntry record 4) smallStore) true).completeStageEntry
    p.intake.buffer = [[], recordOf 10 2] ∧ p.intake.answerIgnored = false ∧ p.intake.discardOwed = false
      ∧ p.arbiter.op = some (.intake .discard) ∧ (p.store.entry 7).map (·.state) = some .staged
      ∧ p.completeDiscard.intake.state = .draining
      ∧ (p.completeDiscard.store.entry 7).map (·.state) = some .dead := by decide +kernel

/-- R41: TABLE-FULL refuses the file with records waiting and a write held, and does nothing where it is ignored. -/
theorem test_entryStaged_full :
    let full : Part := intakeOp (.stageEntry record 4) { storeOf restoreEntry with freeList := [] }
    let p := (answering full false).completeStageEntry
    let q := (answering full true).completeStageEntry
    p.intake.state = .draining ∧ p.intake.held = none ∧ p.counters.lastRefusal = some .tableFull ∧ p.path.hold = none
      ∧ p.store = full.store ∧ q.counters = full.counters ∧ q.intake.held = some (recordOf 10 3)
      ∧ q.arbiter.op = some (.intake .discard) := by decide +kernel

/-- An empty free list with a DEAD entry to reclaim, and with an earlier STAGED entry of the serial. -/
theorem test_witness_EntryStaged_reclaim :
    let dead := at_ (intakeOp (.stageEntry record 4) { storeOf { restoreEntry with state := .dead } with freeList := [] })
    let staged := at_ (intakeOp (.stageEntry record 4)
      { storeOf { restoreEntry with state := .staged } with freeList := [] })
    dead.store.freeList = [] ∧ dead.store.stagedOf record.serial = none
      ∧ dead.store.entry 5 = some { restoreEntry with state := .dead }
      ∧ Sparse.rising dead.store.table ∧ Sparse.rising dead.store.buckets
      ∧ (∀ k < 5, dead.store.entry k = none)
      ∧ staged.store.stagedOf record.serial = some 5
      ∧ staged.store.entry 5 = some { restoreEntry with state := .staged } := by decide

theorem test_witness_PassStaged :
    let q : PassRecord := ⟨31, 6, 1, 2, .fill⟩
    let s := at_ (intakeOp (.stagePass (some 5) q) (storeOf { restoreEntry with state := .staged }))
    let full := at_ (intakeOp (.stagePass (some 5) q)
      { storeOf { restoreEntry with state := .staged } with freePasses := 0 })
    s.arbiter.op = some (.intake (.stagePass (some 5) q)) ∧ s.intake.answerIgnored = false
      ∧ s.intake.buffer = [[]] ∧ s.store.entry 5 = some { restoreEntry with state := .staged }
      ∧ 0 < s.store.freePasses ∧ full.store.freePasses = 0
      ∧ ∀ x ∈ full.store.entries, x.2.reclaimable = true → x.2.passes = [] := by decide

/-- A pool used up, with a DEAD entry 4 that holds passes. -/
theorem test_witness_PassStaged_reclaim :
    let q : PassRecord := ⟨31, 6, 1, 2, .fill⟩
    let dead : Entry := { restoreEntry with state := .dead, part := .restore ⟨9, 100, 0, [q]⟩ }
    let st : Store := { smallStore with
      table := [(4, .held dead), (5, .held { restoreEntry with state := .staged })], buckets := [(3294, [4, 5])]
      freePasses := 0 }
    st.freePasses = 0 ∧ Sparse.rising st.table ∧ Sparse.rising st.buckets
      ∧ st.entry 5 = some { restoreEntry with state := .staged } ∧ st.entry 4 = some dead ∧ dead.pins = 0
      ∧ dead.passes ≠ [] ∧ ∀ k < 4, st.entry k = none := by decide

/-- A bucket of the DEAD entry 4 and of entry 5 after it, with 4 as its bucket position. -/
def pairStore (dead e : Entry) : Store :=
  { smallStore with
    table := [(4, .held dead), (5, .held { e with position := some 4 })], buckets := [(3294, [4, 5])] }

/-- R1: entry 5 stands after entry 4, and entry 4 after none. -/
theorem test_witness_standsAfter (dead e : Entry) :
    (pairStore dead e).standsAfter serial 4 5 ∧ ¬ (pairStore dead e).standsAfter serial 4 6 := by
  have h : (pairStore dead e).chain (bucketOf serial) = [4, 5] := rfl
  refine ⟨⟨[], [], h, by simp⟩, ?_⟩
  rintro ⟨before, after, hc, hb⟩
  rw [h] at hc
  cases before with
  | nil => simp at hc
  | cons a rest => exact hb (by simp [(List.cons.inj hc).1])

/-- A sweep step in progress on entry 5. -/
def sweeping (e : Entry) : Part :=
  { run with
    arbiter := { Arbiter.idle with op := some .sweep }, sweep := some ⟨some 100, 2, 5⟩, store := storeOf e }

/-- R1: at a reclaim by a stage-entry, a stage-pass and a sweep step the entry after takes entry 4's bucket position. -/
theorem test_reclaim_movesUp :
    let q : PassRecord := ⟨31, 6, 1, 2, .fill⟩
    let dead : Entry := { restoreEntry with state := .dead, part := .restore ⟨9, 100, 0, [q]⟩ }
    let st : Store := { pairStore dead restoreEntry with freeList := [], freePasses := 0 }
    let staged : Store := { pairStore dead { restoreEntry with state := .staged } with freePasses := 0 }
    (intakeOp (.stageEntry record 4) st).completeStageEntry.store.entry 5 = some restoreEntry
      ∧ (intakeOp (.stageEntry record 4) st).completeStageEntry.store.chain 3294 = [5, 4]
      ∧ (intakeOp (.stagePass (some 5) q) staged).completeStagePass.store.entry 5
        = some { restoreEntry with state := .staged, part := .restore ⟨9, 100, 0, [q]⟩ }
      ∧ ({ sweeping restoreEntry with store := st, sweep := some ⟨none, 2, 4⟩ } : Part).completeSweepStep.store.entry 5
        = some restoreEntry := by decide +kernel

/-- A commit of a DELTA with one record of each kind that changes the setup or the clock. -/
def payload : CommitPayload :=
  ⟨4, .delta, [.cancel serial 9, .windows windows, .policy setup.policy true, .keys keys, .clock 77]⟩

theorem test_witness_CommitCompletes :
    let s := at_ (intakeOp (.commit payload) (storeOf restoreEntry))
    s.arbiter.op = some (.intake (.commit payload)) ∧ s.intake.answerIgnored = false
      ∧ s.intake.discardOwed = false ∧ s.intake.buffer = [[]] ∧ s.intake.held = none
      ∧ payload.effects
        = [.cancel serial 9, .windows windows, .policy setup.policy true, .keys keys] ++ .clock 77 :: []
      ∧ s.clock.state = .unset ∧ (at_ { run with clock := day100 }).clock.state ≠ .unset := by decide

theorem test_witness_CommitCompletes_sweep :
    PendingEffect.sweep ∉ payload.effects ∧ PendingEffect.sweep ∈ ([.cancel serial 9, .sweep, .sweep] : List PendingEffect)
      ∧ (at_ (intakeOp (.commit payload) (storeOf restoreEntry))).sweep = none
      ∧ (at_ { intakeOp (.commit payload) (storeOf restoreEntry) with sweep := some ⟨some 100, 2, 5⟩ }).sweep
        = some ⟨some 100, 2, 5⟩
      ∧ ∀ x ∈ ([.cancel serial 9, .clock 77, .sweep] : List PendingEffect), x.isSetup = false := by decide

/-- R15, R33, R48: a file of CANCEL, CLOCK and SWEEP, and one whose setup records the lock ignores: the table as the
commit leaves it, context 0 and its settle write in hand as they stand. -/
theorem test_commitCompletes_noSetup :
    let p (c : CommitPayload) : Part := { settling presentation 6 100 with
      arbiter := { Arbiter.idle with op := some (.intake (.commit c)) }
      intake := { receiving .closed with buffer := [[]] }, locked := true }
    let q : Part := (p ⟨4, .delta, [.cancel serial 9, .clock 77, .sweep]⟩).completeCommit
    let r : Part := (p payload).completeCommit
    q.store.entry 5 = some { restoreEntry with state := .dead } ∧ q.contexts = (amended presentation).contexts
      ∧ q.queue = (amended presentation).queue ∧ q.path.settleWrite = some (settle 6 100) ∧ q.setupIgnored = false
      ∧ q.sweep = some ⟨some 0, setup.policy.retentionDays, 0⟩ ∧ q.clock.seconds = 77
      ∧ r.store.entry 5 = some { restoreEntry with state := .dead } ∧ r.contexts = (amended presentation).contexts
      ∧ r.queue = (amended presentation).queue ∧ r.setupIgnored = true ∧ r.setup = setup := by decide +kernel

/-- R46, R51: the answer of a commit that a new file has overtaken: only the TRAILER leaves; the new file goes on. -/
theorem test_commitCompletes_ignored :
    let p : Part := { intakeOp (.commit ⟨4, .full, []⟩) (storeOf restoreEntry) with
      intake := { receiving (.onWord 20 ⟨none, none⟩) with
        staging := none, buffer := [[], []], answerIgnored := true, trailerBuffered := true } }
    p.completeCommit.fileNumber = 4 ∧ p.completeCommit.intake.answerIgnored = false
      ∧ p.completeCommit.intake.trailerBuffered = false
      ∧ p.completeCommit.counters.lastRefusal = some .badCheck
      ∧ ({ p with intake := { p.intake with buffer := [[]] } } : Part).completeCommit.intake
        = { receiving (.onWord 20 ⟨none, none⟩) with staging := none } := by decide +kernel

theorem test_witness_CommitEntryStates :
    Sparse.rising (storeOf restoreEntry).table ∧ (storeOf restoreEntry).entry 5 = some restoreEntry
      ∧ PendingEffect.cancel restoreEntry.serial restoreEntry.action ∈ payload.effects
      ∧ (storeOf { restoreEntry with state := .staged }).entry 5 = some { restoreEntry with state := .staged }
      ∧ (storeOf { restoreEntry with state := .dead }).entry 5 = some { restoreEntry with state := .dead }
      ∧ restoreEntry.fileTag ≠ payload.number ∧ restoreEntry.visible = true := by decide

theorem test_witness_CommitSetup :
    (∃ x ∈ payload.effects, x.isSetup = true)
      ∧ (at_ (intakeOp (.commit payload) smallStore)).locked = false
      ∧ (at_ { intakeOp (.commit payload) smallStore with locked := true }).locked = true
      ∧ (∀ x ∈ ([.clock 77, .sweep] : List PendingEffect), x.isSetup = false)
      ∧ payload.effects = [.cancel serial 9] ++ .windows windows ::
        [.policy setup.policy true, .keys keys, .clock 77]
      ∧ payload.effects = [.cancel serial 9, .windows windows] ++ .policy setup.policy true :: [.keys keys, .clock 77]
      ∧ payload.effects = [.cancel serial 9, .windows windows, .policy setup.policy true] ++ .keys keys ::
        [.clock 77] := by decide

theorem test_witness_CommitEntryStates_oneVisible :
    (storeOf restoreEntry).oneVisible ∧ (storeOf restoreEntry).oneStaged := by
  have h : ∀ n e, (storeOf restoreEntry).entry n = some e → n = 5 := by
    intro n e
    unfold Store.entry Store.slot storeOf Sparse.find
    by_cases hn : 5 = n
    · simp [hn]
    · simp [hn, Sparse.find]
  exact ⟨fun m n a b ha hb _ _ _ => (h m a ha).trans (h n b hb).symm,
    fun m n a b ha hb _ _ _ => (h m a ha).trans (h n b hb).symm⟩

/-- A commit that moves image window 0 alone, and one to BYPASS, with contexts and a settle write in hand. -/
theorem test_witness_SetupFollowed :
    let moved : CommitPayload := ⟨4, .delta, [.windows { windows with image := ⟨some 0x102, none, none, none⟩ }]⟩
    let bypass : CommitPayload := ⟨4, .delta, [.policy Setup.cold.policy false]⟩
    let s := at_ { settling presentation 6 100 with
      arbiter := { Arbiter.idle with op := some (.intake (.commit moved)) }
      intake := { receiving .closed with buffer := [[]] } }
    (s.arbiter.op = some (.intake (.commit moved)) ∧ s.intake.answerIgnored = false ∧ s.intake.discardOwed = false
        ∧ s.intake.buffer = [[]] ∧ s.intake.held = none ∧ s.locked = false
        ∧ (∃ x ∈ moved.effects, x.isSetup = true))
      ∧ (∀ n : Fin 4, decide (n = 0) = true ↔ (s.setup.applied moved.effects).policy.mode = .bypass
        ∨ fourAt (s.setup.applied moved.effects).windows.image n ≠ fourAt s.setup.windows.image n)
      ∧ (s.setup.applied bypass.effects).policy.mode = .bypass
      ∧ (s.setup.applied bypass.effects).policy.attentionMode ≠ s.setup.policy.attentionMode
      ∧ (at_ { looking restoreEntry [] day100 with path := pathWith heldRead }).path.cycle
        = some ⟨0x2006, .context 0, .read ⟨true, true⟩ .hold⟩ := by decide

/-- R69: the same commit taken: the context is EMPTY, its settle write no longer its own, its reservation gone. -/
theorem test_setupFollowed :
    let moved : CommitPayload := ⟨4, .delta, [.windows { windows with image := ⟨some 0x102, none, none, none⟩ }]⟩
    let p : Part := { settling presentation 6 100 with
      arbiter := { Arbiter.idle with op := some (.intake (.commit moved)) }
      intake := { receiving .closed with buffer := [[]] } }
    p.completeCommit.contexts = allEmpty ∧ p.completeCommit.queue.outcomes = []
      ∧ p.completeCommit.path.settleWrite = some { settle 6 100 with owned := false }
      ∧ p.completeCommit.counters.unconfirmed = 1 ∧ p.completeCommit.setup.windows.image.c0 = some 0x102 := by
  decide +kernel

/-- R33, R51, R69: a setup commit whose answer is ignored, a discard owed and records waiting with a third held: its
effects are the same, and the discard is the operation after it. -/
theorem test_setupFollowed_ignored :
    let moved : CommitPayload := ⟨4, .delta, [.windows { windows with image := ⟨some 0x102, none, none, none⟩ }]⟩
    let p : Part := answering { amended presentation with
      arbiter := { Arbiter.idle with op := some (.intake (.commit moved)) }, intake := receiving .closed } true
    let q : Part := p.completeCommit.takeRelease
    p.intake.answerIgnored = true ∧ p.intake.discardOwed = true ∧ p.locked = false
      ∧ q.contexts = allEmpty ∧ q.queue.outcomes = [] ∧ q.counters.unconfirmed = 1 ∧ q.fileNumber = 4
      ∧ q.intake.buffer = [[], recordOf 10 2] ∧ q.intake.held = some (recordOf 10 3)
      ∧ q.arbiter.op = some (.intake .discard) := by decide +kernel

theorem test_witness_DiscardAndRelease :
    let s := at_ { run with
      arbiter := { Arbiter.idle with op := some (.intake .discard) }
      store := storeOf { restoreEntry with state := .staged } }
    let r := at_ { run with
      arbiter := { Arbiter.idle with releases := [5] }, store := storeOf { restoreEntry with pins := 1 } }
    s.arbiter.op = some (.intake .discard) ∧ s.intake.answerIgnored = false ∧ s.intake.discardOwed = false
      ∧ s.intake.buffer = [] ∧ s.intake.held = none
      ∧ s.store.entry 5 = some { restoreEntry with state := .staged }
      ∧ r.arbiter.op = none ∧ r.arbiter.releases = 5 :: []
      ∧ r.store.entry 5 = some { restoreEntry with pins := 1 } := by decide

/-- R31, R41: the discard's answer, ignored with another discard owed, and not ignored with a record waiting. -/
theorem test_discard_answered :
    let p (ignored : Bool) : Part := answering { run with
      arbiter := { Arbiter.idle with op := some (.intake .discard) }, intake := receiving .closed } ignored
    (p true).completeDiscard.arbiter.op = some (.intake .discard)
      ∧ (p true).completeDiscard.intake.buffer = [[], recordOf 10 2]
      ∧ (p false).completeDiscard.counters.lastRefusal = some .badCheck := by decide +kernel

theorem test_witness_SweepStepTaken :
    (at_ (sweeping restoreEntry)).arbiter.op = some .sweep
      ∧ (at_ (sweeping restoreEntry)).sweep = some ⟨some 100, 2, 5⟩
      ∧ (at_ (sweeping restoreEntry)).store.entry 5 = some restoreEntry
      ∧ Sparse.rising (sweeping restoreEntry).store.table ∧ Sparse.rising (sweeping restoreEntry).store.buckets
      ∧ ({ restoreEntry with expiry := 99 } : Entry).retired (some 100) 2 = true
      ∧ ({ restoreEntry with expiry := 100 } : Entry).retired (some 100) 2 = false
      ∧ ({ restoreEntry with state := .applied 97, pins := 1 } : Entry).retired (some 100) 2 = true
      ∧ ({ restoreEntry with state := .applied 98 } : Entry).retired (some 100) 2 = false
      ∧ ({ restoreEntry with state := .dead } : Entry).pins = 0 := by decide

/-- A FREE entry, and the steps at the table's last entries: the sweep goes on to 16,383 and ends after it. -/
theorem test_witness_SweepStepTaken_last :
    (at_ (sweeping restoreEntry)).store.entry 6 = none
      ∧ ({ sweeping restoreEntry with sweep := some ⟨some 100, 2, 16382⟩ } : Part).completeSweepStep.sweep
        = some ⟨some 100, 2, 16383⟩
      ∧ ({ sweeping restoreEntry with sweep := some ⟨some 100, 2, 16383⟩ } : Part).completeSweepStep.sweep = none
      ∧ (at_ { sweeping restoreEntry with sweep := some ⟨some 100, 2, 16383⟩ }).store.entry 16383 = none := by
  decide +kernel

/-! ## Witnesses: timers -/

theorem test_witness_TimersRunOut :
    (at_ { inLookup with path := pathWith heldRead }).path.cycle
        = some ⟨0x2006, .context 0, .read ⟨true, true⟩ .hold⟩
      ∧ (at_ { inLookup with path := pathWith heldRead }).context 0 = .lookup card unwritten
      ∧ presentation.await = .running 8 ∧ (at_ (amended presentation)).context 0 = .amended presentation
      ∧ (at_ (withContext0 (.settled presentation))).context 0 = .settled presentation
      ∧ (at_ { run with monitor := ⟨true, some 4, true, true, true, false⟩ }).monitor.timer = some 4
      ∧ (at_ run).monitor.timer = none ∧ (at_ run).supply = .run := by decide

/-- One second before a whole minute of service time, in RUN or not, with a schedule of every minute. -/
def beforeMinute (supply : SupplyState) : Part :=
  { run with
    supply := supply, clock := ⟨8640059, .set, false⟩
    setup := { setup with policy := { setup.policy with scheduleEnabled := true, sweepHour := 255, sweepMinute := 255 } } }

theorem test_witness_SecondCounted :
    (at_ Part.reset).supply = .off ∧ (at_ run).supply ≠ .off ∧ (at_ run).clock.state = .unset
      ∧ (beforeMinute .run).clock.state ≠ .unset ∧ (beforeMinute .run).clock.seconds ≠ 0xFFFFFFFF
      ∧ ({ beforeMinute .run with clock := ⟨8640060, .set, false⟩ } : Part).wholeMinute = true
      ∧ ({ beforeMinute .run with clock := ⟨8640060, .set, false⟩ } : Part).scheduleMatches = true
      ∧ (beforeMinute .run).sweep = none ∧ (sweeping restoreEntry).sweep = some ⟨some 100, 2, 5⟩
      ∧ (beforeMinute .keep).supply ≠ .run := by decide

theorem test_witness_SecondCounted_granted :
    (at_ run).claimsGranted ∧ (at_ (beforeMinute .run)).claimsGranted ∧ (at_ (beforeMinute .keep)).initialising = none :=
  ⟨rfl, rfl, rfl⟩

/-- R148: seconds below the offset are late hours of service day 0; at the offset the day begins. -/
theorem test_witness_SecondCounted_derived :
    let p (seconds : BitVec 32) : Part := { run with
      clock := ⟨seconds, .set, false⟩
      setup := { setup with policy := { setup.policy with
        serviceOffset := 14400, scheduleEnabled := true, sweepWeekday := 0, sweepHour := 23, sweepMinute := 59 } } }
    (p 14399).serviceDay = some 0 ∧ (p 14340).wholeMinute = true ∧ (p 14341).wholeMinute = false
      ∧ (p 14340).scheduleMatches = true ∧ (p 14400).scheduleMatches = false ∧ (p 14400).serviceDay = some 0
      ∧ (p 100800).serviceDay = some 1 ∧ run.serviceDay = none := by decide

/-! ## Witnesses: supply and what every step keeps -/

theorem test_witness_SupplyArrives :
    let cold (c : ColdInit) : State := at_ { Part.reset with initialising := some c }
    (at_ { run with supply := .keep }).supply = .keep ∧ (at_ { run with supply := .keep }).keepValid = some true
      ∧ (at_ { run with supply := .keep }).initialising = none
      ∧ (at_ Part.reset).supply = .off ∧ (at_ Part.reset).initialising = none
      ∧ (at_ { run with supply := .keep, keepValid := some false }).keepValid ≠ some true
      ∧ (cold .atVkeep).supply = .off ∧ (cold .atVkeep).initialising = some .atVkeep
      ∧ (cold (.atVmain 5)).initialising = some (.atVmain 5)
      ∧ (at_ run).supply ≠ .off ∧ (at_ run).supply ≠ .keep
      ∧ (at_ { run with supply := .lockout }).supply = .lockout := by decide

/-- At the start of the walk. -/
def verifying (e : Entry) : Part := { run with supply := .verify, walk := some ⟨.entry 0, false⟩, store := storeOf e }

theorem test_witness_WalkEntersRun :
    (at_ (verifying restoreEntry)).supply = .verify ∧ (at_ (verifying restoreEntry)).walk = some ⟨.entry 0, false⟩
      ∧ (∀ x ∈ (verifying restoreEntry).store.table, x.1 < 16384 ∧ x.2.checkHolds = true)
      ∧ (∃ x ∈ (verifying { restoreEntry with checkFault := 1 }).store.table, x.2.checkHolds = false)
      ∧ (verifying restoreEntry).store.structureFault = 0 ∧ (verifying restoreEntry).fileNumberFault = 0
      ∧ (verifying restoreEntry).setupFault = 0 ∧ (verifying restoreEntry).queue.checkFault = 0
      ∧ (verifying restoreEntry).clock.owedSweep = false := by decide

/-- The walk at a position, over a table of one STAGED, pinned entry. -/
def verifyingAt (stage : WalkStage) (failed : Bool) : Part :=
  { verifying { restoreEntry with state := .staged, pins := 1 } with walk := some ⟨stage, failed⟩ }

theorem test_witness_WalkEntersRun_positions :
    (∀ stage ∈ ([.entry 5, .entry 16383, .structureCheck, .fileNumber, .setup, .queueCheck, .queueItem 0, .queueItem 64,
        .rebuild 0, .rebuild 16383, .done] : List WalkStage),
      (at_ (verifyingAt stage true)).walk = some ⟨stage, true⟩ ∧ (at_ (verifyingAt stage true)).supply = .verify)
      ∧ (∀ x ∈ (verifyingAt (.entry 5) true).store.table, x.1 < 16384)
      ∧ ({ verifying restoreEntry with setupFault := 1 } : Part).setupFault ≠ 0
      ∧ ({ verifying restoreEntry with queue := ⟨[attachedOne], 1, 0, 0⟩ } : Part).queue.checkFault ≠ 0
      ∧ ({ verifying restoreEntry with clock := { day100 with owedSweep := true } } : Part).clock.owedSweep = true := by
  decide +kernel

/-- R181, R183: the entry to RUN from stage 4 with a bad setup check, from stage 5 with a bad queue check, and with a sweep
owed: its day is the service day at the entry, and its first step is granted. -/
theorem test_walkEntersRun :
    let p : Part := { verifyingAt .setup false with
      setupFault := 1, queue := ⟨[attachedOne], 1, 0, 0⟩, clock := { day100 with owedSweep := true } }
    p.completeWalk.setup = Setup.cold ∧ p.completeWalk.queue.outcomes = []
      ∧ p.completeWalk.sweep = some ⟨some 100, 2, 0⟩ ∧ p.completeWalk.arbiter = { Arbiter.idle with op := some .sweep }
      ∧ p.completeWalk.path.lastGranted = 3 ∧ p.completeWalk.store = p.store
      ∧ ((verifyingAt (.entry 5) false).completeWalk.store.entry 5).map (fun e => (e.state, e.pins)) = some (.dead, 0)
      ∧ ((verifyingAt (.entry 6) false).completeWalk.store.entry 5).map (fun e => (e.state, e.pins)) = some (.staged, 1)
      ∧ (verifyingAt (.queueItem 0) true).completeWalk.tableLost = true
      ∧ (verifyingAt .done true).completeWalk.store = (verifyingAt .done true).store := by decide +kernel

theorem test_witness_MainSupplyFalls :
    let cold (v : VkeepLevel) (c : ColdInit) : State := at_ { Part.reset with initialising := some c, vkeep := v }
    (at_ run).supply = .run ∧ (at_ run).vkeep = .good ∧ (at_ { run with vkeep := .low }).vkeep ≠ .good
      ∧ (at_ run).path.settleWrite = none
      ∧ (at_ (settling presentation 6 100)).path.settleWrite = some (settle 6 100)
      ∧ (at_ { run with supply := .keep }).supply = .keep ∧ (at_ { run with supply := .keep }).initialising = none
      ∧ (cold .good .atVkeep).initialising = some .atVkeep ∧ (cold .good (.atVmain 5)).vkeep = .good
      ∧ (cold .low (.atVmain 5)).vkeep ≠ .good ∧ (cold .low (.atVmain 5)).supply = .off := by decide

theorem test_witness_ResetTaken :
    (at_ run).supply = .run ∧ (at_ run).path.cycle = none ∧ (at_ run).path.waiting = none
      ∧ (at_ run).path.settleWrite = none ∧ (at_ run).intakeRunning = none ∧ (at_ run).arbiter.op = none
      ∧ (at_ { run with intake := receiving .closed }).intake.state = .receiving
      ∧ (at_ (midFile (.commit ⟨4, .full, []⟩))).intakeRunning = some (.commit ⟨4, .full, []⟩)
      ∧ (at_ (settling presentation 6 100)).path.settleWrite = some (settle 6 100)
      ∧ (at_ (settling presentation 6 100)).path.cycle = none
      ∧ (at_ { settling presentation 6 100 with path := { run.path with
          settleWrite := some (settle 6 100), waiting := some (0x2006, .read ⟨true, true⟩) } }).path.waiting
        = some (0x2006, .read ⟨true, true⟩)
      ∧ (at_ { run with path := pathWith ⟨0x400007, .fileIntake, .write ⟨some 1, some 2⟩ .hold⟩ }).path.cycle
        = some ⟨0x400007, .fileIntake, .write ⟨some 1, some 2⟩ .hold⟩
      ∧ (at_ { inLookup with path := pathWith heldRead }).path.cycle = some heldRead
      ∧ (∀ c, (at_ run).path.cycle = some c → c.isHeld = false)
      ∧ (at_ { run with supply := .verify }).supply = .verify :=
  ⟨rfl, rfl, rfl, rfl, rfl, rfl, rfl, rfl, rfl, rfl, rfl, rfl, rfl, (by simp [at_, run, MemoryPath.quiet]), rfl⟩

/-- R69, R77: RESET_N in RUN gives up an amending presentation, its reservation and its entry reference. -/
theorem test_resetTaken :
    let p : Part := { amended presentation with store := storeOf { restoreEntry with pins := 1 } }
    (p.resetRun 0).contexts = allEmpty ∧ (p.resetRun 0).queue.outcomes = [] ∧ (p.resetRun 0).counters.unconfirmed = 1
      ∧ (p.resetRun 0).store.entry 5 = some restoreEntry ∧ (p.resetRun 0).discardClaimed := by
  refine ⟨?_, ?_, ?_, ?_, .inr ?_⟩ <;> decide +kernel

theorem test_witness_OutputsDriven :
    Part.reset.supply = .off ∧ ({ run with supply := .keep } : Part).supply = .keep
      ∧ ({ run with supply := .lockout } : Part).supply = .lockout ∧ run.supply = .run
      ∧ (settling presentation 6 100).path.settleWrite = some (settle 6 100)
      ∧ ({ run with path := pathWith heldRead } : Part).path.cycle = some ⟨0x2006, .context 0, .read ⟨true, true⟩ .hold⟩
      ∧ run.path.cycle = none ∧ ({ run with path := pathWith heldRead } : Part).path.settleWrite = none := by decide

theorem test_witness_OutputsDriven_rests :
    Part.reset.restsOutsideRun ∧ run.restsOutsideRun ∧ ({ run with supply := .lockout } : Part).restsOutsideRun :=
  ⟨fun _ => ⟨rfl, rfl, rfl, rfl, rfl, rfl, rfl, rfl, rfl, by simp [Part.reset, MemoryPath.quiet]⟩,
    fun h => absurd rfl h,
    fun _ => ⟨rfl, rfl, rfl, rfl, rfl, rfl, rfl, rfl, rfl, by simp [run, MemoryPath.quiet]⟩⟩

/-- State.reset meets the premise of each statement about what every step keeps, and steps. -/
theorem test_witness_kept :
    Memory.wf State.reset.memory ∧ State.reset.toPart.claimsGranted ∧ State.reset.toPart.queueWithin
      ∧ State.reset.toPart.clockHonest ∧ State.reset.toPart.keepValidPresent ∧ State.reset.toPart.coldUnsupplied
      ∧ step State.reset = .next State.reset :=
  ⟨⟨by decide, by decide⟩, rfl, Nat.zero_le _, fun _ => rfl, ⟨fun _ => rfl, fun _ => rfl⟩,
    ⟨fun h => absurd rfl h, fun h => absurd h (by simp [State.reset, Part.reset])⟩, rfl⟩

theorem test_witness_FileNumberNeverFalls :
    ({ run with intake := receiving .closed } : Part).numbersAbove := by
  refine ⟨fun f h => ?_, fun c h => ?_, fun c h => ?_, fun c h => ?_, fun h => ?_⟩
  · simp only [receiving, Option.some.injEq] at h
    subst h
    decide
  all_goals exact absurd h (by simp [run, Part.reset, Arbiter.idle, receiving, Intake.draining])

/-- The reset state meets the premises of the two invariants of the table. -/
theorem test_witness_PoolKept :
    State.reset.toPart.numbersAbove ∧ State.reset.toPart.poolHonest := by
  refine ⟨⟨fun f h => ?_, fun c h => ?_, fun c h => ?_, fun c h => ?_, fun h => ?_⟩, .inr ⟨List.Pairwise.nil, ?_, ?_, ?_, ?_⟩⟩
  · exact absurd h (by simp [State.reset, Part.reset, Intake.draining])
  · exact absurd h (by simp [State.reset, Part.reset, Arbiter.idle])
  · exact absurd h (by simp [State.reset, Part.reset, Arbiter.idle])
  · exact absurd h (by simp [State.reset, Part.reset, Arbiter.idle])
  · exact absurd h (by simp [State.reset, Part.reset, Intake.draining])
  · intro n _
    rfl
  · exact List.nodup_range'
  · rfl
  · refine ⟨fun n q h => ?_, fun r number h => ?_, fun f n h => ?_, fun h => ?_⟩
    · exact absurd h (by simp [Part.claims, State.reset, Part.reset, Arbiter.idle])
    · exact absurd h (by simp [Part.claims, State.reset, Part.reset, Arbiter.idle])
    · exact absurd h (by simp [State.reset, Part.reset, Intake.draining])
    · rfl

theorem test_witness_OneVisibleKept : State.reset.toPart.visibleHonest := by
  have h : ∀ n, State.reset.store.entry n = none := fun _ => rfl
  refine .inr ⟨List.Pairwise.nil, fun n e he => ?_, fun m n a b ha => ?_, fun m n a b ha => ?_, fun n e he => ?_⟩
  all_goals first | exact absurd (h n ▸ he) (by simp) | exact absurd (h m ▸ ha) (by simp)

theorem test_witness_BoundsAndRestKept : State.reset.toPart.restsOutsideRun :=
  fun _ => ⟨rfl, rfl, rfl, rfl, rfl, rfl, rfl, rfl, rfl,
    fun _ h => absurd h (by simp [State.reset, Part.reset, MemoryPath.quiet])⟩

/-- Intake waits at State.reset, and with two records buffered and a third held with its write. -/
theorem test_witness_BoundsAndRestKept_intake :
    State.reset.toPart.intakeWaits
      ∧ ({ waiting .discard true (some []) with path := pathWith heldCycle } : Part).intakeWaits :=
  ⟨⟨by decide, fun h => absurd rfl h, fun h => absurd rfl h, fun h => absurd rfl h,
      fun _ h => absurd h (by simp [State.reset, Part.reset, MemoryPath.quiet])⟩,
    by decide, fun _ => .inl rfl, fun _ => ⟨_, _, rfl⟩, fun h => absurd rfl h,
    fun c h => by
      obtain rfl : _ = c := by simpa [pathWith] using h
      exact ⟨fun _ => by simp [pathWith], fun _ => rfl⟩⟩

theorem test_witness_BoundsAndRestKept_overlays : (amended presentation).overlaysAscend := by
  intro n pr h
  fin_cases n
  · rcases h with h | h
    · have : presentation = pr := by simpa [Part.context, fourAt, amended] using h
      rw [← this]
      decide
    · exact absurd h (by simp [Part.context, fourAt, amended])
  all_goals exact absurd h (by simp [Part.context, fourAt, amended])

end Sys2Proof.Tests
end

/-! PROOFS. The journal keys (05_the_journal.md, R107): when a key matches, which key gives the role, and the keys that a
cold start and a damaged setup leave. -/

namespace Sys2Proof.Machine

/-! ## When a key matches -/

/-- R107, bit by bit: the model's one masked comparison of bytes looks at the bits whose mask bit is 0, and at no other. -/
theorem JournalKey.matchesKind_iff (k : JournalKey) (kind : Byte) :
    k.matchesKind kind = true ↔ ∀ i < 8, k.mask.getLsbD i = false → kind.getLsbD i = k.value.getLsbD i := by
  have compared : ∀ i < 8, ((kind ^^^ k.value) &&& ~~~k.mask).getLsbD i
      = ((kind.getLsbD i ^^ k.value.getLsbD i) && !k.mask.getLsbD i) := fun i hi => by simp [hi]
  rw [JournalKey.matchesKind, beq_iff_eq]
  constructor
  · intro agree i hi unmasked
    have differ := compared i hi
    rw [agree, unmasked] at differ
    simpa using differ
  · intro agree
    refine BitVec.eq_of_getLsbD_eq fun i hi => ?_
    rw [compared i hi]
    cases unmasked : k.mask.getLsbD i with
    | true => simp
    | false => simp [agree i hi unmasked]

/-- R107: mask FF hex leaves no bit to compare. -/
theorem JournalKey.matchesKind_of_mask_ones (k : JournalKey) (kind : Byte) (h : k.mask = 0xFF) :
    k.matchesKind kind = true := by
  refine (k.matchesKind_iff kind).mpr fun i hi unmasked => ?_
  have masked : k.mask.getLsbD i = true := by
    rw [h, show (0xFF : Byte) = BitVec.allOnes 8 from rfl, BitVec.getLsbD_allOnes, decide_eq_true hi]
  exact absurd (masked.symm.trans unmasked) Bool.noConfusion

/-- R107: mask 00 hex has every bit compared, so the value alone matches. -/
theorem JournalKey.matchesKind_iff_of_mask_zero (k : JournalKey) (kind : Byte) (h : k.mask = 0x00) :
    k.matchesKind kind = true ↔ kind = k.value := by
  rw [k.matchesKind_iff kind]
  constructor
  · intro agree
    exact BitVec.eq_of_getLsbD_eq fun i hi => agree i hi (by simp [h])
  · rintro rfl _ _ _
    rfl

/-! ## Which key gives the role -/

/-- R107: the search stops at the first key that matches, whatever its role. -/
theorem roleOf_eq_find? (keys : Four JournalKey) (kind : Byte) :
    roleOf keys kind =
      (([keys.c0, keys.c1, keys.c2, keys.c3].find? fun k => k.matchesKind kind).map (·.role)).getD .none := by
  simp only [roleOf, List.find?]
  cases keys.c0.matchesKind kind with
  | true => rfl
  | false =>
    cases keys.c1.matchesKind kind with
    | true => rfl
    | false =>
      cases keys.c2.matchesKind kind with
      | true => rfl
      | false => cases keys.c3.matchesKind kind <;> rfl

/-- Where no key has a role other than NONE, no kind byte has, whichever key it matches. -/
theorem roleOf_of_roles_none (keys : Four JournalKey) (kind : Byte)
    (h : ∀ k ∈ [keys.c0, keys.c1, keys.c2, keys.c3], k.role = .none) : roleOf keys kind = .none := by
  rw [roleOf_eq_find?]
  cases found : [keys.c0, keys.c1, keys.c2, keys.c3].find? fun k => k.matchesKind kind with
  | none => rfl
  | some k => exact h k (List.mem_of_find?_eq_some found)

/-! ## The setups that a cold start and stage 4 of the walk leave -/

/-- R50: the keys of the cold setup. -/
theorem Setup.cold_keys : Setup.cold.keys = ⟨⟨0, 0, .none⟩, ⟨0, 0, .none⟩, ⟨0, 0, .none⟩, ⟨0, 0, .none⟩⟩ := rfl

/-- R177: the setup that cold initialisation leaves. -/
theorem Part.coldInit_setup (p : Part) : p.coldInit.setup = Setup.cold := by
  simp only [Part.coldInit_fields]

/-- R181: a setup that stage 4 finds damaged is put back whole to its cold values, with no lock. -/
theorem Part.verifySetup_of_damaged (p : Part) (h : p.setupFault ≠ 0) :
    p.verifySetup = { p with setup := Setup.cold, locked := false, setupFault := 0 } := by
  have damaged : ¬ p.setupCheckHolds = true := by simpa [Part.setupCheckHolds] using h
  rw [Part.verifySetup, if_neg damaged]

/-! ## The obligation -/

/-- Settles O21: a masked comparison read bit by bit, and a search that the list's own search equals. -/
theorem firstMatchingKeyGivesRole : Obligations.FirstMatchingKeyGivesRole := by
  refine ⟨fun k kind => ⟨k.matchesKind_iff kind, k.matchesKind_of_mask_ones kind, k.matchesKind_iff_of_mask_zero kind⟩,
    roleOf_eq_find?, fun p => ⟨?coldStart, fun fault => ?damaged⟩, fun kind => roleOf_of_roles_none _ kind (by simp)⟩
  case coldStart => rw [p.coldInit_setup, Setup.cold_keys]
  case damaged => rw [p.verifySetup_of_damaged fault, Setup.cold_keys]

end Sys2Proof.Machine

/-! PROOFS. The clock word (07_time_of_day_and_sweeps.md, R145, R146): how a write of it is taken (R157, R162), when its
four lanes make a value, and when that value is adopted. -/

namespace Sys2Proof.Machine

/-! ## A write taken at once -/

/-- R157: a write in some lane that does not wait goes to the region its word lies in. -/
theorem Part.arrive_write_of_takesAtOnce (p : Part) (w : BitVec 23) (b : LaneBytes) (h : p.takesAtOnce)
    (driven : b.upper.isSome ∨ b.lower.isSome) : p.arrive w (.write b) = (p.takeWrite w b).grant := by
  obtain ⟨accepts, portFree, -⟩ := h
  have selected : anyLane (.write b) = true := by simpa [anyLane, touched] using driven
  simp [Part.arrive, accepts, portFree, Part.takeCycle, selected]

/-- R162: a write carried to memory as driven is the one write that memory takes. -/
theorem Part.memoryTakes_carryWrite_pass (p q : Part) (w : BitVec 23) (b : LaneBytes) (o : Owner)
    (memory : q.memory = p.memory) (epoch : q.memoryEpoch = p.memoryEpoch) :
    p.memoryTakes (q.carryWrite w b o .pass) w b := by
  intro a
  have before : q.memoryByte a = p.memoryByte a := by rw [Part.memoryByte, Part.memoryByte, memory, epoch]
  have carried : (q.carryWrite w b o .pass).memoryByte a = (q.writeMemory w b).memoryByte a := rfl
  rw [carried, Part.memoryByte_writeMemory, Part.byteAfter, before]
  by_cases even : a = 2 * w.toNat
  · rw [if_neg (by omega), if_pos even, if_pos even]
  · rw [if_neg even, if_neg even]

/-! ## A write of the clock word taken -/

/-- R145, R160, R162: a write of the clock word goes to the day clock and passes to memory; it brings no claim. -/
theorem exec_clockWordWrite_taken (s : State) (w : BitVec 23) (b : LaneBytes) (second : Bool) (h : s.takesAtOnce)
    (region : s.region w = .clock second) (driven : b.upper.isSome ∨ b.lower.isSome) :
    exec (.clockWordWrite w b) s =
      .next { s with toPart := (s.clockWrite second b).carryWrite w b .dayClock .pass } := by
  have command : exec (.clockWordWrite w b) s = .next { s with toPart := s.finishCold.arrive w (.write b) } := rfl
  have taken : s.takeWrite w b = (s.clockWrite second b).carryWrite w b .dayClock .pass := by
    rw [Part.takeWrite, region]
  have granted : ((s.clockWrite second b).carryWrite w b .dayClock .pass).claimsGranted :=
    Part.claimsGranted_of_arbiter s.toPart _ (by simp) h.2.2
  rw [command, s.finishCold_of_accepts h.1, s.arrive_write_of_takesAtOnce w b h driven, taken, granted]

/-- R145: the day clock leaves memory to the write itself. -/
theorem Part.memoryTakes_clockWrite (p : Part) (second : Bool) (w : BitVec 23) (b : LaneBytes) :
    p.memoryTakes ((p.clockWrite second b).carryWrite w b .dayClock .pass) w b :=
  p.memoryTakes_carryWrite_pass _ w b .dayClock (by simp) (by simp)

/-! ## When the lanes make a value -/

theorem complete_of_wholeWord (b : LaneBytes) (v : Word) (h : wholeWord b = some v) : complete b = true := by
  obtain ⟨_ | u, _ | l⟩ := b
  case some.some => rfl
  all_goals exact absurd h (by simp [wholeWord])

/-- R145: the write that leaves all four lanes written completes their value. -/
theorem Part.clockWrite_of_lanes (p : Part) (second : Bool) (b : LaneBytes) (hu hl lu ll : Byte)
    (half0 : (p.follow.entered second b).half0 = ⟨some hu, some hl⟩)
    (half1 : (p.follow.entered second b).half1 = ⟨some lu, some ll⟩) :
    p.clockWrite second b = p.clockValue (joinWords (joinBytes hu hl) (joinBytes lu ll)) := by
  simp only [Part.clockWrite, half0, half1, wholeWord]

/-- R145: a write that leaves some lane unwritten enters the half-written value alone. -/
theorem Part.clockWrite_of_incomplete (p : Part) (second : Bool) (b : LaneBytes)
    (h : ¬ (complete (p.follow.entered second b).half0 = true ∧ complete (p.follow.entered second b).half1 = true)) :
    p.clockWrite second b = { p with follow := p.follow.entered second b } := by
  simp only [Part.clockWrite]
  split
  next high low whole0 whole1 => exact absurd ⟨complete_of_wholeWord _ _ whole0, complete_of_wholeWord _ _ whole1⟩ h
  next => rfl

/-! ## When a value is adopted -/

/-- R146: a value agrees with a last value that is present, not above it, and within the tolerance. -/
theorem agrees_iff (last : Option (BitVec 32)) (v : BitVec 32) (tolerance : Nat) :
    agrees last v tolerance = true ↔ ∃ p, last = some p ∧ p.toNat ≤ v.toNat ∧ v.toNat - p.toNat ≤ tolerance := by
  cases last <;> simp [agrees]

/-- R146: an adopted value is the seconds, and the clock follows. -/
theorem Part.clockValue_clock_of_agrees (p : Part) (v : BitVec 32)
    (h : agrees p.follow.last v p.setup.policy.followTolerance = true) :
    (p.clockValue v).clock = { p.clock with seconds := v, state := .following } := if_pos h

/-- R146: a value that is not adopted leaves the clock as it was. -/
theorem Part.clockValue_clock_of_not_agrees (p : Part) (v : BitVec 32)
    (h : ¬ agrees p.follow.last v p.setup.policy.followTolerance = true) :
    (p.clockValue v).clock = p.clock := if_neg h

/-! ## The obligation -/

/-- Settles O29: a write of the clock word is the day clock's and memory's alone; the lanes then written tell a value
from a half-written one, and `agrees` a value adopted from one that is not. -/
theorem clockValueFollowed : Obligations.ClockValueFollowed := by
  refine ⟨fun s w b second hu hl lu ll atOnce region driven half0 half1 =>
    ⟨_, exec_clockWordWrite_taken s w b second atOnce region driven, s.memoryTakes_clockWrite second w b,
      ?completedFrame, fun agreement => ?adopted, fun disagreement => ?notAdopted⟩,
    fun s w b second atOnce region driven incomplete =>
    ⟨_, exec_clockWordWrite_taken s w b second atOnce region driven, s.memoryTakes_clockWrite second w b, ?halfWritten⟩⟩
  case completedFrame =>
    rw [s.clockWrite_of_lanes second b hu hl lu ll half0 half1]
    rfl
  case adopted =>
    rw [s.clockWrite_of_lanes second b hu hl lu ll half0 half1]
    exact s.clockValue_clock_of_agrees _ ((agrees_iff _ _ _).mpr agreement)
  case notAdopted =>
    rw [s.clockWrite_of_lanes second b hu hl lu ll half0 half1]
    exact s.clockValue_clock_of_not_agrees _ (mt (agrees_iff _ _ _).mp disagreement)
  case halfWritten =>
    rw [s.clockWrite_of_incomplete second b incomplete]
    rfl

end Sys2Proof.Machine

/-! PROOFS. What one step can do: every command as a change of the part, and how a property is kept by every step. -/

namespace Sys2Proof.Machine

/-- What each command does to the part. -/
def commandEffect : Instr → Part → Part
  | .fileWindowWrite w b, p => p.finishCold.arrive w (.write b)
  | .imageWindowWrite w b, p => p.finishCold.arrive w (.write b)
  | .imageWindowRead w l, p => p.finishCold.arrive w (.read l)
  | .journalWrite w b, p => p.finishCold.arrive w (.write b)
  | .clockWordWrite w b, p => p.finishCold.arrive w (.write b)
  | .passThroughCycle w a, p => p.finishCold.arrive w a
  | .processorCycleEnd, p => p.endCycle
  | .settleWriteStart, p => p.startSettle
  | .settleWriteComplete, p => p.completeSettle
  | .lookup, p => p.completeLookup
  | .confirmationMark, p => p.completeMark
  | .stageEntry, p => p.completeStageEntry
  | .stagePass, p => p.completeStagePass
  | .commit, p => p.completeCommit
  | .discard, p => p.completeDiscard
  | .sweepStep, p => p.completeSweepStep
  | .pinRelease, p => p.takeRelease
  | .holdExpiry, p => p.expireHold
  | .intakeHoldExpiry, p => p.expireIntakeHold
  | .awaitExpiry n, p => p.expireAwait n
  | .attentionHoldExpiry, p => p.expireAttention
  | .slotEnd, p => p.endSlot
  | .clockSecond, p => p.finishCold.crystalSecond.grant
  | .lockoutExpiry, p => p.finishCold.lockoutEnds
  | .verificationWalkComplete, p => p.completeWalk
  | .vmainGood straps, p => p.mainGood straps
  | .vmainFall, p => p.mainFall
  | .vkeepGood, p => p.keepGood
  | .vkeepLow, p => p.keepLow
  | .vkeepLost, p => p.keepLost
  | .resetN straps, p => p.finishCold.assertReset straps

/-- Every command answers the state with its effect on the part, the queue as it stands. -/
theorem exec_eq_act (c : Instr) (s : State) : exec c s = s.act (commandEffect c) := by
  cases c <;> rfl

/-- The part after a step: the part left to itself, or the effect of a command. -/
theorem step_part (s t : State) (h : step s = .next t) :
    t.toPart = s.toPart.tick ∨ ∃ c, t.toPart = commandEffect c s.toPart := by
  rw [step] at h
  split at h
  next => exact .inl (by cases h; rfl)
  next c rest _ =>
    rw [exec_eq_act] at h
    exact .inr ⟨c, by cases h; rfl⟩

/-- A property of the part that each operation behind a command keeps, and the work of a part left to itself. -/
structure KeptByOperations (P : Part → Prop) : Prop where
  finishCold : ∀ p, P p → P p.finishCold
  walkStep : ∀ p, p.supply = .verify → P p → P p.walkStep
  arrive : ∀ p w a, P p → P (p.arrive w a)
  endCycle : ∀ p, P p → P p.endCycle
  startSettle : ∀ p, P p → P p.startSettle
  completeSettle : ∀ p, P p → P p.completeSettle
  completeLookup : ∀ p, P p → P p.completeLookup
  completeMark : ∀ p, P p → P p.completeMark
  completeStageEntry : ∀ p, P p → P p.completeStageEntry
  completeStagePass : ∀ p, P p → P p.completeStagePass
  completeCommit : ∀ p, P p → P p.completeCommit
  completeDiscard : ∀ p, P p → P p.completeDiscard
  completeSweepStep : ∀ p, P p → P p.completeSweepStep
  takeRelease : ∀ p, P p → P p.takeRelease
  expireHold : ∀ p, P p → P p.expireHold
  expireIntakeHold : ∀ p, P p → P p.expireIntakeHold
  expireAwait : ∀ p n, P p → P (p.expireAwait n)
  expireAttention : ∀ p, P p → P p.expireAttention
  endSlot : ∀ p, P p → P p.endSlot
  second : ∀ p, P p → P p.crystalSecond.grant
  lockoutEnds : ∀ p, P p → P p.lockoutEnds
  completeWalk : ∀ p, P p → P p.completeWalk
  mainGood : ∀ p straps, P p → P (p.mainGood straps)
  mainFall : ∀ p, P p → P p.mainFall
  keepGood : ∀ p, P p → P p.keepGood
  keepLow : ∀ p, P p → P p.keepLow
  keepLost : ∀ p, P p → P p.keepLost
  assertReset : ∀ p straps, P p → P (p.assertReset straps)

theorem KeptByOperations.tick {P : Part → Prop} (k : KeptByOperations P) (p : Part) (h : P p) : P p.tick := by
  rw [Part.tick]
  split
  next verify => exact k.walkStep p verify h
  next => exact k.finishCold p h

theorem KeptByOperations.command {P : Part → Prop} (k : KeptByOperations P) (c : Instr) (p : Part) (h : P p) :
    P (commandEffect c p) := by
  have cold := k.finishCold p h
  cases c with
  | processorCycleEnd => exact k.endCycle p h
  | settleWriteStart => exact k.startSettle p h
  | settleWriteComplete => exact k.completeSettle p h
  | lookup => exact k.completeLookup p h
  | confirmationMark => exact k.completeMark p h
  | stageEntry => exact k.completeStageEntry p h
  | stagePass => exact k.completeStagePass p h
  | commit => exact k.completeCommit p h
  | discard => exact k.completeDiscard p h
  | sweepStep => exact k.completeSweepStep p h
  | pinRelease => exact k.takeRelease p h
  | holdExpiry => exact k.expireHold p h
  | intakeHoldExpiry => exact k.expireIntakeHold p h
  | awaitExpiry n => exact k.expireAwait p n h
  | attentionHoldExpiry => exact k.expireAttention p h
  | slotEnd => exact k.endSlot p h
  | clockSecond => exact k.second _ cold
  | lockoutExpiry => exact k.lockoutEnds _ cold
  | verificationWalkComplete => exact k.completeWalk p h
  | vmainGood straps => exact k.mainGood p straps h
  | vmainFall => exact k.mainFall p h
  | vkeepGood => exact k.keepGood p h
  | vkeepLow => exact k.keepLow p h
  | vkeepLost => exact k.keepLost p h
  | resetN straps => exact k.assertReset _ straps cold
  | _ => exact k.arrive _ _ _ cold

/-- What each operation keeps, every step keeps. -/
theorem KeptByOperations.step {P : Part → Prop} (k : KeptByOperations P) (s t : State) (h : P s.toPart)
    (stepped : Machine.step s = .next t) : P t.toPart := by
  obtain ticked | ⟨c, commanded⟩ := step_part s t stepped
  · rw [ticked]
    exact k.tick _ h
  · rw [commanded]
    exact k.command c _ h

end Sys2Proof.Machine

/-! PROOFS. What the operations of the supply controller, the verification walk and the timers leave as it was. -/

namespace Sys2Proof.Machine

@[simp] theorem Part.finishCold_keeps (p : Part) :
    p.finishCold.walk = p.walk ∧ p.finishCold.vkeep = p.vkeep ∧ p.finishCold.arbiter = p.arbiter ∧
    p.finishCold.tableLost = p.tableLost ∧ p.finishCold.intake = p.intake ∧
    p.finishCold.setupIgnored = p.setupIgnored ∧ p.finishCold.contexts = p.contexts ∧
    p.finishCold.awaitOrder = p.awaitOrder ∧ p.finishCold.journal = p.journal ∧
    p.finishCold.counters = p.counters ∧ p.finishCold.previousPage = p.previousPage ∧
    p.finishCold.monitor = p.monitor ∧ p.finishCold.follow = p.follow ∧ p.finishCold.sweep = p.sweep ∧
    p.finishCold.memory = p.memory ∧ p.finishCold.memoryEpoch = p.memoryEpoch ∧ p.finishCold.draws = p.draws := by
  rw [Part.finishCold]
  split
  · split
    · simp
    · next c _ => cases c <;> simp [Part.completeCold, Part.coldInit, Part.coldRetained, Part.enterLockout]
  · simp

@[simp] theorem Part.verifySetup_keeps (p : Part) :
    p.verifySetup.supply = p.supply ∧ p.verifySetup.keepValid = p.keepValid ∧
    p.verifySetup.initialising = p.initialising ∧ p.verifySetup.lockoutTimer = p.lockoutTimer ∧
    p.verifySetup.walk = p.walk ∧ p.verifySetup.vkeep = p.vkeep ∧ p.verifySetup.crystal = p.crystal ∧
    p.verifySetup.store = p.store ∧ p.verifySetup.arbiter = p.arbiter ∧ p.verifySetup.tableLost = p.tableLost ∧
    p.verifySetup.intake = p.intake ∧ p.verifySetup.fileNumber = p.fileNumber ∧
    p.verifySetup.fileNumberFault = p.fileNumberFault ∧ p.verifySetup.setupIgnored = p.setupIgnored ∧
    p.verifySetup.contexts = p.contexts ∧ p.verifySetup.awaitOrder = p.awaitOrder ∧
    p.verifySetup.journal = p.journal ∧ p.verifySetup.queue = p.queue ∧ p.verifySetup.counters = p.counters ∧
    p.verifySetup.previousPage = p.previousPage ∧ p.verifySetup.monitor = p.monitor ∧
    p.verifySetup.clock = p.clock ∧ p.verifySetup.follow = p.follow ∧ p.verifySetup.sweep = p.sweep ∧
    p.verifySetup.path = p.path ∧ p.verifySetup.memory = p.memory ∧ p.verifySetup.memoryEpoch = p.memoryEpoch ∧
    p.verifySetup.draws = p.draws := by
  rw [Part.verifySetup]
  split <;> simp

@[simp] theorem Part.rebuildStep_keeps (p : Part) (n : Nat) (failed : Bool) :
    (p.rebuildStep n failed).supply = p.supply ∧ (p.rebuildStep n failed).keepValid = p.keepValid ∧
    (p.rebuildStep n failed).initialising = p.initialising ∧
    (p.rebuildStep n failed).lockoutTimer = p.lockoutTimer ∧ (p.rebuildStep n failed).vkeep = p.vkeep ∧
    (p.rebuildStep n failed).crystal = p.crystal ∧ (p.rebuildStep n failed).arbiter = p.arbiter ∧
    (p.rebuildStep n failed).intake = p.intake ∧ (p.rebuildStep n failed).setup = p.setup ∧
    (p.rebuildStep n failed).locked = p.locked ∧ (p.rebuildStep n failed).setupFault = p.setupFault ∧
    (p.rebuildStep n failed).setupIgnored = p.setupIgnored ∧ (p.rebuildStep n failed).contexts = p.contexts ∧
    (p.rebuildStep n failed).awaitOrder = p.awaitOrder ∧ (p.rebuildStep n failed).journal = p.journal ∧
    (p.rebuildStep n failed).queue = p.queue ∧ (p.rebuildStep n failed).counters = p.counters ∧
    (p.rebuildStep n failed).previousPage = p.previousPage ∧ (p.rebuildStep n failed).monitor = p.monitor ∧
    (p.rebuildStep n failed).clock = p.clock ∧ (p.rebuildStep n failed).follow = p.follow ∧
    (p.rebuildStep n failed).sweep = p.sweep ∧ (p.rebuildStep n failed).path = p.path ∧
    (p.rebuildStep n failed).memory = p.memory ∧ (p.rebuildStep n failed).memoryEpoch = p.memoryEpoch ∧
    (p.rebuildStep n failed).draws = p.draws := by
  simp only [Part.rebuildStep, Part.declareLost]
  repeat' split
  all_goals simp

@[simp] theorem Part.walkStep_keeps (p : Part) :
    p.walkStep.supply = p.supply ∧ p.walkStep.keepValid = p.keepValid ∧ p.walkStep.initialising = p.initialising ∧
    p.walkStep.lockoutTimer = p.lockoutTimer ∧ p.walkStep.vkeep = p.vkeep ∧ p.walkStep.crystal = p.crystal ∧
    p.walkStep.arbiter = p.arbiter ∧ p.walkStep.intake = p.intake ∧ p.walkStep.setupIgnored = p.setupIgnored ∧
    p.walkStep.contexts = p.contexts ∧ p.walkStep.awaitOrder = p.awaitOrder ∧ p.walkStep.journal = p.journal ∧
    p.walkStep.counters = p.counters ∧ p.walkStep.previousPage = p.previousPage ∧ p.walkStep.monitor = p.monitor ∧
    p.walkStep.clock = p.clock ∧ p.walkStep.follow = p.follow ∧ p.walkStep.sweep = p.sweep ∧
    p.walkStep.path = p.path ∧ p.walkStep.memory = p.memory ∧ p.walkStep.memoryEpoch = p.memoryEpoch ∧
    p.walkStep.draws = p.draws := by
  simp only [Part.walkStep, Part.afterStages, Part.verifyOutcome]
  repeat' split
  all_goals simp

@[simp] theorem Part.finishDeclare_keeps (p : Part) (failed : Bool) :
    (p.finishDeclare failed).supply = p.supply ∧ (p.finishDeclare failed).keepValid = p.keepValid ∧
    (p.finishDeclare failed).initialising = p.initialising ∧
    (p.finishDeclare failed).lockoutTimer = p.lockoutTimer ∧ (p.finishDeclare failed).vkeep = p.vkeep ∧
    (p.finishDeclare failed).crystal = p.crystal ∧ (p.finishDeclare failed).arbiter = p.arbiter ∧
    (p.finishDeclare failed).intake = p.intake ∧ (p.finishDeclare failed).setup = p.setup ∧
    (p.finishDeclare failed).locked = p.locked ∧ (p.finishDeclare failed).setupFault = p.setupFault ∧
    (p.finishDeclare failed).setupIgnored = p.setupIgnored ∧ (p.finishDeclare failed).contexts = p.contexts ∧
    (p.finishDeclare failed).awaitOrder = p.awaitOrder ∧ (p.finishDeclare failed).journal = p.journal ∧
    (p.finishDeclare failed).queue = p.queue ∧ (p.finishDeclare failed).counters = p.counters ∧
    (p.finishDeclare failed).previousPage = p.previousPage ∧ (p.finishDeclare failed).monitor = p.monitor ∧
    (p.finishDeclare failed).clock = p.clock ∧ (p.finishDeclare failed).follow = p.follow ∧
    (p.finishDeclare failed).sweep = p.sweep ∧ (p.finishDeclare failed).path = p.path ∧
    (p.finishDeclare failed).memory = p.memory ∧ (p.finishDeclare failed).memoryEpoch = p.memoryEpoch ∧
    (p.finishDeclare failed).draws = p.draws := by
  rw [Part.finishDeclare]
  split <;> simp [Part.declareLost]

@[simp] theorem Part.finishQueueItem_keeps (p : Part) (n : Nat) (failed : Bool) :
    (p.finishQueueItem n failed).supply = p.supply ∧ (p.finishQueueItem n failed).keepValid = p.keepValid ∧
    (p.finishQueueItem n failed).initialising = p.initialising ∧
    (p.finishQueueItem n failed).lockoutTimer = p.lockoutTimer ∧ (p.finishQueueItem n failed).vkeep = p.vkeep ∧
    (p.finishQueueItem n failed).crystal = p.crystal ∧ (p.finishQueueItem n failed).arbiter = p.arbiter ∧
    (p.finishQueueItem n failed).intake = p.intake ∧ (p.finishQueueItem n failed).setup = p.setup ∧
    (p.finishQueueItem n failed).locked = p.locked ∧ (p.finishQueueItem n failed).setupFault = p.setupFault ∧
    (p.finishQueueItem n failed).setupIgnored = p.setupIgnored ∧
    (p.finishQueueItem n failed).contexts = p.contexts ∧ (p.finishQueueItem n failed).awaitOrder = p.awaitOrder ∧
    (p.finishQueueItem n failed).journal = p.journal ∧ (p.finishQueueItem n failed).counters = p.counters ∧
    (p.finishQueueItem n failed).previousPage = p.previousPage ∧ (p.finishQueueItem n failed).monitor = p.monitor ∧
    (p.finishQueueItem n failed).clock = p.clock ∧ (p.finishQueueItem n failed).follow = p.follow ∧
    (p.finishQueueItem n failed).sweep = p.sweep ∧ (p.finishQueueItem n failed).path = p.path ∧
    (p.finishQueueItem n failed).memory = p.memory ∧ (p.finishQueueItem n failed).memoryEpoch = p.memoryEpoch ∧
    (p.finishQueueItem n failed).draws = p.draws := by
  rw [Part.finishQueueItem]
  split <;> simp

@[simp] theorem Part.finishQueue_keeps (p : Part) (failed : Bool) :
    (p.finishQueue failed).supply = p.supply ∧ (p.finishQueue failed).keepValid = p.keepValid ∧
    (p.finishQueue failed).initialising = p.initialising ∧ (p.finishQueue failed).lockoutTimer = p.lockoutTimer ∧
    (p.finishQueue failed).vkeep = p.vkeep ∧ (p.finishQueue failed).crystal = p.crystal ∧
    (p.finishQueue failed).arbiter = p.arbiter ∧ (p.finishQueue failed).intake = p.intake ∧
    (p.finishQueue failed).setup = p.setup ∧ (p.finishQueue failed).locked = p.locked ∧
    (p.finishQueue failed).setupFault = p.setupFault ∧ (p.finishQueue failed).setupIgnored = p.setupIgnored ∧
    (p.finishQueue failed).contexts = p.contexts ∧ (p.finishQueue failed).awaitOrder = p.awaitOrder ∧
    (p.finishQueue failed).journal = p.journal ∧ (p.finishQueue failed).counters = p.counters ∧
    (p.finishQueue failed).previousPage = p.previousPage ∧ (p.finishQueue failed).monitor = p.monitor ∧
    (p.finishQueue failed).clock = p.clock ∧ (p.finishQueue failed).follow = p.follow ∧
    (p.finishQueue failed).sweep = p.sweep ∧ (p.finishQueue failed).path = p.path ∧
    (p.finishQueue failed).memory = p.memory ∧ (p.finishQueue failed).memoryEpoch = p.memoryEpoch ∧
    (p.finishQueue failed).draws = p.draws := by
  rw [Part.finishQueue]
  split <;> simp

@[simp] theorem Part.finishFileNumber_keeps (p : Part) (failed : Bool) :
    (p.finishFileNumber failed).supply = p.supply ∧ (p.finishFileNumber failed).keepValid = p.keepValid ∧
    (p.finishFileNumber failed).initialising = p.initialising ∧
    (p.finishFileNumber failed).lockoutTimer = p.lockoutTimer ∧ (p.finishFileNumber failed).vkeep = p.vkeep ∧
    (p.finishFileNumber failed).crystal = p.crystal ∧ (p.finishFileNumber failed).arbiter = p.arbiter ∧
    (p.finishFileNumber failed).intake = p.intake ∧ (p.finishFileNumber failed).setupIgnored = p.setupIgnored ∧
    (p.finishFileNumber failed).contexts = p.contexts ∧ (p.finishFileNumber failed).awaitOrder = p.awaitOrder ∧
    (p.finishFileNumber failed).journal = p.journal ∧ (p.finishFileNumber failed).counters = p.counters ∧
    (p.finishFileNumber failed).previousPage = p.previousPage ∧ (p.finishFileNumber failed).monitor = p.monitor ∧
    (p.finishFileNumber failed).clock = p.clock ∧ (p.finishFileNumber failed).follow = p.follow ∧
    (p.finishFileNumber failed).sweep = p.sweep ∧ (p.finishFileNumber failed).path = p.path ∧
    (p.finishFileNumber failed).memory = p.memory ∧ (p.finishFileNumber failed).memoryEpoch = p.memoryEpoch ∧
    (p.finishFileNumber failed).draws = p.draws := by
  simp [Part.finishFileNumber]

@[simp] theorem Part.finishStructure_keeps (p : Part) (failed : Bool) :
    (p.finishStructure failed).supply = p.supply ∧ (p.finishStructure failed).keepValid = p.keepValid ∧
    (p.finishStructure failed).initialising = p.initialising ∧
    (p.finishStructure failed).lockoutTimer = p.lockoutTimer ∧ (p.finishStructure failed).vkeep = p.vkeep ∧
    (p.finishStructure failed).crystal = p.crystal ∧ (p.finishStructure failed).arbiter = p.arbiter ∧
    (p.finishStructure failed).intake = p.intake ∧ (p.finishStructure failed).setupIgnored = p.setupIgnored ∧
    (p.finishStructure failed).contexts = p.contexts ∧ (p.finishStructure failed).awaitOrder = p.awaitOrder ∧
    (p.finishStructure failed).journal = p.journal ∧ (p.finishStructure failed).counters = p.counters ∧
    (p.finishStructure failed).previousPage = p.previousPage ∧ (p.finishStructure failed).monitor = p.monitor ∧
    (p.finishStructure failed).clock = p.clock ∧ (p.finishStructure failed).follow = p.follow ∧
    (p.finishStructure failed).sweep = p.sweep ∧ (p.finishStructure failed).path = p.path ∧
    (p.finishStructure failed).memory = p.memory ∧ (p.finishStructure failed).memoryEpoch = p.memoryEpoch ∧
    (p.finishStructure failed).draws = p.draws := by
  simp [Part.finishStructure]

@[simp] theorem Part.finishWalk_keeps (p : Part) :
    p.finishWalk.supply = p.supply ∧ p.finishWalk.keepValid = p.keepValid ∧
    p.finishWalk.initialising = p.initialising ∧ p.finishWalk.lockoutTimer = p.lockoutTimer ∧
    p.finishWalk.vkeep = p.vkeep ∧ p.finishWalk.crystal = p.crystal ∧ p.finishWalk.arbiter = p.arbiter ∧
    p.finishWalk.intake = p.intake ∧ p.finishWalk.setupIgnored = p.setupIgnored ∧
    p.finishWalk.contexts = p.contexts ∧ p.finishWalk.awaitOrder = p.awaitOrder ∧
    p.finishWalk.journal = p.journal ∧ p.finishWalk.counters = p.counters ∧
    p.finishWalk.previousPage = p.previousPage ∧ p.finishWalk.monitor = p.monitor ∧ p.finishWalk.clock = p.clock ∧
    p.finishWalk.follow = p.follow ∧ p.finishWalk.sweep = p.sweep ∧ p.finishWalk.path = p.path ∧
    p.finishWalk.memory = p.memory ∧ p.finishWalk.memoryEpoch = p.memoryEpoch ∧ p.finishWalk.draws = p.draws := by
  simp only [Part.finishWalk]
  split <;> simp

@[simp] theorem Part.expireAttention_keeps (p : Part) :
    p.expireAttention.supply = p.supply ∧ p.expireAttention.keepValid = p.keepValid ∧
    p.expireAttention.initialising = p.initialising ∧ p.expireAttention.lockoutTimer = p.lockoutTimer ∧
    p.expireAttention.walk = p.walk ∧ p.expireAttention.vkeep = p.vkeep ∧ p.expireAttention.crystal = p.crystal ∧
    p.expireAttention.store = p.store ∧ p.expireAttention.arbiter = p.arbiter ∧
    p.expireAttention.tableLost = p.tableLost ∧ p.expireAttention.intake = p.intake ∧
    p.expireAttention.fileNumber = p.fileNumber ∧ p.expireAttention.fileNumberFault = p.fileNumberFault ∧
    p.expireAttention.setup = p.setup ∧ p.expireAttention.locked = p.locked ∧
    p.expireAttention.setupFault = p.setupFault ∧ p.expireAttention.setupIgnored = p.setupIgnored ∧
    p.expireAttention.contexts = p.contexts ∧ p.expireAttention.awaitOrder = p.awaitOrder ∧
    p.expireAttention.journal = p.journal ∧ p.expireAttention.queue = p.queue ∧
    p.expireAttention.counters = p.counters ∧ p.expireAttention.previousPage = p.previousPage ∧
    p.expireAttention.clock = p.clock ∧ p.expireAttention.follow = p.follow ∧ p.expireAttention.sweep = p.sweep ∧
    p.expireAttention.path = p.path ∧ p.expireAttention.memory = p.memory ∧
    p.expireAttention.memoryEpoch = p.memoryEpoch ∧ p.expireAttention.draws = p.draws := by
  rw [Part.expireAttention]
  split <;> simp

@[simp] theorem Part.endSlot_keeps (p : Part) :
    p.endSlot.supply = p.supply ∧ p.endSlot.keepValid = p.keepValid ∧ p.endSlot.initialising = p.initialising ∧
    p.endSlot.lockoutTimer = p.lockoutTimer ∧ p.endSlot.walk = p.walk ∧ p.endSlot.vkeep = p.vkeep ∧
    p.endSlot.crystal = p.crystal ∧ p.endSlot.store = p.store ∧ p.endSlot.arbiter = p.arbiter ∧
    p.endSlot.tableLost = p.tableLost ∧ p.endSlot.intake = p.intake ∧ p.endSlot.fileNumber = p.fileNumber ∧
    p.endSlot.fileNumberFault = p.fileNumberFault ∧ p.endSlot.setup = p.setup ∧ p.endSlot.locked = p.locked ∧
    p.endSlot.setupFault = p.setupFault ∧ p.endSlot.setupIgnored = p.setupIgnored ∧
    p.endSlot.contexts = p.contexts ∧ p.endSlot.awaitOrder = p.awaitOrder ∧ p.endSlot.journal = p.journal ∧
    p.endSlot.queue = p.queue ∧ p.endSlot.counters = p.counters ∧ p.endSlot.previousPage = p.previousPage ∧
    p.endSlot.clock = p.clock ∧ p.endSlot.follow = p.follow ∧ p.endSlot.sweep = p.sweep ∧ p.endSlot.path = p.path ∧
    p.endSlot.memory = p.memory ∧ p.endSlot.memoryEpoch = p.memoryEpoch ∧ p.endSlot.draws = p.draws := by
  rw [Part.endSlot]
  split
  · dsimp only
    split <;> simp
  · simp

@[simp] theorem Part.lockoutEnds_keeps (p : Part) :
    p.lockoutEnds.keepValid = p.keepValid ∧ p.lockoutEnds.initialising = p.initialising ∧
    p.lockoutEnds.vkeep = p.vkeep ∧ p.lockoutEnds.crystal = p.crystal ∧ p.lockoutEnds.store = p.store ∧
    p.lockoutEnds.arbiter = p.arbiter ∧ p.lockoutEnds.tableLost = p.tableLost ∧ p.lockoutEnds.intake = p.intake ∧
    p.lockoutEnds.fileNumber = p.fileNumber ∧ p.lockoutEnds.fileNumberFault = p.fileNumberFault ∧
    p.lockoutEnds.setup = p.setup ∧ p.lockoutEnds.locked = p.locked ∧ p.lockoutEnds.setupFault = p.setupFault ∧
    p.lockoutEnds.setupIgnored = p.setupIgnored ∧ p.lockoutEnds.contexts = p.contexts ∧
    p.lockoutEnds.awaitOrder = p.awaitOrder ∧ p.lockoutEnds.journal = p.journal ∧ p.lockoutEnds.queue = p.queue ∧
    p.lockoutEnds.counters = p.counters ∧ p.lockoutEnds.previousPage = p.previousPage ∧
    p.lockoutEnds.monitor = p.monitor ∧ p.lockoutEnds.clock = p.clock ∧ p.lockoutEnds.follow = p.follow ∧
    p.lockoutEnds.sweep = p.sweep ∧ p.lockoutEnds.path = p.path ∧ p.lockoutEnds.memory = p.memory ∧
    p.lockoutEnds.memoryEpoch = p.memoryEpoch ∧ p.lockoutEnds.draws = p.draws := by
  rw [Part.lockoutEnds]
  split <;> simp

@[simp] theorem Part.mainGoodNow_keeps (p : Part) (straps : BitVec 10) :
    (p.mainGoodNow straps).keepValid = p.keepValid ∧ (p.mainGoodNow straps).walk = p.walk ∧
    (p.mainGoodNow straps).vkeep = p.vkeep ∧ (p.mainGoodNow straps).crystal = p.crystal ∧
    (p.mainGoodNow straps).store = p.store ∧ (p.mainGoodNow straps).arbiter = p.arbiter ∧
    (p.mainGoodNow straps).tableLost = p.tableLost ∧ (p.mainGoodNow straps).intake = p.intake ∧
    (p.mainGoodNow straps).fileNumber = p.fileNumber ∧ (p.mainGoodNow straps).fileNumberFault = p.fileNumberFault ∧
    (p.mainGoodNow straps).setup = p.setup ∧ (p.mainGoodNow straps).locked = p.locked ∧
    (p.mainGoodNow straps).setupFault = p.setupFault ∧ (p.mainGoodNow straps).setupIgnored = p.setupIgnored ∧
    (p.mainGoodNow straps).contexts = p.contexts ∧ (p.mainGoodNow straps).awaitOrder = p.awaitOrder ∧
    (p.mainGoodNow straps).journal = p.journal ∧ (p.mainGoodNow straps).queue = p.queue ∧
    (p.mainGoodNow straps).counters = p.counters ∧ (p.mainGoodNow straps).previousPage = p.previousPage ∧
    (p.mainGoodNow straps).monitor = p.monitor ∧ (p.mainGoodNow straps).clock = p.clock ∧
    (p.mainGoodNow straps).follow = p.follow ∧ (p.mainGoodNow straps).sweep = p.sweep ∧
    (p.mainGoodNow straps).memory = p.memory ∧ (p.mainGoodNow straps).memoryEpoch = p.memoryEpoch ∧
    (p.mainGoodNow straps).draws = p.draws := by
  rw [Part.mainGoodNow]
  split
  case h_2 => split <;> simp [Part.enterLockout]
  all_goals simp

@[simp] theorem Part.mainGood_keeps (p : Part) (straps : BitVec 10) :
    (p.mainGood straps).walk = p.walk ∧ (p.mainGood straps).vkeep = p.vkeep ∧
    (p.mainGood straps).arbiter = p.arbiter ∧ (p.mainGood straps).tableLost = p.tableLost ∧
    (p.mainGood straps).intake = p.intake ∧ (p.mainGood straps).setupIgnored = p.setupIgnored ∧
    (p.mainGood straps).contexts = p.contexts ∧ (p.mainGood straps).awaitOrder = p.awaitOrder ∧
    (p.mainGood straps).journal = p.journal ∧ (p.mainGood straps).counters = p.counters ∧
    (p.mainGood straps).previousPage = p.previousPage ∧ (p.mainGood straps).monitor = p.monitor ∧
    (p.mainGood straps).follow = p.follow ∧ (p.mainGood straps).sweep = p.sweep ∧
    (p.mainGood straps).memory = p.memory ∧ (p.mainGood straps).memoryEpoch = p.memoryEpoch ∧
    (p.mainGood straps).draws = p.draws := by
  rw [Part.mainGood]
  split <;> simp

@[simp] theorem Part.cutCold_keeps (p : Part) :
    p.cutCold.lockoutTimer = p.lockoutTimer ∧ p.cutCold.walk = p.walk ∧ p.cutCold.vkeep = p.vkeep ∧
    p.cutCold.crystal = p.crystal ∧ p.cutCold.arbiter = p.arbiter ∧ p.cutCold.tableLost = p.tableLost ∧
    p.cutCold.intake = p.intake ∧ p.cutCold.setupIgnored = p.setupIgnored ∧ p.cutCold.contexts = p.contexts ∧
    p.cutCold.awaitOrder = p.awaitOrder ∧ p.cutCold.journal = p.journal ∧ p.cutCold.counters = p.counters ∧
    p.cutCold.previousPage = p.previousPage ∧ p.cutCold.monitor = p.monitor ∧ p.cutCold.follow = p.follow ∧
    p.cutCold.sweep = p.sweep ∧ p.cutCold.path = p.path ∧ p.cutCold.memory = p.memory ∧
    p.cutCold.memoryEpoch = p.memoryEpoch ∧ p.cutCold.draws = p.draws := by
  rw [Part.cutCold]
  split <;> simp [Part.enterOff, Part.coldRetained]

@[simp] theorem Part.fallUnsupplied_keeps (p : Part) :
    p.fallUnsupplied.lockoutTimer = p.lockoutTimer ∧ p.fallUnsupplied.walk = p.walk ∧
    p.fallUnsupplied.vkeep = p.vkeep ∧ p.fallUnsupplied.crystal = p.crystal ∧
    p.fallUnsupplied.arbiter = p.arbiter ∧ p.fallUnsupplied.tableLost = p.tableLost ∧
    p.fallUnsupplied.intake = p.intake ∧ p.fallUnsupplied.setupIgnored = p.setupIgnored ∧
    p.fallUnsupplied.contexts = p.contexts ∧ p.fallUnsupplied.awaitOrder = p.awaitOrder ∧
    p.fallUnsupplied.journal = p.journal ∧ p.fallUnsupplied.counters = p.counters ∧
    p.fallUnsupplied.previousPage = p.previousPage ∧ p.fallUnsupplied.monitor = p.monitor ∧
    p.fallUnsupplied.follow = p.follow ∧ p.fallUnsupplied.sweep = p.sweep ∧ p.fallUnsupplied.path = p.path ∧
    p.fallUnsupplied.memory = p.memory ∧ p.fallUnsupplied.memoryEpoch = p.memoryEpoch ∧
    p.fallUnsupplied.draws = p.draws := by
  rw [Part.fallUnsupplied]
  split <;> simp

@[simp] theorem Part.keepGood_keeps (p : Part) :
    p.keepGood.supply = p.supply ∧ p.keepGood.keepValid = p.keepValid ∧ p.keepGood.lockoutTimer = p.lockoutTimer ∧
    p.keepGood.walk = p.walk ∧ p.keepGood.crystal = p.crystal ∧ p.keepGood.store = p.store ∧
    p.keepGood.arbiter = p.arbiter ∧ p.keepGood.tableLost = p.tableLost ∧ p.keepGood.intake = p.intake ∧
    p.keepGood.fileNumber = p.fileNumber ∧ p.keepGood.fileNumberFault = p.fileNumberFault ∧
    p.keepGood.setup = p.setup ∧ p.keepGood.locked = p.locked ∧ p.keepGood.setupFault = p.setupFault ∧
    p.keepGood.setupIgnored = p.setupIgnored ∧ p.keepGood.contexts = p.contexts ∧
    p.keepGood.awaitOrder = p.awaitOrder ∧ p.keepGood.journal = p.journal ∧ p.keepGood.queue = p.queue ∧
    p.keepGood.counters = p.counters ∧ p.keepGood.previousPage = p.previousPage ∧ p.keepGood.monitor = p.monitor ∧
    p.keepGood.clock = p.clock ∧ p.keepGood.follow = p.follow ∧ p.keepGood.sweep = p.sweep ∧
    p.keepGood.path = p.path ∧ p.keepGood.memory = p.memory ∧ p.keepGood.memoryEpoch = p.memoryEpoch ∧
    p.keepGood.draws = p.draws := by
  rw [Part.keepGood]
  split <;> simp

@[simp] theorem Part.keepLow_keeps (p : Part) :
    p.keepLow.walk = p.walk ∧ p.keepLow.arbiter = p.arbiter ∧ p.keepLow.tableLost = p.tableLost ∧
    p.keepLow.intake = p.intake ∧ p.keepLow.setupIgnored = p.setupIgnored ∧ p.keepLow.contexts = p.contexts ∧
    p.keepLow.awaitOrder = p.awaitOrder ∧ p.keepLow.journal = p.journal ∧ p.keepLow.counters = p.counters ∧
    p.keepLow.previousPage = p.previousPage ∧ p.keepLow.monitor = p.monitor ∧ p.keepLow.follow = p.follow ∧
    p.keepLow.sweep = p.sweep ∧ p.keepLow.memory = p.memory ∧ p.keepLow.memoryEpoch = p.memoryEpoch ∧
    p.keepLow.draws = p.draws := by
  simp only [Part.keepLow]
  repeat' split
  all_goals simp

@[simp] theorem Part.keepLost_keeps (p : Part) :
    p.keepLost.lockoutTimer = p.lockoutTimer ∧ p.keepLost.walk = p.walk ∧ p.keepLost.crystal = p.crystal ∧
    p.keepLost.arbiter = p.arbiter ∧ p.keepLost.tableLost = p.tableLost ∧ p.keepLost.intake = p.intake ∧
    p.keepLost.setupIgnored = p.setupIgnored ∧ p.keepLost.contexts = p.contexts ∧
    p.keepLost.awaitOrder = p.awaitOrder ∧ p.keepLost.journal = p.journal ∧ p.keepLost.counters = p.counters ∧
    p.keepLost.previousPage = p.previousPage ∧ p.keepLost.monitor = p.monitor ∧ p.keepLost.follow = p.follow ∧
    p.keepLost.sweep = p.sweep ∧ p.keepLost.path = p.path ∧ p.keepLost.memory = p.memory ∧
    p.keepLost.memoryEpoch = p.memoryEpoch ∧ p.keepLost.draws = p.draws := by
  rw [Part.keepLost]
  split <;> simp [Part.enterOff, Part.coldRetained]

@[simp] theorem Part.landSettle_keeps (p : Part) :
    p.landSettle.supply = p.supply ∧ p.landSettle.keepValid = p.keepValid ∧
    p.landSettle.initialising = p.initialising ∧ p.landSettle.lockoutTimer = p.lockoutTimer ∧
    p.landSettle.walk = p.walk ∧ p.landSettle.vkeep = p.vkeep ∧ p.landSettle.crystal = p.crystal ∧
    p.landSettle.store = p.store ∧ p.landSettle.arbiter = p.arbiter ∧ p.landSettle.tableLost = p.tableLost ∧
    p.landSettle.intake = p.intake ∧ p.landSettle.fileNumber = p.fileNumber ∧
    p.landSettle.fileNumberFault = p.fileNumberFault ∧ p.landSettle.setup = p.setup ∧
    p.landSettle.locked = p.locked ∧ p.landSettle.setupFault = p.setupFault ∧
    p.landSettle.setupIgnored = p.setupIgnored ∧ p.landSettle.contexts = p.contexts ∧
    p.landSettle.awaitOrder = p.awaitOrder ∧ p.landSettle.journal = p.journal ∧ p.landSettle.queue = p.queue ∧
    p.landSettle.counters = p.counters ∧ p.landSettle.previousPage = p.previousPage ∧
    p.landSettle.monitor = p.monitor ∧ p.landSettle.clock = p.clock ∧ p.landSettle.follow = p.follow ∧
    p.landSettle.sweep = p.sweep ∧ p.landSettle.path = p.path ∧ p.landSettle.memoryEpoch = p.memoryEpoch ∧
    p.landSettle.draws = p.draws := by
  rw [Part.landSettle]
  split <;> simp

@[simp] theorem Part.cutSettle_keeps (p : Part) :
    p.cutSettle.supply = p.supply ∧ p.cutSettle.keepValid = p.keepValid ∧
    p.cutSettle.initialising = p.initialising ∧ p.cutSettle.lockoutTimer = p.lockoutTimer ∧
    p.cutSettle.walk = p.walk ∧ p.cutSettle.vkeep = p.vkeep ∧ p.cutSettle.crystal = p.crystal ∧
    p.cutSettle.store = p.store ∧ p.cutSettle.arbiter = p.arbiter ∧ p.cutSettle.tableLost = p.tableLost ∧
    p.cutSettle.intake = p.intake ∧ p.cutSettle.fileNumber = p.fileNumber ∧
    p.cutSettle.fileNumberFault = p.fileNumberFault ∧ p.cutSettle.setup = p.setup ∧ p.cutSettle.locked = p.locked ∧
    p.cutSettle.setupFault = p.setupFault ∧ p.cutSettle.setupIgnored = p.setupIgnored ∧
    p.cutSettle.contexts = p.contexts ∧ p.cutSettle.awaitOrder = p.awaitOrder ∧ p.cutSettle.journal = p.journal ∧
    p.cutSettle.queue = p.queue ∧ p.cutSettle.counters = p.counters ∧ p.cutSettle.previousPage = p.previousPage ∧
    p.cutSettle.monitor = p.monitor ∧ p.cutSettle.clock = p.clock ∧ p.cutSettle.follow = p.follow ∧
    p.cutSettle.sweep = p.sweep ∧ p.cutSettle.path = p.path ∧ p.cutSettle.memoryEpoch = p.memoryEpoch := by
  simp only [Part.cutSettle]
  repeat' split
  all_goals simp

@[simp] theorem Part.giveUpResult_keeps (p : Part) (n : Fin 4) :
    (p.giveUpResult n).supply = p.supply ∧ (p.giveUpResult n).keepValid = p.keepValid ∧
    (p.giveUpResult n).initialising = p.initialising ∧ (p.giveUpResult n).lockoutTimer = p.lockoutTimer ∧
    (p.giveUpResult n).walk = p.walk ∧ (p.giveUpResult n).vkeep = p.vkeep ∧
    (p.giveUpResult n).crystal = p.crystal ∧ (p.giveUpResult n).store = p.store ∧
    (p.giveUpResult n).arbiter = p.arbiter ∧ (p.giveUpResult n).tableLost = p.tableLost ∧
    (p.giveUpResult n).intake = p.intake ∧ (p.giveUpResult n).fileNumber = p.fileNumber ∧
    (p.giveUpResult n).fileNumberFault = p.fileNumberFault ∧ (p.giveUpResult n).setup = p.setup ∧
    (p.giveUpResult n).locked = p.locked ∧ (p.giveUpResult n).setupFault = p.setupFault ∧
    (p.giveUpResult n).setupIgnored = p.setupIgnored ∧ (p.giveUpResult n).contexts = p.contexts ∧
    (p.giveUpResult n).awaitOrder = p.awaitOrder ∧ (p.giveUpResult n).journal = p.journal ∧
    (p.giveUpResult n).previousPage = p.previousPage ∧ (p.giveUpResult n).monitor = p.monitor ∧
    (p.giveUpResult n).clock = p.clock ∧ (p.giveUpResult n).follow = p.follow ∧
    (p.giveUpResult n).sweep = p.sweep ∧ (p.giveUpResult n).path = p.path ∧ (p.giveUpResult n).memory = p.memory ∧
    (p.giveUpResult n).memoryEpoch = p.memoryEpoch ∧ (p.giveUpResult n).draws = p.draws := by
  simp [Part.giveUpResult]

@[simp] theorem Part.expireAwait_keeps (p : Part) (n : Fin 4) :
    (p.expireAwait n).supply = p.supply ∧ (p.expireAwait n).keepValid = p.keepValid ∧
    (p.expireAwait n).initialising = p.initialising ∧ (p.expireAwait n).lockoutTimer = p.lockoutTimer ∧
    (p.expireAwait n).walk = p.walk ∧ (p.expireAwait n).vkeep = p.vkeep ∧ (p.expireAwait n).crystal = p.crystal ∧
    (p.expireAwait n).tableLost = p.tableLost ∧ (p.expireAwait n).intake = p.intake ∧
    (p.expireAwait n).fileNumber = p.fileNumber ∧ (p.expireAwait n).fileNumberFault = p.fileNumberFault ∧
    (p.expireAwait n).setup = p.setup ∧ (p.expireAwait n).locked = p.locked ∧
    (p.expireAwait n).setupFault = p.setupFault ∧ (p.expireAwait n).setupIgnored = p.setupIgnored ∧
    (p.expireAwait n).awaitOrder = p.awaitOrder ∧ (p.expireAwait n).journal = p.journal ∧
    (p.expireAwait n).previousPage = p.previousPage ∧ (p.expireAwait n).monitor = p.monitor ∧
    (p.expireAwait n).clock = p.clock ∧ (p.expireAwait n).follow = p.follow ∧ (p.expireAwait n).sweep = p.sweep ∧
    (p.expireAwait n).path = p.path ∧ (p.expireAwait n).memory = p.memory ∧
    (p.expireAwait n).memoryEpoch = p.memoryEpoch ∧ (p.expireAwait n).draws = p.draws := by
  rw [Part.expireAwait]
  repeat' split
  all_goals simp

@[simp] theorem Part.expireHold_keeps (p : Part) :
    p.expireHold.supply = p.supply ∧ p.expireHold.keepValid = p.keepValid ∧
    p.expireHold.initialising = p.initialising ∧ p.expireHold.lockoutTimer = p.lockoutTimer ∧
    p.expireHold.walk = p.walk ∧ p.expireHold.vkeep = p.vkeep ∧ p.expireHold.crystal = p.crystal ∧
    p.expireHold.tableLost = p.tableLost ∧ p.expireHold.intake = p.intake ∧
    p.expireHold.fileNumber = p.fileNumber ∧ p.expireHold.fileNumberFault = p.fileNumberFault ∧
    p.expireHold.setup = p.setup ∧ p.expireHold.locked = p.locked ∧ p.expireHold.setupFault = p.setupFault ∧
    p.expireHold.setupIgnored = p.setupIgnored ∧ p.expireHold.awaitOrder = p.awaitOrder ∧
    p.expireHold.journal = p.journal ∧ p.expireHold.previousPage = p.previousPage ∧
    p.expireHold.monitor = p.monitor ∧ p.expireHold.clock = p.clock ∧ p.expireHold.follow = p.follow ∧
    p.expireHold.sweep = p.sweep ∧ p.expireHold.memory = p.memory ∧ p.expireHold.memoryEpoch = p.memoryEpoch ∧
    p.expireHold.draws = p.draws := by
  rw [Part.expireHold]
  split <;> simp

@[simp] theorem Part.expireIntakeHold_keeps (p : Part) :
    p.expireIntakeHold.supply = p.supply ∧ p.expireIntakeHold.keepValid = p.keepValid ∧
    p.expireIntakeHold.initialising = p.initialising ∧ p.expireIntakeHold.lockoutTimer = p.lockoutTimer ∧
    p.expireIntakeHold.walk = p.walk ∧ p.expireIntakeHold.vkeep = p.vkeep ∧
    p.expireIntakeHold.crystal = p.crystal ∧ p.expireIntakeHold.store = p.store ∧
    p.expireIntakeHold.tableLost = p.tableLost ∧ p.expireIntakeHold.fileNumber = p.fileNumber ∧
    p.expireIntakeHold.fileNumberFault = p.fileNumberFault ∧ p.expireIntakeHold.setup = p.setup ∧
    p.expireIntakeHold.locked = p.locked ∧ p.expireIntakeHold.setupFault = p.setupFault ∧
    p.expireIntakeHold.setupIgnored = p.setupIgnored ∧ p.expireIntakeHold.contexts = p.contexts ∧
    p.expireIntakeHold.awaitOrder = p.awaitOrder ∧ p.expireIntakeHold.journal = p.journal ∧
    p.expireIntakeHold.queue = p.queue ∧ p.expireIntakeHold.previousPage = p.previousPage ∧
    p.expireIntakeHold.monitor = p.monitor ∧ p.expireIntakeHold.clock = p.clock ∧
    p.expireIntakeHold.follow = p.follow ∧ p.expireIntakeHold.sweep = p.sweep ∧
    p.expireIntakeHold.memoryEpoch = p.memoryEpoch ∧ p.expireIntakeHold.draws = p.draws := by
  rw [Part.expireIntakeHold]
  split <;> simp

@[simp] theorem Part.completeLookup_keeps (p : Part) :
    p.completeLookup.supply = p.supply ∧ p.completeLookup.keepValid = p.keepValid ∧
    p.completeLookup.initialising = p.initialising ∧ p.completeLookup.lockoutTimer = p.lockoutTimer ∧
    p.completeLookup.walk = p.walk ∧ p.completeLookup.vkeep = p.vkeep ∧ p.completeLookup.crystal = p.crystal ∧
    p.completeLookup.tableLost = p.tableLost ∧ p.completeLookup.intake = p.intake ∧
    p.completeLookup.fileNumber = p.fileNumber ∧ p.completeLookup.fileNumberFault = p.fileNumberFault ∧
    p.completeLookup.setup = p.setup ∧ p.completeLookup.locked = p.locked ∧
    p.completeLookup.setupFault = p.setupFault ∧ p.completeLookup.setupIgnored = p.setupIgnored ∧
    p.completeLookup.journal = p.journal ∧ p.completeLookup.previousPage = p.previousPage ∧
    p.completeLookup.clock = p.clock ∧ p.completeLookup.follow = p.follow ∧ p.completeLookup.sweep = p.sweep ∧
    p.completeLookup.memory = p.memory ∧ p.completeLookup.memoryEpoch = p.memoryEpoch ∧
    p.completeLookup.draws = p.draws := by
  rw [Part.completeLookup]
  split
  · split <;> simp
  · simp

@[simp] theorem Part.resetRun_keeps (p : Part) (straps : BitVec 10) :
    (p.resetRun straps).supply = p.supply ∧ (p.resetRun straps).keepValid = p.keepValid ∧
    (p.resetRun straps).initialising = p.initialising ∧ (p.resetRun straps).lockoutTimer = p.lockoutTimer ∧
    (p.resetRun straps).walk = p.walk ∧ (p.resetRun straps).vkeep = p.vkeep ∧
    (p.resetRun straps).crystal = p.crystal ∧ (p.resetRun straps).fileNumber = p.fileNumber ∧
    (p.resetRun straps).fileNumberFault = p.fileNumberFault ∧ (p.resetRun straps).setup = p.setup ∧
    (p.resetRun straps).locked = p.locked ∧ (p.resetRun straps).setupFault = p.setupFault ∧
    (p.resetRun straps).awaitOrder = p.awaitOrder ∧ (p.resetRun straps).sweep = p.sweep ∧
    (p.resetRun straps).memoryEpoch = p.memoryEpoch ∧ (p.resetRun straps).draws = p.draws := by
  simp [Part.resetRun, Part.resetPath]

@[simp] theorem Part.completeStageEntry_keeps (p : Part) :
    p.completeStageEntry.supply = p.supply ∧ p.completeStageEntry.keepValid = p.keepValid ∧
    p.completeStageEntry.initialising = p.initialising ∧ p.completeStageEntry.lockoutTimer = p.lockoutTimer ∧
    p.completeStageEntry.walk = p.walk ∧ p.completeStageEntry.vkeep = p.vkeep ∧
    p.completeStageEntry.crystal = p.crystal ∧ p.completeStageEntry.tableLost = p.tableLost ∧
    p.completeStageEntry.fileNumber = p.fileNumber ∧ p.completeStageEntry.fileNumberFault = p.fileNumberFault ∧
    p.completeStageEntry.setup = p.setup ∧ p.completeStageEntry.locked = p.locked ∧
    p.completeStageEntry.setupFault = p.setupFault ∧ p.completeStageEntry.setupIgnored = p.setupIgnored ∧
    p.completeStageEntry.contexts = p.contexts ∧ p.completeStageEntry.awaitOrder = p.awaitOrder ∧
    p.completeStageEntry.journal = p.journal ∧ p.completeStageEntry.queue = p.queue ∧
    p.completeStageEntry.previousPage = p.previousPage ∧ p.completeStageEntry.monitor = p.monitor ∧
    p.completeStageEntry.clock = p.clock ∧ p.completeStageEntry.follow = p.follow ∧
    p.completeStageEntry.sweep = p.sweep ∧ p.completeStageEntry.memoryEpoch = p.memoryEpoch ∧
    p.completeStageEntry.draws = p.draws := by
  simp only [Part.completeStageEntry, Part.intakeAnswered]
  repeat' split
  all_goals simp

@[simp] theorem Part.completeStagePass_keeps (p : Part) :
    p.completeStagePass.supply = p.supply ∧ p.completeStagePass.keepValid = p.keepValid ∧
    p.completeStagePass.initialising = p.initialising ∧ p.completeStagePass.lockoutTimer = p.lockoutTimer ∧
    p.completeStagePass.walk = p.walk ∧ p.completeStagePass.vkeep = p.vkeep ∧
    p.completeStagePass.crystal = p.crystal ∧ p.completeStagePass.tableLost = p.tableLost ∧
    p.completeStagePass.fileNumber = p.fileNumber ∧ p.completeStagePass.fileNumberFault = p.fileNumberFault ∧
    p.completeStagePass.setup = p.setup ∧ p.completeStagePass.locked = p.locked ∧
    p.completeStagePass.setupFault = p.setupFault ∧ p.completeStagePass.setupIgnored = p.setupIgnored ∧
    p.completeStagePass.contexts = p.contexts ∧ p.completeStagePass.awaitOrder = p.awaitOrder ∧
    p.completeStagePass.journal = p.journal ∧ p.completeStagePass.queue = p.queue ∧
    p.completeStagePass.previousPage = p.previousPage ∧ p.completeStagePass.monitor = p.monitor ∧
    p.completeStagePass.clock = p.clock ∧ p.completeStagePass.follow = p.follow ∧
    p.completeStagePass.sweep = p.sweep ∧ p.completeStagePass.memoryEpoch = p.memoryEpoch ∧
    p.completeStagePass.draws = p.draws := by
  simp only [Part.completeStagePass, Part.intakeAnswered]
  repeat' split
  all_goals simp

@[simp] theorem Part.completeDiscard_keeps (p : Part) :
    p.completeDiscard.supply = p.supply ∧ p.completeDiscard.keepValid = p.keepValid ∧
    p.completeDiscard.initialising = p.initialising ∧ p.completeDiscard.lockoutTimer = p.lockoutTimer ∧
    p.completeDiscard.walk = p.walk ∧ p.completeDiscard.vkeep = p.vkeep ∧ p.completeDiscard.crystal = p.crystal ∧
    p.completeDiscard.tableLost = p.tableLost ∧ p.completeDiscard.fileNumber = p.fileNumber ∧
    p.completeDiscard.fileNumberFault = p.fileNumberFault ∧ p.completeDiscard.setup = p.setup ∧
    p.completeDiscard.locked = p.locked ∧ p.completeDiscard.setupFault = p.setupFault ∧
    p.completeDiscard.setupIgnored = p.setupIgnored ∧ p.completeDiscard.contexts = p.contexts ∧
    p.completeDiscard.awaitOrder = p.awaitOrder ∧ p.completeDiscard.journal = p.journal ∧
    p.completeDiscard.queue = p.queue ∧ p.completeDiscard.previousPage = p.previousPage ∧
    p.completeDiscard.monitor = p.monitor ∧ p.completeDiscard.clock = p.clock ∧
    p.completeDiscard.follow = p.follow ∧ p.completeDiscard.sweep = p.sweep ∧
    p.completeDiscard.memoryEpoch = p.memoryEpoch ∧ p.completeDiscard.draws = p.draws := by
  simp only [Part.completeDiscard, Part.intakeAnswered]
  repeat' split
  all_goals simp

@[simp] theorem Part.completeCommit_keeps (p : Part) :
    p.completeCommit.supply = p.supply ∧ p.completeCommit.keepValid = p.keepValid ∧
    p.completeCommit.initialising = p.initialising ∧ p.completeCommit.lockoutTimer = p.lockoutTimer ∧
    p.completeCommit.walk = p.walk ∧ p.completeCommit.vkeep = p.vkeep ∧ p.completeCommit.crystal = p.crystal ∧
    p.completeCommit.tableLost = p.tableLost ∧ p.completeCommit.awaitOrder = p.awaitOrder ∧
    p.completeCommit.previousPage = p.previousPage ∧ p.completeCommit.memoryEpoch = p.memoryEpoch ∧
    p.completeCommit.draws = p.draws := by
  simp only [Part.completeCommit, Part.intakeAnswered]
  repeat' split
  all_goals simp

end Sys2Proof.Machine

/-! PROOFS. No claim stands ungranted while the table is free (R19): every operation ends in a grant, leaves the arbiter
as it was, or leaves it idle. -/

namespace Sys2Proof.Machine

theorem Part.claimsGranted_of_idle (p : Part) (h : p.arbiter = Arbiter.idle) : p.claimsGranted := by
  rw [p.claimsGranted_iff, h]
  exact .inr (.inr ⟨rfl, rfl, rfl, rfl⟩)

theorem Part.mainLost_arbiter (p : Part) : p.mainLost.arbiter = Arbiter.idle := by
  rw [Part.mainLost]
  dsimp only
  split <;> rfl

/-! ## The operations that end in a grant where the table's claims may change -/

theorem Part.arrive_claimsGranted (p : Part) (w : BitVec 23) (a : Access) (h : p.claimsGranted) :
    (p.arrive w a).claimsGranted := by
  rw [Part.arrive]
  split
  · split
    · exact p.claimsGranted_of_arbiter _ rfl h
    · exact Part.grant_claimsGranted _
  · exact h

theorem Part.completeSettle_claimsGranted (p : Part) (h : p.claimsGranted) : p.completeSettle.claimsGranted := by
  rw [Part.completeSettle]
  split
  · exact h
  · exact Part.grant_claimsGranted _

theorem Part.completeLookup_claimsGranted (p : Part) (h : p.claimsGranted) : p.completeLookup.claimsGranted := by
  rw [Part.completeLookup]
  split
  · exact Part.grant_claimsGranted _
  · exact h

theorem Part.completeMark_claimsGranted (p : Part) (h : p.claimsGranted) : p.completeMark.claimsGranted := by
  rw [Part.completeMark]
  split
  · exact Part.grant_claimsGranted _
  · exact Part.grant_claimsGranted _
  · exact h

theorem Part.completeStageEntry_claimsGranted (p : Part) (h : p.claimsGranted) :
    p.completeStageEntry.claimsGranted := by
  rw [Part.completeStageEntry]
  split
  · exact Part.grant_claimsGranted _
  · exact h

theorem Part.completeStagePass_claimsGranted (p : Part) (h : p.claimsGranted) :
    p.completeStagePass.claimsGranted := by
  rw [Part.completeStagePass]
  split
  · exact Part.grant_claimsGranted _
  · exact h

theorem Part.completeCommit_claimsGranted (p : Part) (h : p.claimsGranted) : p.completeCommit.claimsGranted := by
  rw [Part.completeCommit]
  split
  · exact Part.grant_claimsGranted _
  · exact h

theorem Part.completeDiscard_claimsGranted (p : Part) (h : p.claimsGranted) : p.completeDiscard.claimsGranted := by
  rw [Part.completeDiscard]
  split
  · exact Part.grant_claimsGranted _
  · exact h

theorem Part.completeSweepStep_claimsGranted (p : Part) (h : p.claimsGranted) :
    p.completeSweepStep.claimsGranted := by
  rw [Part.completeSweepStep]
  split
  · exact Part.grant_claimsGranted _
  · exact h

theorem Part.takeRelease_claimsGranted (p : Part) (h : p.claimsGranted) : p.takeRelease.claimsGranted := by
  rw [Part.takeRelease]
  split
  · exact Part.grant_claimsGranted _
  · exact h

theorem Part.expireHold_claimsGranted (p : Part) (h : p.claimsGranted) : p.expireHold.claimsGranted := by
  rw [Part.expireHold]
  split
  · exact Part.grant_claimsGranted _
  · exact h

theorem Part.expireIntakeHold_claimsGranted (p : Part) (h : p.claimsGranted) :
    p.expireIntakeHold.claimsGranted := by
  rw [Part.expireIntakeHold]
  split
  · exact Part.grant_claimsGranted _
  · exact h

theorem Part.expireAwait_claimsGranted (p : Part) (n : Fin 4) (h : p.claimsGranted) :
    (p.expireAwait n).claimsGranted := by
  rw [Part.expireAwait]
  split
  · split
    · exact p.claimsGranted_of_arbiter _ (by simp [Part.giveUpResult]) h
    · exact h
  · split
    · exact Part.grant_claimsGranted _
    · exact h
  all_goals exact h

theorem Part.completeWalk_claimsGranted (p : Part) (h : p.claimsGranted) : p.completeWalk.claimsGranted := by
  rw [Part.completeWalk]
  split
  · exact Part.grant_claimsGranted _
  · exact h

theorem Part.mainFall_claimsGranted (p : Part) (h : p.claimsGranted) : p.mainFall.claimsGranted := by
  rw [Part.mainFall]
  split
  · exact p.claimsGranted_of_arbiter _ (by simp) h
  · exact p.claimsGranted_of_arbiter _ (by simp) h
  all_goals exact Part.claimsGranted_of_idle _ p.mainLost_arbiter

theorem Part.assertReset_claimsGranted (p : Part) (straps : BitVec 10) (h : p.claimsGranted) :
    (p.assertReset straps).claimsGranted := by
  rw [Part.assertReset]
  split
  case h_5 => exact Part.grant_claimsGranted _
  all_goals exact p.claimsGranted_of_arbiter _ rfl h

/-! ## The obligation -/

/-- No operation leaves a claim to grant where none was. -/
theorem claimsGranted_keptByOperations : KeptByOperations Part.claimsGranted where
  finishCold p := p.claimsGranted_of_arbiter _ (by simp)
  walkStep p _ := p.claimsGranted_of_arbiter _ (by simp)
  arrive := Part.arrive_claimsGranted
  endCycle p := p.claimsGranted_of_arbiter _ (by simp)
  startSettle p := p.claimsGranted_of_arbiter _ (by simp)
  completeSettle := Part.completeSettle_claimsGranted
  completeLookup := Part.completeLookup_claimsGranted
  completeMark := Part.completeMark_claimsGranted
  completeStageEntry := Part.completeStageEntry_claimsGranted
  completeStagePass := Part.completeStagePass_claimsGranted
  completeCommit := Part.completeCommit_claimsGranted
  completeDiscard := Part.completeDiscard_claimsGranted
  completeSweepStep := Part.completeSweepStep_claimsGranted
  takeRelease := Part.takeRelease_claimsGranted
  expireHold := Part.expireHold_claimsGranted
  expireIntakeHold := Part.expireIntakeHold_claimsGranted
  expireAwait := Part.expireAwait_claimsGranted
  expireAttention p := p.claimsGranted_of_arbiter _ (by simp)
  endSlot p := p.claimsGranted_of_arbiter _ (by simp)
  second p _ := p.crystalSecond.grant_claimsGranted
  lockoutEnds p := p.claimsGranted_of_arbiter _ (by simp)
  completeWalk := Part.completeWalk_claimsGranted
  mainGood p straps := p.claimsGranted_of_arbiter _ (by simp)
  mainFall := Part.mainFall_claimsGranted
  keepGood p := p.claimsGranted_of_arbiter _ (by simp)
  keepLow p := p.claimsGranted_of_arbiter _ (by simp)
  keepLost p := p.claimsGranted_of_arbiter _ (by simp)
  assertReset := Part.assertReset_claimsGranted

/-- Settles O56: each operation keeps it, so every step does. -/
theorem claimsGrantedKept : Obligations.ClaimsGrantedKept :=
  claimsGranted_keptByOperations.step

end Sys2Proof.Machine

/-! PROOFS. Intake's operations at the table arbiter: which operations of the part leave intake's claim, and intake's operation
in progress, as they were. -/

namespace Sys2Proof.Machine

/-- Intake's operation, where the operation in progress is one. -/
def intakeOf : Option Operation → Option IntakeClaim
  | some (.intake c) => some c
  | some (.lookup _ _ _) => none
  | some (.mark _ _) => none
  | some .sweep => none
  | none => none

theorem Part.intakeRunning_eq (p : Part) : p.intakeRunning = intakeOf p.arbiter.op := rfl

theorem intakeOf_eq_some (o : Option Operation) (c : IntakeClaim) :
    intakeOf o = some c ↔ o = some (.intake c) := by
  rw [intakeOf.eq_def]
  split <;> simp

@[simp] theorem intakeOf_none : intakeOf none = none := rfl

@[simp] theorem intakeOf_intake (c : IntakeClaim) : intakeOf (some (.intake c)) = some c := rfl

@[simp] theorem intakeOf_lookup (n : Fin 4) (k : BitVec 64) (w : Bool) : intakeOf (some (.lookup n k w)) = none := rfl

@[simp] theorem intakeOf_mark (m : MarkClaim) (d : Option Nat) : intakeOf (some (.mark m d)) = none := rfl

@[simp] theorem intakeOf_sweep : intakeOf (some .sweep) = none := rfl

@[simp] theorem intakeOf_unwanted (o : Option Operation) (n : Fin 4) :
    intakeOf (o.map (·.unwanted n)) = intakeOf o := by
  cases o with
  | none => rfl
  | some o => cases o <;> rfl

/-- Intake's claims, waiting and in progress, are the same in two states of the arbiter. -/
def Arbiter.sameClaims (a b : Arbiter) : Prop := b.intake = a.intake ∧ intakeOf b.op = intakeOf a.op

theorem Arbiter.sameClaims_refl (a : Arbiter) : a.sameClaims a := ⟨rfl, rfl⟩

theorem Arbiter.sameClaims.trans {a b c : Arbiter} (h : a.sameClaims b) (h' : b.sameClaims c) : a.sameClaims c :=
  ⟨h'.1.trans h.1, h'.2.trans h.2⟩

theorem Part.sameClaims_of_arbiter {p q : Part} (h : q.arbiter = p.arbiter) : p.arbiter.sameClaims q.arbiter := by
  rw [h]
  exact Arbiter.sameClaims_refl _

/-! ## The contexts -/

theorem Part.releasePin_claims (p : Part) (n : Nat) : p.arbiter.sameClaims (p.releasePin n).arbiter := by
  rw [Part.releasePin]
  split <;> exact ⟨rfl, rfl⟩

theorem Part.withdrawLookup_claims (p : Part) (n : Fin 4) : p.arbiter.sameClaims (p.withdrawLookup n).arbiter :=
  ⟨rfl, intakeOf_unwanted _ _⟩

theorem Part.dropPresentation_arbiter (p : Part) (n : Fin 4) (pr : Presentation) :
    (p.dropPresentation n pr).arbiter = ((p.disownSettle n).releasePin pr.entry).arbiter := by
  rw [Part.dropPresentation]
  split <;> simp

theorem Part.dropPresentation_claims (p : Part) (n : Fin 4) (pr : Presentation) :
    p.arbiter.sameClaims (p.dropPresentation n pr).arbiter := by
  rw [Part.dropPresentation_arbiter]
  exact (p.disownSettle n).releasePin_claims pr.entry

theorem Part.abandon_claims (p : Part) (n : Fin 4) : p.arbiter.sameClaims (p.abandon n).arbiter := by
  rw [Part.abandon]
  split
  · exact sameClaims_of_arbiter rfl
  · exact sameClaims_of_arbiter rfl
  · exact p.withdrawLookup_claims n
  · exact p.dropPresentation_claims n _
  · exact p.dropPresentation_claims n _

theorem Part.resetContext_claims (p : Part) (n : Fin 4) : p.arbiter.sameClaims (p.resetContext n).arbiter := by
  have answered : (p.resetContext n).arbiter = (p.abandon n).arbiter := by simp [Part.resetContext]
  rw [answered]
  exact p.abandon_claims n

theorem Part.resetContexts_claims (p : Part) : p.arbiter.sameClaims p.resetContexts.arbiter :=
  (((p.resetContext_claims 0).trans (Part.resetContext_claims _ 1)).trans (Part.resetContext_claims _ 2)).trans
    (Part.resetContext_claims _ 3)

theorem Part.endSettling_claims (p : Part) (n : Fin 4) (pr : Presentation) :
    p.arbiter.sameClaims (p.endSettling n pr).arbiter := by
  rw [Part.endSettling]
  split
  · exact p.releasePin_claims _
  · split
    · exact sameClaims_of_arbiter rfl
    · exact p.releasePin_claims _
    · exact p.releasePin_claims _

theorem Part.amendedWith_claims (p : Part) (n : Fin 4) (pr : Presentation) :
    p.arbiter.sameClaims (p.amendedWith n pr).arbiter := by
  rw [Part.amendedWith]
  split
  · exact sameClaims_of_arbiter rfl
  · exact p.endSettling_claims n pr

theorem Part.closeImage_claims (p : Part) (n : Fin 4) (copy : List LaneBytes) :
    p.arbiter.sameClaims (p.closeImage n copy).arbiter := by
  rw [Part.closeImage]
  split <;> exact ⟨rfl, rfl⟩

theorem Part.captureWrite_claims (p : Part) (n : Fin 4) (copy : List LaneBytes) (k : Nat) (b : LaneBytes) :
    p.arbiter.sameClaims (p.captureWrite n copy k b).arbiter := by
  rw [Part.captureWrite]
  split
  · exact p.closeImage_claims n _
  · exact sameClaims_of_arbiter rfl

theorem Part.contextWrite_claims (p : Part) (n : Fin 4) (k : Nat) (b : LaneBytes) :
    p.arbiter.sameClaims (p.contextWrite n k b).1.arbiter := by
  have overtaken : p.arbiter.sameClaims ((p.abandon n).beginPresentation n b).arbiter := p.abandon_claims n
  rw [Part.contextWrite]
  split
  · dsimp only
    split <;> exact sameClaims_of_arbiter rfl
  · dsimp only
    split
    · exact sameClaims_of_arbiter rfl
    · exact p.captureWrite_claims n _ k b
  · dsimp only
    split
    · exact overtaken
    · exact sameClaims_of_arbiter rfl
  · split
    · exact overtaken
    · split
      · exact sameClaims_of_arbiter rfl
      · exact p.amendedWith_claims n _
  · split
    · exact overtaken
    · split <;> exact sameClaims_of_arbiter rfl

/-! ## Confirmation and the journal -/

theorem Part.claimMarkFor_claims (p : Part) (pr : Presentation) : p.arbiter.sameClaims (p.claimMarkFor pr).arbiter := by
  rw [Part.claimMarkFor]
  split <;> exact ⟨rfl, rfl⟩

theorem Part.afterConfirmation_claims (p : Part) (n : Fin 4) (pr : Presentation) (isSettled : Bool) :
    p.arbiter.sameClaims (p.afterConfirmation n pr isSettled).arbiter := by
  rw [Part.afterConfirmation]
  split
  · exact p.releasePin_claims _
  · exact sameClaims_of_arbiter rfl

theorem Part.offerSerial_claims (p : Part) (serial : BitVec 64) (amendable : Bool) :
    p.arbiter.sameClaims (p.offerSerial serial amendable).1.arbiter := by
  rw [Part.offerSerial]
  split
  · exact Arbiter.sameClaims_refl _
  · split
    · exact Arbiter.sameClaims_refl _
    · split
      · exact Arbiter.sameClaims_refl _
      · dsimp only
        refine Arbiter.sameClaims.trans ?_ (Part.afterConfirmation_claims _ _ _ _)
        refine Arbiter.sameClaims.trans ?_ (Part.claimMarkFor_claims _ _)
        refine sameClaims_of_arbiter ?_
        split <;> simp

theorem Part.closingWrite_arbiter (p : Part) (a : Assembly) (b : LaneBytes) (carried broken : Part → Part)
    (hc : (carried p).arbiter = p.arbiter) (hb : (broken p).arbiter = p.arbiter) :
    (p.closingWrite a b carried broken).1.arbiter = p.arbiter := by
  simp only [Part.closingWrite, Part.withAssembly]
  repeat' split
  all_goals simp [hc, hb]

theorem Part.tapWrite_claims (p : Part) (a : Assembly) (offered : Bool) (answer : TapMatch) (early : Bool) (k : Nat)
    (b : LaneBytes) : p.arbiter.sameClaims (p.tapWrite a offered answer early k b).1.arbiter := by
  rw [Part.tapWrite]
  split
  · exact p.offerSerial_claims _ _
  · refine sameClaims_of_arbiter ?_
    split
    · split <;> simp
    · split
      · split
        · exact p.closingWrite_arbiter a b _ _ (by simp) (by simp)
        · simp
      · simp

theorem Part.journalWrite_claims (p : Part) (record k : Nat) (b : LaneBytes) :
    p.arbiter.sameClaims (p.journalWrite record k b).1.arbiter := by
  rw [Part.journalWrite]
  split
  · exact sameClaims_of_arbiter (by simp)
  · split
    · exact Arbiter.sameClaims_refl _
    · split
      · rw [Part.recordWrite]
        split
        · exact sameClaims_of_arbiter (by simp)
        · exact sameClaims_of_arbiter (by simp)
        · exact p.tapWrite_claims _ _ _ _ k b
        · exact sameClaims_of_arbiter (by simp)
      · exact Arbiter.sameClaims_refl _

/-! ## Decisions, settle writes, sweeps and the setup -/

theorem Part.carryDecision_arbiter (p : Part) (n : Fin 4) (snapshot : List Word) (written : List Lanes) (number : Nat)
    (e : Entry) (d : Decision) : (p.carryDecision n snapshot written number e d).arbiter = p.arbiter := by
  simp

theorem Part.noteSettled_claims (p : Part) (w : SettleWrite) : p.arbiter.sameClaims (p.noteSettled w).arbiter := by
  rw [Part.noteSettled]
  split
  · exact p.amendedWith_claims _ _
  · exact Arbiter.sameClaims_refl _

theorem Part.triggerSweep_claims (p : Part) : p.arbiter.sameClaims p.triggerSweep.arbiter := by
  rw [Part.triggerSweep]
  split <;> exact ⟨rfl, rfl⟩

theorem Part.followWindow_claims (p : Part) (old : Setup) (n : Fin 4) :
    p.arbiter.sameClaims (p.followWindow old n).arbiter := by
  rw [Part.followWindow]
  split
  · exact p.resetContext_claims n
  · exact Arbiter.sameClaims_refl _

theorem Part.followSetup_claims (p : Part) (old : Setup) : p.arbiter.sameClaims (p.followSetup old).arbiter := by
  have others : (p.followSetup old).arbiter
      = ((((p.followWindow old 0).followWindow old 1).followWindow old 2).followWindow old 3).arbiter := by
    simp [Part.followSetup]
  rw [others]
  exact (((p.followWindow_claims old 0).trans (Part.followWindow_claims _ old 1)).trans
    (Part.followWindow_claims _ old 2)).trans (Part.followWindow_claims _ old 3)

theorem Part.applySetup_claims (p : Part) (effects : List PendingEffect) :
    p.arbiter.sameClaims (p.applySetup effects).arbiter := by
  have applied := Part.followSetup_claims
    { p with setup := p.setup.applied effects, locked := asksLock effects, setupFault := 0 } p.setup
  rw [Part.applySetup]
  split
  · split
    · exact sameClaims_of_arbiter rfl
    · exact applied
  · exact Arbiter.sameClaims_refl _

theorem Part.commitEffects_claims (p : Part) (c : CommitPayload) :
    p.arbiter.sameClaims (p.commitEffects c).arbiter := by
  have setup := Part.applySetup_claims { p with store := p.store.commit c } c.effects
  rw [Part.commitEffects, Part.commitSweep]
  split
  · refine Arbiter.sameClaims.trans setup ?_
    refine Arbiter.sameClaims.trans (sameClaims_of_arbiter ?_) (Part.triggerSweep_claims _)
    simp
  · refine Arbiter.sameClaims.trans setup (sameClaims_of_arbiter ?_)
    simp

theorem Part.sweepEntry_claims (p : Part) : p.arbiter.sameClaims p.sweepEntry.arbiter := by
  rw [Part.sweepEntry]
  split
  · exact Arbiter.sameClaims_refl _
  · dsimp only
    split <;> exact ⟨rfl, rfl⟩

theorem Part.crystalSecond_claims (p : Part) : p.arbiter.sameClaims p.crystalSecond.arbiter := by
  rw [Part.crystalSecond]
  split
  · exact Arbiter.sameClaims_refl _
  · rw [Part.advanceClock]
    split
    · exact sameClaims_of_arbiter rfl
    · rw [Part.evaluateSchedule]
      split
      · rw [Part.scheduledTrigger]
        split
        · exact Arbiter.sameClaims.trans (sameClaims_of_arbiter rfl) (Part.triggerSweep_claims _)
        · exact sameClaims_of_arbiter rfl
      · exact sameClaims_of_arbiter rfl

/-! ## A grant -/

/-- What a grant does to intake's claims: they stand, or the waiting claim is the operation in progress, which there was
none of. -/
theorem Part.grant_claims (p : Part) :
    p.arbiter.sameClaims p.grant.arbiter
      ∨ p.arbiter.op = none ∧ p.grant.arbiter.intake = none ∧ p.grant.arbiter.op = p.arbiter.intake.map .intake
        ∧ p.arbiter.intake ≠ none := by
  rw [Part.grant]
  split
  next free =>
    rw [Part.grantNext]
    split
    case h_4 c _ _ waiting => exact .inr ⟨free.1, by simp, by simp [waiting], by simp [waiting]⟩
    all_goals exact .inl ⟨by simp, by simp [free.1]⟩
  next => exact .inl (Arbiter.sameClaims_refl _)

end Sys2Proof.Machine

/-! PROOFS. What file intake does with a record at the head of its buffer, and with an answer: the cases, and what each
leaves of the operation in progress. -/

namespace Sys2Proof.Machine

/-! ## What a good record asks for -/

/-- R37: a record is good where none of the common checks fails and the checks of its kind pass it. -/
theorem checkRecord_eq_ok (committed : BitVec 32) (window : Option FileWindow) (staging : Option StagingFile)
    (r : FileRecord) (c : Checked) (h : checkRecord committed window staging r = .ok c) :
    ∃ capacity, commonFailure staging capacity r = none ∧ kindCheck committed window capacity staging r = .ok c := by
  unfold checkRecord at h
  dsimp only at h
  split at h
  next => cases h
  next common => exact ⟨_, common, h⟩

/-- R38: what the HEADER's checks pass is a HEADER with a number above the committed one. -/
theorem checkHeader_eq_ok (committed : BitVec 32) (capacity : Nat) (r : FileRecord) (c : Checked)
    (h : checkHeader committed capacity r = .ok c) : ∃ n k x, c = .header n k x ∧ committed.toNat < n.toNat := by
  simp only [checkHeader] at h
  split at h
  next => cases h
  split at h
  next => cases h
  split at h
  next => cases h
  split at h
  next => exact ⟨_, _, _, (Except.ok.inj h).symm, by omega⟩
  split at h
  next => cases h
  next => exact ⟨_, _, _, (Except.ok.inj h).symm, by omega⟩

/-- R37: a record that passes the common checks without a staging file is of kind HEADER. -/
theorem kind_of_commonFailure_none (capacity : Nat) (r : FileRecord) (h : commonFailure none capacity r = none) :
    recordKind r = 1 := by
  by_contra other
  revert h
  simp only [commonFailure, takenCount]
  split
  next => simp
  split
  next => simp
  next => simp [other]

/-- R37, R38: a good record without a staging file is a HEADER. -/
theorem checkRecord_ok_without_staging (committed : BitVec 32) (window : Option FileWindow) (r : FileRecord)
    (c : Checked) (h : checkRecord committed window none r = .ok c) : ∃ n k x, c = .header n k x := by
  obtain ⟨capacity, common, kind⟩ := checkRecord_eq_ok _ _ _ _ _ h
  rw [kindCheck, kind_of_commonFailure_none _ _ common] at kind
  obtain ⟨n, k, x, rfl, -⟩ := checkHeader_eq_ok _ _ _ _ kind
  exact ⟨n, k, x, rfl⟩

theorem boundEffects_ok_header (staging : Option StagingFile) (x : Except FileRefusal Checked) (n : BitVec 32)
    (k : FileKind) (e : Nat) (h : boundEffects staging x = .ok (.header n k e)) : x = .ok (.header n k e) := by
  rw [boundEffects.eq_def] at h
  split at h
  next => split at h <;> cases h
  all_goals exact h

theorem checkBlock_ne_header (r : FileRecord) (n : BitVec 32) (k : FileKind) (e : Nat) :
    checkBlock r ≠ .ok (.header n k e) := by
  rw [checkBlock]
  split <;> simp

theorem checkRestore_ne_header (r : FileRecord) (n : BitVec 32) (k : FileKind) (e : Nat) :
    checkRestore r ≠ .ok (.header n k e) := by
  rw [checkRestore]
  split <;> simp

theorem checkPass_ne_header (r : FileRecord) (n : BitVec 32) (k : FileKind) (e : Nat) :
    checkPass r ≠ .ok (.header n k e) := by
  simp only [checkPass]
  repeat' split
  all_goals simp

theorem checkCancel_ne_header (r : FileRecord) (n : BitVec 32) (k : FileKind) (e : Nat) :
    checkCancel r ≠ .ok (.header n k e) := by
  rw [checkCancel]
  split <;> simp

theorem checkWindows_ne_header (window : Option FileWindow) (r : FileRecord) (n : BitVec 32) (k : FileKind) (e : Nat) :
    checkWindows window r ≠ .ok (.header n k e) := by
  simp only [checkWindows]
  repeat' split
  all_goals simp

theorem checkPolicy_ne_header (r : FileRecord) (n : BitVec 32) (k : FileKind) (e : Nat) :
    checkPolicy r ≠ .ok (.header n k e) := by
  simp only [checkPolicy]
  repeat' split
  all_goals simp

theorem checkKeys_ne_header (r : FileRecord) (n : BitVec 32) (k : FileKind) (e : Nat) :
    checkKeys r ≠ .ok (.header n k e) := by
  rw [checkKeys]
  split <;> simp

theorem checkTrailer_ne_header (f : StagingFile) (r : FileRecord) (n : BitVec 32) (k : FileKind) (e : Nat) :
    checkTrailer f r ≠ .ok (.header n k e) := by
  rw [checkTrailer]
  repeat' split
  all_goals simp

/-- R37, R38: a HEADER comes of the HEADER's checks alone, and so carries a number above the committed one. -/
theorem header_number_above (committed : BitVec 32) (window : Option FileWindow) (staging : Option StagingFile)
    (r : FileRecord) (n : BitVec 32) (k : FileKind) (e : Nat)
    (h : checkRecord committed window staging r = .ok (.header n k e)) : committed.toNat < n.toNat := by
  obtain ⟨capacity, -, kind⟩ := checkRecord_eq_ok _ _ _ _ _ h
  rw [kindCheck.eq_def] at kind
  split at kind
  case h_1 =>
    obtain ⟨_, _, _, made, above⟩ := checkHeader_eq_ok _ _ _ _ kind
    cases made
    exact above
  case h_2 => exact absurd kind (checkBlock_ne_header r n k e)
  case h_3 => exact absurd kind (checkRestore_ne_header r n k e)
  case h_4 => exact absurd kind (checkPass_ne_header r n k e)
  case h_5 => exact absurd (boundEffects_ok_header _ _ _ _ _ kind) (checkCancel_ne_header r n k e)
  case h_6 => exact absurd (boundEffects_ok_header _ _ _ _ _ kind) (checkWindows_ne_header window r n k e)
  case h_7 => exact absurd (boundEffects_ok_header _ _ _ _ _ kind) (checkPolicy_ne_header r n k e)
  case h_8 => exact absurd (boundEffects_ok_header _ _ _ _ _ kind) (checkKeys_ne_header r n k e)
  case h_9 => exact absurd (boundEffects_ok_header _ _ _ _ _ kind) (by simp)
  case h_10 => exact absurd (boundEffects_ok_header _ _ _ _ _ kind) (by simp)
  case h_11 =>
    split at kind
    next => cases kind
    next f => exact absurd kind (checkTrailer_ne_header f r n k e)
  case h_12 => cases kind

/-! ## The head record -/

/-- R37: what taking the head record can do: nothing; or the file is refused; or the record is dealt with. -/
theorem Part.takeHead_cases (p : Part) :
    p.takeHead = p ∧ (p.intake.buffer = [] ∨ p.intakeOutstanding = true ∨ p.intake.discardOwed = true)
      ∨ ∃ r rest, p.intake.buffer = r :: rest ∧ p.intakeOutstanding = false ∧ p.intake.discardOwed = false
          ∧ ((∃ reason, checkRecord p.fileNumber p.path.fileWindow p.intake.staging r = .error reason
                ∧ p.takeHead = p.refuse reason)
              ∨ ∃ c, checkRecord p.fileNumber p.path.fileWindow p.intake.staging r = .ok c
                ∧ p.takeHead = p.dealWith r c) := by
  rw [Part.takeHead]
  split
  next empty => exact .inl ⟨rfl, .inl empty⟩
  next r rest buffer =>
    split
    next blocked => exact .inl ⟨rfl, .inr (by simpa using blocked)⟩
    next unblocked =>
      obtain ⟨idle, notOwed⟩ : p.intakeOutstanding = false ∧ p.intake.discardOwed = false := by simpa using unblocked
      refine .inr ⟨r, rest, buffer, idle, notOwed, ?_⟩
      rw [Part.takeRecord]
      split
      next reason bad => exact .inl ⟨reason, bad, rfl⟩
      next c good => exact .inr ⟨c, good, rfl⟩

/-- Intake has nothing outstanding where no claim of its waits and no operation of its is in progress. -/
theorem Part.intakeOutstanding_eq_false (p : Part) :
    p.intakeOutstanding = false ↔ p.arbiter.intake = none ∧ intakeOf p.arbiter.op = none := by
  rw [Part.intakeOutstanding, Part.intakeRunning_eq]
  simp

/-! ## The operation in progress -/

theorem Part.orderDiscard_op (p : Part) : p.orderDiscard.arbiter.op = p.arbiter.op := by
  rw [Part.orderDiscard]
  split <;> rfl

theorem Part.refuse_op (p : Part) (reason : FileRefusal) : (p.refuse reason).arbiter.op = p.arbiter.op := by
  have counted : (p.refuse reason).arbiter.op = (p.endFile .draining).orderDiscard.arbiter.op := rfl
  rw [counted, Part.orderDiscard_op]
  simp

theorem Part.dealWith_op (p : Part) (r : FileRecord) (c : Checked) : (p.dealWith r c).arbiter.op = p.arbiter.op := by
  rw [Part.dealWith.eq_def]
  split <;> rfl

theorem Part.takeHead_op (p : Part) : p.takeHead.arbiter.op = p.arbiter.op := by
  obtain ⟨same, -⟩ | ⟨r, -, -, -, -, ⟨reason, -, refused⟩ | ⟨c, -, dealt⟩⟩ := p.takeHead_cases
  · rw [same]
  · rw [refused, Part.refuse_op]
  · rw [dealt, Part.dealWith_op]

theorem Part.admitHeld_arbiter (p : Part) : p.admitHeld.arbiter = p.arbiter := by
  rw [Part.admitHeld]
  split
  · rfl
  · split
    · dsimp only
      simp
    · rfl

theorem Part.intakeWork_op (p : Part) : p.intakeWork.arbiter.op = p.arbiter.op := by
  rw [Part.intakeWork]
  simp only [Part.admitHeld_arbiter, Part.takeHead_op]

/-- Intake's work, as a property that both of its moves keep. -/
theorem Part.intakeWork_induction {P : Part → Prop} (take : ∀ q, P q → P q.takeHead) (admitted : ∀ q, P q → P q.admitHeld)
    (p : Part) (h : P p) : P p.intakeWork :=
  admitted _ (take _ (admitted _ (take _ (admitted _ (take _ h)))))

end Sys2Proof.Machine

/-! PROOFS. The committed file number (R38, R45, R47): a file in hand, and a commit claimed or running, carries a number
above it. -/

namespace Sys2Proof.Machine

/-- The numbers above the committed one, said of intake's claims. -/
theorem Part.numbersAbove_iff (p : Part) : p.numbersAbove ↔
    (∀ f, p.intake.staging = some f → p.fileNumber.toNat < f.number.toNat)
      ∧ (∀ c, p.arbiter.intake = some (.commit c) → p.fileNumber.toNat < c.number.toNat)
      ∧ (∀ c, intakeOf p.arbiter.op = some (.commit c) → p.fileNumber.toNat < c.number.toNat)
      ∧ (∀ c, intakeOf p.arbiter.op = some c → p.arbiter.intake = none)
      ∧ (p.intake.answerIgnored = true → p.intake.staging = none ∧ ∃ c, intakeOf p.arbiter.op = some c) := by
  simp only [Part.numbersAbove, intakeOf_eq_some]

/-- A change that brings no file, no claim and no answer to ignore, and leaves the committed number or lowers it. -/
theorem Part.numbersAbove.of_noneNew {p q : Part} (h : p.numbersAbove) (claims : p.arbiter.sameClaims q.arbiter)
    (number : q.fileNumber.toNat ≤ p.fileNumber.toNat)
    (staging : ∀ f, q.intake.staging = some f → ∃ g, p.intake.staging = some g ∧ f.number = g.number)
    (ignored : q.intake.answerIgnored = p.intake.answerIgnored) : q.numbersAbove := by
  obtain ⟨files, waiting, running, single, ignoring⟩ := p.numbersAbove_iff.mp h
  rw [Part.numbersAbove_iff, claims.1, claims.2, ignored]
  refine ⟨fun f inHand => ?_, fun c claimed => ?_, fun c run => ?_, single, fun ign => ⟨?_, (ignoring ign).2⟩⟩
  · obtain ⟨g, had, same⟩ := staging f inHand
    have above := files g had
    rw [same]
    omega
  · have above := waiting c claimed
    omega
  · have above := running c run
    omega
  · cases inHand : q.intake.staging with
    | none => rfl
    | some f =>
      obtain ⟨g, had, -⟩ := staging f inHand
      exact absurd ((ignoring ign).1.symm.trans had) (by simp)

/-- A change of anything but intake, the arbiter and the committed number. -/
theorem Part.numbersAbove.of_sameIntake {p q : Part} (h : p.numbersAbove) (claims : p.arbiter.sameClaims q.arbiter)
    (number : q.fileNumber = p.fileNumber) (intake : q.intake = p.intake) : q.numbersAbove :=
  h.of_noneNew claims (by rw [number]) (fun f inHand => ⟨f, by rw [← intake]; exact inHand, rfl⟩) (by rw [intake])

/-- The committed number set back to 0, or left. -/
theorem Part.numbersAbove.of_numberZero {p q : Part} (h : p.numbersAbove) (arbiter : q.arbiter = p.arbiter)
    (number : q.fileNumber = 0 ∨ q.fileNumber = p.fileNumber) (intake : q.intake = p.intake) : q.numbersAbove :=
  h.of_noneNew (sameClaims_of_arbiter arbiter) (by obtain zero | same := number <;> simp [*])
    (fun f inHand => ⟨f, by rw [← intake]; exact inHand, rfl⟩) (by rw [intake])

/-- With nothing claimed and no file in hand there is no number to compare. -/
theorem Part.numbersAbove_of_idle (p : Part) (arbiter : p.arbiter.intake = none ∧ intakeOf p.arbiter.op = none)
    (staging : p.intake.staging = none) (ignored : p.intake.answerIgnored = false) : p.numbersAbove := by
  rw [Part.numbersAbove_iff, arbiter.1, arbiter.2, staging, ignored]
  simp

/-! ## Grants -/

theorem Part.numbersAbove.grant {p : Part} (h : p.numbersAbove) : p.grant.numbersAbove := by
  obtain same | ⟨free, noneWaits, running, -⟩ := p.grant_claims
  · exact h.of_sameIntake same (by simp) (by simp)
  · obtain ⟨files, waiting, -, -, ignoring⟩ := p.numbersAbove_iff.mp h
    rw [Part.numbersAbove_iff, noneWaits, running]
    refine ⟨by simpa using files, by simp, fun c claimed => ?_, by simp, fun ign => ?_⟩
    · cases claim : p.arbiter.intake with
      | none => simp [claim] at claimed
      | some d =>
        have isCommit : d = .commit c := by simpa [claim] using claimed
        simpa using waiting c (by rw [claim, isCommit])
    · obtain ⟨-, c, op⟩ := ignoring (by simpa using ign)
      simp [free] at op

/-! ## Refusals -/

/-- R41: a discard ordered, no file in hand. -/
theorem Part.numbersAbove.orderDiscard {p : Part} (h : p.numbersAbove) (staging : p.intake.staging = none) :
    p.orderDiscard.numbersAbove := by
  obtain ⟨-, waiting, running, single, ignoring⟩ := p.numbersAbove_iff.mp h
  rw [Part.orderDiscard, Part.intakeRunning_eq]
  split
  next notRunning =>
    rw [Part.numbersAbove_iff]
    refine ⟨by simp [staging], by simp, by simp [notRunning], by simp [notRunning], fun ign => ?_⟩
    obtain ⟨-, c, op⟩ := ignoring (by simpa using ign)
    exact absurd (notRunning.symm.trans op) (by simp)
  next c run =>
    rw [Part.numbersAbove_iff]
    exact ⟨by simp [staging], waiting, running, single, fun _ => ⟨staging, c, run⟩⟩

theorem Part.endFile_staging (p : Part) (state : IntakeState) : (p.endFile state).intake.staging = none := rfl

theorem Part.endFile_answerIgnored (p : Part) (state : IntakeState) :
    (p.endFile state).intake.answerIgnored = p.intake.answerIgnored := by
  simp [Part.endFile]

theorem Part.numbersAbove.endFile {p : Part} (h : p.numbersAbove) (state : IntakeState) :
    (p.endFile state).numbersAbove :=
  h.of_noneNew (sameClaims_of_arbiter (by simp)) (by simp) (by simp [Part.endFile_staging])
    (p.endFile_answerIgnored state)

theorem Part.numbersAbove.count {p : Part} (h : p.numbersAbove) (f : Counters → Counters) :
    (p.count f).numbersAbove :=
  h.of_sameIntake (sameClaims_of_arbiter rfl) rfl rfl

theorem Part.numbersAbove.refuse {p : Part} (h : p.numbersAbove) (reason : FileRefusal) :
    (p.refuse reason).numbersAbove :=
  ((h.endFile .draining).orderDiscard (p.endFile_staging .draining)).count _

theorem Part.numbersAbove.resetIntake {p : Part} (h : p.numbersAbove) : p.resetIntake.numbersAbove := by
  have ended := (h.endFile .idle).orderDiscard (p.endFile_staging .idle)
  rw [Part.resetIntake]
  split
  · exact ended.count _
  · exact ended

/-! ## Records taken -/

/-- A claim of intake's, where none of its is outstanding. -/
theorem Part.numbersAbove.claimIntake {p : Part} (h : p.numbersAbove) (c : IntakeClaim)
    (idle : intakeOf p.arbiter.op = none) (number : ∀ d, c = .commit d → p.fileNumber.toNat < d.number.toNat) :
    (p.claimIntake c).numbersAbove := by
  obtain ⟨files, -, -, -, ignoring⟩ := p.numbersAbove_iff.mp h
  rw [Part.numbersAbove_iff]
  refine ⟨files, fun d claimed => number d (by simpa using claimed), by simp [idle], by simp [idle], fun ign => ?_⟩
  obtain ⟨-, d, op⟩ := ignoring ign
  exact absurd (idle.symm.trans op) (by simp)

/-- Intake changed with nothing outstanding: what is in hand then carries a number above the committed one. -/
theorem Part.numbersAbove.withIntake {p : Part} (h : p.numbersAbove) (i : Intake)
    (staging : ∀ f, i.staging = some f → p.fileNumber.toNat < f.number.toNat)
    (ignored : i.answerIgnored = true → p.intake.answerIgnored = true ∧ i.staging = none) :
    ({ p with intake := i } : Part).numbersAbove := by
  obtain ⟨-, waiting, running, single, ignoring⟩ := p.numbersAbove_iff.mp h
  rw [Part.numbersAbove_iff]
  exact ⟨staging, waiting, running, single, fun ign => ⟨(ignored ign).2, (ignoring (ignored ign).1).2⟩⟩

/-- While nothing of intake's is in progress there is no answer to ignore. -/
theorem Part.numbersAbove.answerNotIgnored {p : Part} (h : p.numbersAbove) (idle : intakeOf p.arbiter.op = none) :
    p.intake.answerIgnored = false := by
  cases ign : p.intake.answerIgnored with
  | false => rfl
  | true =>
    obtain ⟨-, -, -, -, ignoring⟩ := p.numbersAbove_iff.mp h
    obtain ⟨-, c, op⟩ := ignoring ign
    exact absurd (idle.symm.trans op) (by simp)

theorem Part.numbersAbove.dealWith {p : Part} (h : p.numbersAbove) (r : FileRecord) (c : Checked)
    (idle : intakeOf p.arbiter.op = none)
    (header : ∀ n k x, c = .header n k x → p.fileNumber.toNat < n.toNat) : (p.dealWith r c).numbersAbove := by
  have notIgnored := h.answerNotIgnored idle
  have files := (p.numbersAbove_iff.mp h).1
  rw [Part.dealWith.eq_def]
  split
  next n k x =>
    refine h.withIntake _ (fun f inHand => ?_) (by simp [Intake.dropHead, notIgnored])
    obtain rfl := Option.some.inj inHand
    exact header n k x rfl
  next e passCount f inHand =>
    refine Part.numbersAbove.claimIntake (h.withIntake _ (fun g made => ?_) (by simp [notIgnored])) _ idle (by simp)
    obtain rfl := Option.some.inj made
    exact files f inHand
  next q f inHand =>
    refine Part.numbersAbove.claimIntake (h.withIntake _ (fun g made => ?_) (by simp [notIgnored])) _ idle (by simp)
    obtain rfl := Option.some.inj made
    exact files f inHand
  next e f inHand =>
    refine h.withIntake _ (fun g made => ?_) (by simp [Intake.dropHead, notIgnored])
    obtain rfl := Option.some.inj made
    exact files f inHand
  next f inHand =>
    refine Part.numbersAbove.claimIntake (h.withIntake _ (fun g made => ?_) (by simp [notIgnored])) _ idle ?_
    · obtain rfl := Option.some.inj made
      exact files f inHand
    · intro d made
      obtain rfl := IntakeClaim.commit.inj made
      exact files f inHand
  all_goals exact h

theorem Part.numbersAbove.takeHead {p : Part} (h : p.numbersAbove) : p.takeHead.numbersAbove := by
  obtain ⟨same, -⟩ | ⟨r, rest, -, nothing, -, ⟨reason, -, refused⟩ | ⟨c, good, dealt⟩⟩ := p.takeHead_cases
  · rwa [same]
  · rw [refused]
    exact h.refuse reason
  · rw [dealt]
    refine h.dealWith r c (p.intakeOutstanding_eq_false.mp nothing).2 fun n k x made => ?_
    exact header_number_above _ _ _ r n k x (made ▸ good)

theorem Part.numbersAbove.admitHeld {p : Part} (h : p.numbersAbove) : p.admitHeld.numbersAbove := by
  have same : p.admitHeld.intake.staging = p.intake.staging
      ∧ p.admitHeld.intake.answerIgnored = p.intake.answerIgnored := by
    rw [Part.admitHeld]
    split
    · exact ⟨rfl, rfl⟩
    · split
      · simp
      · exact ⟨rfl, rfl⟩
  exact h.of_noneNew (sameClaims_of_arbiter p.admitHeld_arbiter) (by simp) (fun f inHand => ⟨f, same.1 ▸ inHand, rfl⟩)
    same.2

theorem Part.numbersAbove.intakeWork {p : Part} (h : p.numbersAbove) : p.intakeWork.numbersAbove :=
  Part.intakeWork_induction (fun _ h => h.takeHead) (fun _ h => h.admitHeld) p h

/-! ## Writes into the window -/

theorem Part.acceptWord_staging (p : Part) (word : Nat) (written b : LaneBytes) :
    (p.acceptWord word written b).intake.staging = p.intake.staging
      ∧ (p.acceptWord word written b).intake.answerIgnored = p.intake.answerIgnored := by
  simp only [Part.acceptWord, Part.completeRecord]
  repeat' split
  all_goals exact ⟨rfl, rfl⟩

theorem Part.numbersAbove.acceptWord {p : Part} (h : p.numbersAbove) (word : Nat) (written b : LaneBytes) :
    (p.acceptWord word written b).numbersAbove := by
  obtain ⟨staging, ignored⟩ := p.acceptWord_staging word written b
  exact h.of_noneNew (sameClaims_of_arbiter (by simp)) (by simp) (fun f inHand => ⟨f, staging ▸ inHand, rfl⟩) ignored

/-- R31, R33: the part as a file begins, before its first write is entered. -/
theorem Part.numbersAbove.beginFile {p : Part} (h : p.numbersAbove) (b : LaneBytes) : (p.beginFile b).numbersAbove := by
  rw [Part.beginFile]
  refine Part.numbersAbove.acceptWord ?_ 0 noBytes b
  split
  next =>
    split
    next own =>
      obtain ⟨files, waiting, running, single, ignoring⟩ := p.numbersAbove_iff.mp h
      rw [Part.numbersAbove_iff]
      refine ⟨by simp, waiting, running, single, fun _ => ⟨rfl, ?_⟩⟩
      rw [Part.ownCommitRunning, Part.intakeRunning_eq] at own
      cases op : intakeOf p.arbiter.op with
      | none => simp [op] at own
      | some c => exact ⟨c, rfl⟩
    next => exact (h.refuse .abandoned).withIntake _ (by simp) (fun ign => ⟨ign, rfl⟩)
  next => exact h.withIntake _ (by simp) (fun ign => ⟨ign, rfl⟩)

theorem Part.numbersAbove.followWrite {p : Part} (h : p.numbersAbove) (word : Nat) (b : LaneBytes) :
    (p.followWrite word b).numbersAbove := by
  rw [Part.followWrite]
  split
  · split
    · exact h.acceptWord _ _ b
    · split
      · exact h.beginFile b
      · exact h.refuse .order
  all_goals
    split
    · exact h.beginFile b
    · exact h

theorem Part.numbersAbove.fileWrite {p : Part} (h : p.numbersAbove) (word : Nat) (b : LaneBytes) :
    (p.fileWrite word b).numbersAbove :=
  (h.followWrite word b).intakeWork

/-! ## Answers -/

/-- The table fallen free of an intake operation: what stands then, an answer to be ignored among it. -/
structure Part.numbersAnswered (p : Part) : Prop where
  free : intakeOf p.arbiter.op = none
  noneWaits : p.arbiter.intake = none
  ignored : p.intake.answerIgnored = true → p.intake.staging = none

theorem Part.numbersAbove.answered {p q : Part} (h : p.numbersAbove) (c : IntakeClaim)
    (op : p.arbiter.op = some (.intake c)) (free : intakeOf q.arbiter.op = none) (waiting : q.arbiter.intake = p.arbiter.intake)
    (intake : q.intake = p.intake) : q.numbersAnswered := by
  obtain ⟨-, -, -, single, ignoring⟩ := p.numbersAbove_iff.mp h
  refine ⟨free, ?_, ?_⟩
  · rw [waiting]
    exact single c (by simp [op])
  · rw [intake]
    exact fun ign => (ignoring ign).1

/-- R35, R41, R46: an answer taken as `f` says, or ignored; then intake goes on. -/
theorem Part.numbersAnswered.intakeAnswered {p : Part} (h : p.numbersAnswered) (f : Part → Part)
    (taken : p.intake.answerIgnored = false → (f p).numbersAbove ∧ intakeOf (f p).arbiter.op = none) :
    (p.intakeAnswered f).numbersAbove := by
  rw [Part.intakeAnswered]
  refine Part.numbersAbove.intakeWork ?_
  have owed (q : Part) (above : q.numbersAbove) (free : intakeOf q.arbiter.op = none) : q.claimOwedDiscard.numbersAbove := by
    rw [Part.claimOwedDiscard]
    split
    · exact Part.numbersAbove.claimIntake
        (above.withIntake _ (q.numbersAbove_iff.mp above).1 (by simp [above.answerNotIgnored free])) _
        free (by simp)
    · exact above
  split
  next ignored =>
    refine owed _ ?_ (by simp [h.free])
    rw [Part.numbersAbove_iff]
    simp [Part.ignoreAnswer, h.free, h.noneWaits, h.ignored ignored]
  next notIgnored =>
    obtain ⟨above, free⟩ := taken (by simpa using notIgnored)
    exact owed _ above free

/-- An answer that is not ignored finds the numbers above the committed one. -/
theorem Part.numbersAnswered.numbersAbove {p : Part} (h : p.numbersAnswered)
    (files : ∀ f, p.intake.staging = some f → p.fileNumber.toNat < f.number.toNat)
    (taken : p.intake.answerIgnored = false) : p.numbersAbove := by
  rw [Part.numbersAbove_iff]
  simpa [h.free, h.noneWaits, taken] using files

theorem Part.entryStaged_staging (p : Part) (e : EntryRecord) (n : Nat) (f : StagingFile)
    (h : (p.entryStaged e n).intake.staging = some f) : ∃ g, p.intake.staging = some g ∧ f.number = g.number := by
  simp only [Part.entryStaged, Option.map_eq_some_iff] at h
  obtain ⟨g, had, rfl⟩ := h
  refine ⟨g, had, ?_⟩
  split <;> rfl

theorem Part.passStaged_staging (p : Part) (f : StagingFile) (h : p.passStaged.intake.staging = some f) :
    ∃ g, p.intake.staging = some g ∧ f.number = g.number := by
  simp only [Part.passStaged, Option.map_eq_some_iff] at h
  obtain ⟨g, had, rfl⟩ := h
  exact ⟨g, had, rfl⟩

theorem Part.numbersAbove.completeStageEntry {p : Part} (h : p.numbersAbove) : p.completeStageEntry.numbersAbove := by
  have files := (p.numbersAbove_iff.mp h).1
  rw [Part.completeStageEntry]
  split
  next e number op =>
    refine Part.numbersAbove.grant ?_
    split
    next =>
      have answered := h.answered (q := p.tableFree) _ op rfl rfl rfl
      exact answered.intakeAnswered _ fun taken =>
        ⟨(answered.numbersAbove files taken).refuse _, by rw [Part.refuse_op]; rfl⟩
    next st n _ =>
      have answered := h.answered (q := ({ p with store := st } : Part).tableFree) _ op rfl rfl rfl
      refine answered.intakeAnswered _ fun taken => ⟨?_, rfl⟩
      exact (answered.numbersAbove files taken).of_noneNew (sameClaims_of_arbiter rfl) (Nat.le_refl _)
        (Part.entryStaged_staging _ e n) rfl
  next => exact h

theorem Part.numbersAbove.completeStagePass {p : Part} (h : p.numbersAbove) : p.completeStagePass.numbersAbove := by
  have files := (p.numbersAbove_iff.mp h).1
  rw [Part.completeStagePass]
  split
  next entry q op =>
    refine Part.numbersAbove.grant ?_
    split
    next =>
      have answered := h.answered (q := p.tableFree) _ op rfl rfl rfl
      exact answered.intakeAnswered _ fun taken =>
        ⟨(answered.numbersAbove files taken).refuse _, by rw [Part.refuse_op]; rfl⟩
    next st _ =>
      have answered := h.answered (q := ({ p with store := st } : Part).tableFree) _ op rfl rfl rfl
      refine answered.intakeAnswered _ fun taken => ⟨?_, rfl⟩
      exact (answered.numbersAbove files taken).of_noneNew (sameClaims_of_arbiter rfl) (Nat.le_refl _)
        (Part.passStaged_staging _) rfl
  next => exact h

theorem Part.numbersAbove.completeDiscard {p : Part} (h : p.numbersAbove) : p.completeDiscard.numbersAbove := by
  have files := (p.numbersAbove_iff.mp h).1
  rw [Part.completeDiscard]
  split
  next op =>
    have answered := h.answered (q := ({ p with store := p.store.discard } : Part).tableFree) _ op rfl rfl rfl
    exact (answered.intakeAnswered _ fun taken => ⟨answered.numbersAbove files taken, rfl⟩).grant
  next => exact h

theorem Part.numbersAbove.completeCommit {p : Part} (h : p.numbersAbove) : p.completeCommit.numbersAbove := by
  rw [Part.completeCommit]
  split
  next c op =>
    have claims := p.tableFree.commitEffects_claims c
    have answered := h.answered (q := p.tableFree.commitEffects c) _ op claims.2 claims.1 (by simp)
    refine (answered.intakeAnswered _ fun taken => ⟨?_, answered.free⟩).grant
    exact Part.numbersAbove_of_idle _ ⟨answered.noneWaits, answered.free⟩ rfl taken
  next => exact h

/-! ## The other operations -/

theorem Part.numbersAbove.takeCycle {p : Part} (h : p.numbersAbove) (w : BitVec 23) (a : Access) :
    (p.takeCycle w a).numbersAbove := by
  rw [Part.takeCycle.eq_def]
  split
  · exact h.of_sameIntake (sameClaims_of_arbiter (by simp)) (by simp) (by simp)
  · exact h.of_sameIntake (sameClaims_of_arbiter (by simp)) (by simp) (by simp)
  next b _ =>
    rw [Part.takeWrite]
    split
    · exact h.of_sameIntake (sameClaims_of_arbiter (by simp)) (by simp) (by simp)
    next k _ => exact (h.fileWrite k b).of_sameIntake (sameClaims_of_arbiter (by simp)) (by simp) (by simp)
    next n k _ =>
      refine h.of_sameIntake ((p.contextWrite_claims n k b).trans (sameClaims_of_arbiter ?_)) (by simp) (by simp)
      simp
    next record k _ =>
      refine h.of_sameIntake ((p.journalWrite_claims record k b).trans (sameClaims_of_arbiter ?_)) (by simp) (by simp)
      simp
    · exact h.of_sameIntake (sameClaims_of_arbiter (by simp)) (by simp) (by simp)
  · exact h.of_sameIntake (sameClaims_of_arbiter (by simp)) (by simp) (by simp)

theorem Part.numbersAbove.arrive {p : Part} (h : p.numbersAbove) (w : BitVec 23) (a : Access) :
    (p.arrive w a).numbersAbove := by
  rw [Part.arrive]
  split
  · split
    · exact h.of_sameIntake (sameClaims_of_arbiter rfl) rfl rfl
    · exact (h.takeCycle w a).grant
  · exact h

theorem Part.numbersAbove.takeWaiting {p : Part} (h : p.numbersAbove) : p.takeWaiting.numbersAbove := by
  rw [Part.takeWaiting]
  split
  · exact h
  · refine Part.numbersAbove.takeCycle ?_ _ _
    exact h.of_sameIntake (sameClaims_of_arbiter rfl) rfl rfl

theorem Part.numbersAbove.completeSettle {p : Part} (h : p.numbersAbove) : p.completeSettle.numbersAbove := by
  rw [Part.completeSettle]
  split
  · exact h
  · refine (Part.numbersAbove.takeWaiting ?_).grant
    exact h.of_sameIntake ((sameClaims_of_arbiter rfl).trans (Part.noteSettled_claims _ _)) (by simp) (by simp)

theorem Part.decideLookup_arbiter (p : Part) (n : Fin 4) (snapshot : List Word) (written : List Lanes) :
    (p.decideLookup n snapshot written).arbiter = p.arbiter := by
  simp

theorem Part.numbersAbove.completeLookup {p : Part} (h : p.numbersAbove) : p.completeLookup.numbersAbove := by
  rw [Part.completeLookup]
  split
  next n _ wanted op =>
    have free : p.arbiter.sameClaims p.tableFree.arbiter := ⟨rfl, by simp [op]⟩
    refine Part.numbersAbove.grant ?_
    split
    · exact h.of_sameIntake (free.trans (sameClaims_of_arbiter (by simp))) (by simp) (by simp)
    · exact h.of_sameIntake free rfl rfl
  next => exact h

theorem Part.numbersAbove.completeMark {p : Part} (h : p.numbersAbove) : p.completeMark.numbersAbove := by
  rw [Part.completeMark]
  split
  next op =>
    refine Part.numbersAbove.grant ?_
    exact h.of_sameIntake ⟨rfl, by simp [op]⟩ rfl rfl
  next op =>
    refine Part.numbersAbove.grant ?_
    exact h.of_sameIntake ⟨rfl, by simp [op]⟩ rfl rfl
  next => exact h

theorem Part.numbersAbove.completeSweepStep {p : Part} (h : p.numbersAbove) : p.completeSweepStep.numbersAbove := by
  rw [Part.completeSweepStep]
  split
  next op =>
    have free : p.arbiter.sameClaims p.tableFree.arbiter := ⟨rfl, by simp [op]⟩
    exact (h.of_sameIntake (free.trans (Part.sweepEntry_claims _)) (by simp) (by simp)).grant
  next => exact h

theorem Part.numbersAbove.takeRelease {p : Part} (h : p.numbersAbove) : p.takeRelease.numbersAbove := by
  rw [Part.takeRelease]
  split
  · refine Part.numbersAbove.grant ?_
    exact h.of_sameIntake ⟨rfl, rfl⟩ rfl rfl
  · exact h

theorem Part.numbersAbove.expireHold {p : Part} (h : p.numbersAbove) : p.expireHold.numbersAbove := by
  rw [Part.expireHold]
  split
  next n _ _ =>
    exact (h.of_sameIntake ((p.abandon_claims n).trans (sameClaims_of_arbiter (by simp))) (by simp) (by simp)).grant
  next => exact h

theorem Part.numbersAbove.expireIntakeHold {p : Part} (h : p.numbersAbove) : p.expireIntakeHold.numbersAbove := by
  rw [Part.expireIntakeHold]
  split
  · exact (h.refuse .stall).grant
  · exact h

theorem Part.numbersAbove.expireAwait {p : Part} (h : p.numbersAbove) (n : Fin 4) : (p.expireAwait n).numbersAbove := by
  rw [Part.expireAwait]
  split
  · split
    · exact h.of_sameIntake (sameClaims_of_arbiter (by simp)) (by simp) (by simp)
    · exact h
  · split
    · refine Part.numbersAbove.grant ?_
      refine h.of_sameIntake (Arbiter.sameClaims.trans ?_ (Part.releasePin_claims _ _)) (by simp) (by simp)
      exact sameClaims_of_arbiter (by simp)
    · exact h
  all_goals exact h

theorem Part.numbersAbove_of_volatileInit (p : Part) : p.volatileInit.numbersAbove :=
  Part.numbersAbove_of_idle _ ⟨rfl, rfl⟩ rfl rfl

theorem Part.owedTrigger_claims (p : Part) : p.arbiter.sameClaims p.owedTrigger.arbiter := by
  rw [Part.owedTrigger]
  split
  · exact (sameClaims_of_arbiter rfl).trans (Part.triggerSweep_claims _)
  · exact Arbiter.sameClaims_refl _

theorem Part.numbersAbove_enterRun (p : Part) : p.enterRun.numbersAbove := by
  rw [Part.enterRun]
  refine Part.numbersAbove.grant ?_
  exact p.numbersAbove_of_volatileInit.of_sameIntake ((sameClaims_of_arbiter rfl).trans (Part.owedTrigger_claims _))
    (by simp) (by simp)

/-! ## Supplies, the walk, RESET_N -/

theorem Part.enterOff_intake (p : Part) :
    p.enterOff.arbiter = p.arbiter ∧ p.enterOff.intake = p.intake ∧ p.enterOff.fileNumber = 0 := ⟨rfl, rfl, rfl⟩

theorem Part.finishCold_fileNumber (p : Part) : p.finishCold.fileNumber = 0 ∨ p.finishCold.fileNumber = p.fileNumber := by
  rw [Part.finishCold]
  split
  · split
    · exact .inr rfl
    · next c _ => cases c <;> exact .inl rfl
  · exact .inr rfl

theorem Part.numbersAbove.finishCold {p : Part} (h : p.numbersAbove) : p.finishCold.numbersAbove :=
  h.of_numberZero (by simp) p.finishCold_fileNumber (by simp)

theorem Part.walkStep_fileNumber (p : Part) : p.walkStep.fileNumber = 0 ∨ p.walkStep.fileNumber = p.fileNumber := by
  simp only [Part.walkStep, Part.rebuildStep, Part.verifySetup, Part.afterStages, Part.verifyOutcome,
    Part.declareLost]
  repeat' split
  all_goals simp

theorem Part.mainGoodNow_intake (p : Part) (straps : BitVec 10) :
    (p.mainGoodNow straps).intake = p.intake ∧ (p.mainGoodNow straps).fileNumber = p.fileNumber := by
  rw [Part.mainGoodNow]
  split
  case h_2 => split <;> exact ⟨rfl, rfl⟩
  all_goals exact ⟨rfl, rfl⟩

theorem Part.mainGood_fileNumber (p : Part) (straps : BitVec 10) :
    (p.mainGood straps).fileNumber = 0 ∨ (p.mainGood straps).fileNumber = p.fileNumber := by
  rw [Part.mainGood]
  split
  · exact .inr rfl
  · rw [(Part.mainGoodNow_intake _ straps).2]
    exact p.finishCold_fileNumber
  · exact .inr (p.mainGoodNow_intake straps).2

theorem Part.fallUnsupplied_intake (p : Part) : p.fallUnsupplied.intake = p.intake
    ∧ (p.fallUnsupplied.fileNumber = 0 ∨ p.fallUnsupplied.fileNumber = p.fileNumber) := by
  rw [Part.fallUnsupplied]
  split
  · rw [Part.cutCold]
    split
    · exact ⟨rfl, .inr rfl⟩
    · exact ⟨rfl, .inl rfl⟩
  · exact ⟨rfl, .inr rfl⟩
  · exact ⟨rfl, .inr rfl⟩

theorem Part.mainLost_intake (p : Part) : p.mainLost.intake = Intake.draining := by
  rw [Part.mainLost]
  dsimp only
  split <;> rfl

theorem Part.mainLost_fileNumber (p : Part) : p.mainLost.fileNumber = 0 ∨ p.mainLost.fileNumber = p.fileNumber := by
  rw [Part.mainLost]
  dsimp only
  split
  · exact .inr (by simp [Part.fadeMemory, Part.volatileInit])
  · exact .inl rfl

theorem Part.numbersAbove.mainFall {p : Part} (h : p.numbersAbove) : p.mainFall.numbersAbove := by
  have unsupplied : p.fallUnsupplied.numbersAbove :=
    h.of_numberZero (by simp) p.fallUnsupplied_intake.2 p.fallUnsupplied_intake.1
  have lost : p.mainLost.numbersAbove :=
    Part.numbersAbove_of_idle _ (by rw [p.mainLost_arbiter]; exact ⟨rfl, rfl⟩) (by rw [p.mainLost_intake]; rfl)
      (by rw [p.mainLost_intake]; rfl)
  rw [Part.mainFall]
  split
  · exact unsupplied
  · exact unsupplied
  all_goals exact lost

theorem Part.mainFall_fileNumber (p : Part) : p.mainFall.fileNumber = 0 ∨ p.mainFall.fileNumber = p.fileNumber := by
  rw [Part.mainFall]
  split
  · exact p.fallUnsupplied_intake.2
  · exact p.fallUnsupplied_intake.2
  all_goals exact p.mainLost_fileNumber

theorem Part.keepGood_intake (p : Part) : p.keepGood.intake = p.intake ∧ p.keepGood.fileNumber = p.fileNumber := by
  rw [Part.keepGood]
  split <;> exact ⟨rfl, rfl⟩

theorem Part.keepLow_intake (p : Part) : p.keepLow.intake = p.intake
    ∧ (p.keepLow.fileNumber = 0 ∨ p.keepLow.fileNumber = p.fileNumber) := by
  rw [Part.keepLow]
  dsimp only
  split
  · split <;> exact ⟨by simp, p.finishCold_fileNumber⟩
  · split <;> exact ⟨rfl, .inr rfl⟩

theorem Part.keepLost_intake (p : Part) : p.keepLost.intake = p.intake
    ∧ (p.keepLost.fileNumber = 0 ∨ p.keepLost.fileNumber = p.fileNumber) := by
  rw [Part.keepLost]
  split
  · exact ⟨rfl, .inl rfl⟩
  · exact ⟨rfl, .inr rfl⟩

theorem Part.numbersAbove.resetRun {p : Part} (h : p.numbersAbove) (straps : BitVec 10) :
    (p.resetRun straps).numbersAbove := by
  have contexts : p.landSettle.resetContexts.numbersAbove :=
    h.of_sameIntake ((sameClaims_of_arbiter (by simp)).trans (Part.resetContexts_claims _)) (by simp) (by simp)
  rw [Part.resetRun]
  refine Part.numbersAbove.grant (Part.numbersAbove.takeWaiting ?_)
  exact contexts.resetIntake.of_sameIntake (sameClaims_of_arbiter (by simp [Part.resetPath]))
    (by simp [Part.resetPath]) (by simp [Part.resetPath])

theorem Part.numbersAbove.assertReset {p : Part} (h : p.numbersAbove) (straps : BitVec 10) :
    (p.assertReset straps).numbersAbove := by
  rw [Part.assertReset]
  split
  case h_5 => exact h.resetRun straps
  all_goals exact h.of_sameIntake (sameClaims_of_arbiter rfl) rfl rfl

/-- Each operation keeps the numbers in hand above the committed one. -/
theorem numbersAbove_keptByOperations : KeptByOperations Part.numbersAbove where
  finishCold _ h := h.finishCold
  walkStep p _ h := h.of_numberZero (by simp) p.walkStep_fileNumber (by simp)
  arrive _ w a h := h.arrive w a
  endCycle _ h := h.of_sameIntake (Part.sameClaims_of_arbiter (by simp)) (by simp) (by simp)
  startSettle _ h := h.of_sameIntake (Part.sameClaims_of_arbiter (by simp)) (by simp) (by simp)
  completeSettle _ h := h.completeSettle
  completeLookup _ h := h.completeLookup
  completeMark _ h := h.completeMark
  completeStageEntry _ h := h.completeStageEntry
  completeStagePass _ h := h.completeStagePass
  completeCommit _ h := h.completeCommit
  completeDiscard _ h := h.completeDiscard
  completeSweepStep _ h := h.completeSweepStep
  takeRelease _ h := h.takeRelease
  expireHold _ h := h.expireHold
  expireIntakeHold _ h := h.expireIntakeHold
  expireAwait _ n h := h.expireAwait n
  expireAttention p h :=
    h.of_sameIntake (Part.sameClaims_of_arbiter (by simp)) (by simp) (by simp)
  endSlot p h := h.of_sameIntake (Part.sameClaims_of_arbiter (by simp)) (by simp) (by simp)
  second p h := (h.of_sameIntake p.crystalSecond_claims (by simp) (by simp)).grant
  lockoutEnds p h :=
    h.of_sameIntake (Part.sameClaims_of_arbiter (by simp)) (by simp) (by simp)
  completeWalk p h := by
    rw [Part.completeWalk]
    split
    · exact Part.numbersAbove_enterRun _
    · exact h
  mainGood p straps h :=
    h.of_numberZero (by simp) (p.mainGood_fileNumber straps) (by simp)
  mainFall _ h := h.mainFall
  keepGood p h :=
    h.of_sameIntake (Part.sameClaims_of_arbiter (by simp)) p.keepGood_intake.2 p.keepGood_intake.1
  keepLow p h := h.of_numberZero (by simp) p.keepLow_intake.2 p.keepLow_intake.1
  keepLost p h := h.of_numberZero (by simp) p.keepLost_intake.2 p.keepLost_intake.1
  assertReset _ straps h := h.assertReset straps

/-! ## The committed number itself -/

theorem Part.intakeAnswered_fileNumber (p : Part) (f : Part → Part) (hf : (f p).fileNumber = p.fileNumber) :
    (p.intakeAnswered f).fileNumber = p.fileNumber := by
  rw [Part.intakeAnswered]
  split <;> simp [hf]

theorem Part.grant_fileNumber (p : Part) : p.grant.fileNumber = p.fileNumber := by simp

/-- R46, R47: a commit alone raises the committed number, to that of its file. -/
theorem Part.completeCommit_fileNumber (p : Part) : p.completeCommit.fileNumber = p.fileNumber
    ∨ ∃ c, p.arbiter.op = some (.intake (.commit c)) ∧ p.completeCommit.fileNumber = c.number := by
  rw [Part.completeCommit]
  split
  next c op =>
    refine .inr ⟨c, op, ?_⟩
    rw [Part.grant_fileNumber, Part.intakeAnswered_fileNumber _ _ (by simp)]
    rfl
  next => exact .inl rfl

theorem Part.finishDeclare_fileNumber (p : Part) (failed : Bool) :
    (p.finishDeclare failed).fileNumber = 0 ∨ (p.finishDeclare failed).fileNumber = p.fileNumber := by
  rw [Part.finishDeclare]
  split
  · exact .inl rfl
  · exact .inr rfl

theorem Part.finishQueueItem_fileNumber (p : Part) (n : Nat) (failed : Bool) :
    (p.finishQueueItem n failed).fileNumber = 0 ∨ (p.finishQueueItem n failed).fileNumber = p.fileNumber := by
  rw [Part.finishQueueItem]
  split <;> exact Part.finishDeclare_fileNumber _ failed

theorem Part.finishQueue_fileNumber (p : Part) (failed : Bool) :
    (p.finishQueue failed).fileNumber = 0 ∨ (p.finishQueue failed).fileNumber = p.fileNumber := by
  rw [Part.finishQueue]
  split
  · exact p.finishQueueItem_fileNumber 0 failed
  · exact Part.finishDeclare_fileNumber _ failed

theorem Part.finishFileNumber_fileNumber (p : Part) (failed : Bool) :
    (p.finishFileNumber failed).fileNumber = 0 ∨ (p.finishFileNumber failed).fileNumber = p.fileNumber := by
  rw [Part.finishFileNumber, ← show p.verifySetup.fileNumber = p.fileNumber by simp]
  exact p.verifySetup.finishQueue_fileNumber _

theorem Part.finishWalk_fileNumber (p : Part) : p.finishWalk.fileNumber = 0 ∨ p.finishWalk.fileNumber = p.fileNumber := by
  simp only [Part.finishWalk, Part.finishStructure]
  split
  · exact Part.finishFileNumber_fileNumber _ _
  · exact p.finishFileNumber_fileNumber _
  · exact p.finishFileNumber_fileNumber _
  · rw [← show p.verifySetup.fileNumber = p.fileNumber by simp]
    exact p.verifySetup.finishQueue_fileNumber _
  · exact p.finishQueue_fileNumber _
  · exact p.finishQueueItem_fileNumber _ _
  · exact p.finishDeclare_fileNumber true
  · exact .inr rfl

theorem Part.completeWalk_fileNumber (p : Part) :
    p.completeWalk.fileNumber = 0 ∨ p.completeWalk.fileNumber = p.fileNumber := by
  rw [Part.completeWalk]
  split
  · have entered : p.finishWalk.enterRun.fileNumber = p.finishWalk.fileNumber := by
      simp [Part.enterRun, Part.volatileInit]
    rw [entered]
    exact p.finishWalk_fileNumber
  · exact .inr rfl

theorem Part.assertReset_fileNumber (p : Part) (straps : BitVec 10) :
    (p.assertReset straps).fileNumber = p.fileNumber := by
  rw [Part.assertReset]
  split
  case h_5 => simp
  all_goals rfl

/-- R47: what a command makes of the committed number: 0, or itself, or the number of a file whose commit runs. -/
theorem commandEffect_fileNumber (c : Instr) (p : Part) :
    (commandEffect c p).fileNumber = 0 ∨ (commandEffect c p).fileNumber = p.fileNumber
      ∨ ∃ d, p.arbiter.op = some (.intake (.commit d)) ∧ (commandEffect c p).fileNumber = d.number := by
  have orSame {n : BitVec 32} (h : n = 0 ∨ n = p.fileNumber) : n = 0 ∨ n = p.fileNumber
      ∨ ∃ d, p.arbiter.op = some (.intake (.commit d)) ∧ n = d.number := h.imp_right .inl
  have cold := orSame p.finishCold_fileNumber
  cases c with
  | processorCycleEnd => exact orSame (.inr (by simp [commandEffect]))
  | settleWriteStart => exact orSame (.inr (by simp [commandEffect]))
  | settleWriteComplete => exact orSame (.inr (by simp [commandEffect]))
  | lookup => exact orSame (.inr (by simp [commandEffect]))
  | confirmationMark => exact orSame (.inr (by simp [commandEffect]))
  | stageEntry => exact orSame (.inr (by simp [commandEffect]))
  | stagePass => exact orSame (.inr (by simp [commandEffect]))
  | commit => exact .inr p.completeCommit_fileNumber
  | discard => exact orSame (.inr (by simp [commandEffect]))
  | sweepStep => exact orSame (.inr (by simp [commandEffect]))
  | pinRelease => exact orSame (.inr (by simp [commandEffect]))
  | holdExpiry => exact orSame (.inr (by simp [commandEffect]))
  | intakeHoldExpiry => exact orSame (.inr (by simp [commandEffect]))
  | awaitExpiry n => exact orSame (.inr (by simp [commandEffect]))
  | attentionHoldExpiry => exact orSame (.inr (by simp [commandEffect]))
  | slotEnd => exact orSame (.inr (by simp [commandEffect]))
  | clockSecond => simpa [commandEffect] using cold
  | lockoutExpiry => simpa [commandEffect] using cold
  | verificationWalkComplete => exact orSame p.completeWalk_fileNumber
  | vmainGood straps => exact orSame (p.mainGood_fileNumber straps)
  | vmainFall => exact orSame p.mainFall_fileNumber
  | vkeepGood => exact orSame (.inr p.keepGood_intake.2)
  | vkeepLow => exact orSame p.keepLow_intake.2
  | vkeepLost => exact orSame p.keepLost_intake.2
  | resetN straps => simpa [commandEffect, Part.assertReset_fileNumber] using cold
  | _ => simpa [commandEffect] using cold

theorem Part.tick_fileNumber (p : Part) : p.tick.fileNumber = 0 ∨ p.tick.fileNumber = p.fileNumber := by
  rw [Part.tick]
  split
  · exact p.walkStep_fileNumber
  · exact p.finishCold_fileNumber

/-- Settles O58: each operation keeps the numbers in hand above the committed one, which a commit alone raises, to the
number of its own file. -/
theorem fileNumberNeverFalls : Obligations.FileNumberNeverFalls := by
  intro s t above stepped
  refine ⟨numbersAbove_keptByOperations.step s t above stepped, ?_⟩
  obtain ticked | ⟨c, commanded⟩ := step_part s t stepped
  · obtain zero | same := s.tick_fileNumber
    · exact .inr (by rw [ticked, zero])
    · exact .inl (by rw [ticked, same])
  · obtain zero | same | ⟨d, op, raised⟩ := commandEffect_fileNumber c s.toPart
    · exact .inr (by rw [commanded, zero])
    · exact .inl (by rw [commanded, same])
    · have bigger := above.2.2.1 d op
      exact .inl (by rw [commanded, raised]; omega)

end Sys2Proof.Machine

/-! PROOFS. Bounds that every operation keeps: the memory's canonical form (log 4), the clock at 0 while UNSET (R143),
keep-valid present (R173), a cold initialisation in OFF and KEEP alone (R177). -/

namespace Sys2Proof.Machine

/-- R33: the part as a new file begins, the file in hand abandoned unless its commit runs. -/
def Part.fileAbandoned (p : Part) : Part :=
  if p.intake.state = .receiving then
    if p.ownCommitRunning then { p with intake := { p.intake with answerIgnored := true } } else p.refuse .abandoned
  else p

/-- R31: intake as it begins a file, before the first write is entered. -/
def Intake.begun (i : Intake) : Intake :=
  { i with state := .receiving, cursor := .onWord 0 noBytes, assembly := [], staging := none }

theorem Part.beginFile_eq (p : Part) (b : LaneBytes) :
    p.beginFile b = Part.acceptWord { p.fileAbandoned with intake := p.fileAbandoned.intake.begun } 0 noBytes b := rfl

/-! ## The memory behind the part -/

/-- The memory behind the part stands in its canonical form. -/
def Part.memoryGood (p : Part) : Prop := Memory.wf p.memory

theorem Part.memoryGood.of_memory {p q : Part} (h : p.memoryGood) (memory : q.memory = p.memory) : q.memoryGood := by
  rw [Part.memoryGood, memory]
  exact h

theorem Part.memoryGood.carryWrite {p : Part} (h : p.memoryGood) (w : BitVec 23) (b : LaneBytes) (o : Owner)
    (a : WriteAnswer) : (p.carryWrite w b o a).memoryGood := by
  rw [Part.carryWrite.eq_def]
  split
  · exact p.writeMemory_wf w b h
  · exact p.writeMemory_wf w _ h
  · exact h

theorem Part.memoryGood.releaseHeldWrite {p : Part} (h : p.memoryGood) : p.releaseHeldWrite.memoryGood := by
  rw [Part.releaseHeldWrite]
  split
  · exact h.carryWrite _ _ _ _
  · exact h

theorem Part.memoryGood.endFile {p : Part} (h : p.memoryGood) (state : IntakeState) : (p.endFile state).memoryGood :=
  h.releaseHeldWrite

theorem Part.memoryGood.refuse {p : Part} (h : p.memoryGood) (reason : FileRefusal) : (p.refuse reason).memoryGood :=
  (h.endFile .draining).of_memory (by simp [Part.refuse])

theorem Part.memoryGood.takeHead {p : Part} (h : p.memoryGood) : p.takeHead.memoryGood := by
  obtain ⟨same, -⟩ | ⟨r, -, -, -, -, ⟨reason, -, refused⟩ | ⟨c, -, dealt⟩⟩ := p.takeHead_cases
  · rwa [same]
  · rw [refused]
    exact h.refuse reason
  · rw [dealt]
    exact h.of_memory (by simp)

theorem Part.memoryGood.admitHeld {p : Part} (h : p.memoryGood) : p.admitHeld.memoryGood := by
  rw [Part.admitHeld]
  split
  · exact h
  · split
    · exact h.releaseHeldWrite
    · exact h

theorem Part.memoryGood.intakeWork {p : Part} (h : p.memoryGood) : p.intakeWork.memoryGood :=
  Part.intakeWork_induction (fun _ h => h.takeHead) (fun _ h => h.admitHeld) p h

theorem Part.memoryGood.fileAbandoned {p : Part} (h : p.memoryGood) : p.fileAbandoned.memoryGood := by
  rw [Part.fileAbandoned]
  split
  · split
    · exact h
    · exact h.refuse .abandoned
  · exact h

theorem Part.memoryGood.beginFile {p : Part} (h : p.memoryGood) (b : LaneBytes) : (p.beginFile b).memoryGood := by
  rw [Part.beginFile_eq]
  exact h.fileAbandoned.of_memory (by simp)

theorem Part.memoryGood.followWrite {p : Part} (h : p.memoryGood) (word : Nat) (b : LaneBytes) :
    (p.followWrite word b).memoryGood := by
  rw [Part.followWrite]
  split
  · split
    · exact h.of_memory (by simp)
    · split
      · exact h.beginFile b
      · exact h.refuse .order
  all_goals
    split
    · exact h.beginFile b
    · exact h

theorem Part.memoryGood.intakeAnswered {p : Part} (h : p.memoryGood) (f : Part → Part)
    (taken : ∀ q : Part, q.memoryGood → (f q).memoryGood) : (p.intakeAnswered f).memoryGood := by
  rw [Part.intakeAnswered]
  have owed (q : Part) (h : q.memoryGood) : q.claimOwedDiscard.memoryGood := h.of_memory (by simp)
  refine Part.memoryGood.intakeWork (owed _ ?_)
  split
  · exact h.of_memory (by simp)
  · exact taken p h

theorem Part.memoryGood.grant {p : Part} (h : p.memoryGood) : p.grant.memoryGood := h.of_memory (by simp)

theorem Part.memoryGood.takeCycle {p : Part} (h : p.memoryGood) (w : BitVec 23) (a : Access) :
    (p.takeCycle w a).memoryGood := by
  rw [Part.takeCycle.eq_def]
  split
  · exact h.of_memory (by simp)
  · exact h.of_memory (by simp)
  next b _ =>
    rw [Part.takeWrite]
    split
    · exact h.carryWrite _ _ _ _
    next k _ => exact Part.memoryGood.carryWrite (h.followWrite k b).intakeWork _ _ _ _
    · exact Part.memoryGood.carryWrite (h.of_memory (by simp)) _ _ _ _
    · exact Part.memoryGood.carryWrite (h.of_memory (by simp)) _ _ _ _
    · exact Part.memoryGood.carryWrite (h.of_memory (by simp)) _ _ _ _
  · exact h.carryWrite _ _ _ _

theorem Part.memoryGood.arrive {p : Part} (h : p.memoryGood) (w : BitVec 23) (a : Access) :
    (p.arrive w a).memoryGood := by
  rw [Part.arrive]
  split
  · split
    · exact h
    · exact (h.takeCycle w a).grant
  · exact h

theorem Part.memoryGood.takeWaiting {p : Part} (h : p.memoryGood) : p.takeWaiting.memoryGood := by
  rw [Part.takeWaiting]
  split
  · exact h
  · refine Part.memoryGood.takeCycle ?_ _ _
    exact h

theorem Part.memoryGood.completeSettle {p : Part} (h : p.memoryGood) : p.completeSettle.memoryGood := by
  rw [Part.completeSettle]
  split
  · exact h
  next w _ =>
    refine (Part.memoryGood.takeWaiting (Part.memoryGood.of_memory (p := p.writeMemory w.address (bytesOf w.value)) ?_ ?_)).grant
    · exact p.writeMemory_wf _ _ h
    · simp

theorem Part.memoryGood.mainFall {p : Part} (h : p.memoryGood) : p.mainFall.memoryGood := by
  have cut : p.cutSettle.memoryGood := by
    rw [Part.cutSettle]
    split
    · exact h
    next w _ =>
      dsimp only
      split
      · exact Part.memoryGood.of_memory (p := p.writeMemory w.address (bytesOf w.value)) (p.writeMemory_wf _ _ h) rfl
      · exact h
  have lost : p.mainLost.memoryGood := by
    simp only [Part.mainLost]
    split <;> exact Memory.filter_wf _ _ cut
  rw [Part.mainFall]
  split
  · exact h.of_memory (by simp)
  · exact h.of_memory (by simp)
  all_goals exact lost

theorem Part.memoryGood.assertReset {p : Part} (h : p.memoryGood) (straps : BitVec 10) :
    (p.assertReset straps).memoryGood := by
  have landed : p.landSettle.memoryGood := by
    rw [Part.landSettle]
    split
    · exact h
    · exact p.writeMemory_wf _ _ h
  have ended : p.landSettle.resetContexts.resetIntake.memoryGood := by
    refine Part.memoryGood.of_memory (p := p.landSettle.resetContexts.endFile .idle) ?_ ?_
    · exact Part.memoryGood.endFile (landed.of_memory (by simp)) .idle
    · rw [Part.resetIntake]
      split <;> simp
  rw [Part.assertReset]
  split
  case h_5 =>
    rw [Part.resetRun]
    refine (Part.memoryGood.takeWaiting (ended.of_memory ?_)).grant
    simp [Part.resetPath]
  all_goals exact h

/-- Each operation keeps the memory in its canonical form. -/
theorem memoryGood_keptByOperations : KeptByOperations Part.memoryGood where
  finishCold _ h := h.of_memory (by simp)
  walkStep _ _ h := h.of_memory (by simp)
  arrive _ w a h := h.arrive w a
  endCycle _ h := h.of_memory (by simp)
  startSettle _ h := h.of_memory (by simp)
  completeSettle _ h := h.completeSettle
  completeLookup _ h := h.of_memory (by simp)
  completeMark _ h := h.of_memory (by simp)
  completeStageEntry p h := by
    rw [Part.completeStageEntry]
    split
    · refine Part.memoryGood.grant ?_
      split
      · exact Part.memoryGood.intakeAnswered (p := p.tableFree) h _ fun _ h => h.refuse _
      · exact Part.memoryGood.intakeAnswered (h.of_memory (by simp)) _ fun _ h => h.of_memory (by simp)
    · exact h
  completeStagePass p h := by
    rw [Part.completeStagePass]
    split
    · refine Part.memoryGood.grant ?_
      split
      · exact Part.memoryGood.intakeAnswered (p := p.tableFree) h _ fun _ h => h.refuse _
      · exact Part.memoryGood.intakeAnswered (h.of_memory (by simp)) _ fun _ h => h.of_memory (by simp)
    · exact h
  completeCommit p h := by
    rw [Part.completeCommit]
    split
    · exact (Part.memoryGood.intakeAnswered (h.of_memory (by simp)) _ fun _ h => h.of_memory (by simp)).grant
    · exact h
  completeDiscard p h := by
    rw [Part.completeDiscard]
    split
    · exact (Part.memoryGood.intakeAnswered (h.of_memory (by simp)) _ fun _ h => h).grant
    · exact h
  completeSweepStep _ h := h.of_memory (by simp)
  takeRelease _ h := h.of_memory (by simp)
  expireHold _ h := h.of_memory (by simp)
  expireIntakeHold p h := by
    rw [Part.expireIntakeHold]
    split
    · exact (h.refuse _).grant
    · exact h
  expireAwait _ _ h := h.of_memory (by simp)
  expireAttention _ h := h.of_memory (by simp)
  endSlot _ h := h.of_memory (by simp)
  second _ h := h.of_memory (by simp)
  lockoutEnds _ h := h.of_memory (by simp)
  completeWalk p h := by
    rw [Part.completeWalk]
    split
    · exact h.of_memory (by simp [Part.enterRun, Part.volatileInit])
    · exact h
  mainGood _ _ h := h.of_memory (by simp)
  mainFall _ h := h.mainFall
  keepGood _ h := h.of_memory (by simp)
  keepLow _ h := h.of_memory (by simp)
  keepLost _ h := h.of_memory (by simp)
  assertReset _ straps h := h.assertReset straps

/-! ## The clock -/

theorem Part.clockHonest.of_clock {p q : Part} (h : p.clockHonest) (clock : q.clock = p.clock) : q.clockHonest := by
  rw [Part.clockHonest, clock]
  exact h

theorem Part.clockHonest.grant {p : Part} (h : p.clockHonest) : p.grant.clockHonest := h.of_clock (by simp)

theorem Part.clockHonest_of_cold (p : Part) (h : p.clock = DayClock.cold) : p.clockHonest := by
  rw [Part.clockHonest, h]
  exact fun _ => rfl

theorem Part.clockHonest_of_set (p : Part) (h : p.clock.state ≠ .unset) : p.clockHonest := fun unset => absurd unset h

theorem Part.clockHonest.finishCold {p : Part} (h : p.clockHonest) : p.finishCold.clockHonest := by
  rw [Part.finishCold]
  split
  · split
    · exact h
    · next c _ => cases c <;> exact Part.clockHonest_of_cold _ rfl
  · exact h

theorem Part.clockHonest.takeCycle {p : Part} (h : p.clockHonest) (w : BitVec 23) (a : Access) :
    (p.takeCycle w a).clockHonest := by
  have written (second : Bool) (b : LaneBytes) : (p.clockWrite second b).clockHonest := by
    rw [Part.clockWrite]
    split
    · rw [Part.clockValue]
      dsimp only
      split
      · exact Part.clockHonest_of_set _ (by simp)
      · exact h
    · exact h
  rw [Part.takeCycle.eq_def]
  split
  · exact h.of_clock (by simp)
  · exact h.of_clock (by simp)
  next b _ =>
    rw [Part.takeWrite]
    split
    case h_5 second _ => exact (written second b).of_clock (by simp)
    all_goals exact h.of_clock (by simp)
  · exact h.of_clock (by simp)

theorem Part.clockHonest.arrive {p : Part} (h : p.clockHonest) (w : BitVec 23) (a : Access) :
    (p.arrive w a).clockHonest := by
  rw [Part.arrive]
  split
  · split
    · exact h
    · exact (h.takeCycle w a).of_clock (by simp)
  · exact h

theorem Part.clockHonest.takeWaiting {p : Part} (h : p.clockHonest) : p.takeWaiting.clockHonest := by
  rw [Part.takeWaiting]
  split
  · exact h
  · refine Part.clockHonest.takeCycle ?_ _ _
    exact h

theorem Part.clockHonest.completeCommit {p : Part} (h : p.clockHonest) : p.completeCommit.clockHonest := by
  have offered (q : Part) (same : q.clock = p.clock) (t : BitVec 32) : (q.offerClock t).clockHonest := by
    rw [Part.offerClock]
    split
    · exact Part.clockHonest_of_set _ (by simp)
    · exact h.of_clock same
    · exact h.of_clock same
  have committed (c : CommitPayload) : (p.tableFree.commitEffects c).clockHonest := by
    rw [Part.commitEffects]
    refine Part.clockHonest.of_clock
      (p := ({ p.tableFree with store := p.tableFree.store.commit c }.applySetup c.effects).commitClock c.effects) ?_
      (by simp)
    rw [Part.commitClock]
    split
    · exact h.of_clock (by simp)
    · exact offered _ (by simp) _
  rw [Part.completeCommit]
  split
  next c _ =>
    refine (committed c).of_clock ?_
    rw [Part.intakeAnswered]
    split <;> simp
  next => exact h

theorem Part.clockHonest.second {p : Part} (h : p.clockHonest) : p.crystalSecond.grant.clockHonest := by
  refine Part.clockHonest.grant ?_
  rw [Part.crystalSecond]
  split
  · exact h
  · rw [Part.advanceClock]
    split
    · exact h
    next counts =>
      have isSet : p.clock.state ≠ .unset := fun unset => counts (.inl unset)
      refine Part.clockHonest_of_set _ ?_
      rw [Part.evaluateSchedule]
      split
      · rw [Part.scheduledTrigger]
        split
        · simpa using isSet
        · exact isSet
      · exact isSet

theorem Part.clockHonest.enterOff (p : Part) : p.enterOff.clockHonest := Part.clockHonest_of_cold _ rfl

theorem Part.clockHonest.mainFall {p : Part} (h : p.clockHonest) : p.mainFall.clockHonest := by
  have unsupplied : p.fallUnsupplied.clockHonest := by
    rw [Part.fallUnsupplied]
    split
    · rw [Part.cutCold]
      split
      · exact h
      · exact Part.clockHonest.enterOff p
    · exact h
    · exact h
  have lost : p.mainLost.clockHonest := by
    rw [Part.mainLost]
    dsimp only
    split
    · exact h.of_clock (by simp [Part.fadeMemory, Part.volatileInit])
    · exact Part.clockHonest.enterOff _
  rw [Part.mainFall]
  split
  · exact unsupplied
  · exact unsupplied
  all_goals exact lost

theorem Part.clockHonest.owedTrigger {p : Part} (h : p.clockHonest) : p.owedTrigger.clockHonest := by
  rw [Part.owedTrigger]
  split
  · refine Part.clockHonest.of_clock (p := { p with clock := { p.clock with owedSweep := false } }) h ?_
    simp
  · exact h

theorem Part.clockHonest.enterRun {p : Part} (h : p.clockHonest) : p.enterRun.clockHonest := by
  rw [Part.enterRun]
  refine Part.clockHonest.grant (Part.clockHonest.owedTrigger ?_)
  exact h

/-- Each operation keeps the clock at 0 while it is UNSET. -/
theorem clockHonest_keptByOperations : KeptByOperations Part.clockHonest where
  finishCold _ h := h.finishCold
  walkStep _ _ h := h.of_clock (by simp)
  arrive _ w a h := h.arrive w a
  endCycle _ h := h.of_clock (by simp)
  startSettle _ h := h.of_clock (by simp)
  completeSettle p h := by
    rw [Part.completeSettle]
    split
    · exact h
    · refine Part.clockHonest.grant (Part.clockHonest.takeWaiting ?_)
      exact h.of_clock (by simp)
  completeLookup _ h := h.of_clock (by simp)
  completeMark _ h := h.of_clock (by simp)
  completeStageEntry _ h := h.of_clock (by simp)
  completeStagePass _ h := h.of_clock (by simp)
  completeCommit _ h := h.completeCommit
  completeDiscard _ h := h.of_clock (by simp)
  completeSweepStep _ h := h.of_clock (by simp)
  takeRelease _ h := h.of_clock (by simp)
  expireHold _ h := h.of_clock (by simp)
  expireIntakeHold _ h := h.of_clock (by simp)
  expireAwait _ _ h := h.of_clock (by simp)
  expireAttention _ h := h.of_clock (by simp)
  endSlot _ h := h.of_clock (by simp)
  second _ h := h.second
  lockoutEnds _ h := h.of_clock (by simp)
  completeWalk p h := by
    rw [Part.completeWalk]
    split
    · exact Part.clockHonest.enterRun (h.of_clock (by simp))
    · exact h
  mainGood p straps h := by
    rw [Part.mainGood]
    split
    · exact h
    · exact h.finishCold.of_clock (by simp)
    · exact h.of_clock (by simp)
  mainFall _ h := h.mainFall
  keepGood _ h := h.of_clock (by simp)
  keepLow p h := by
    have cold := h.finishCold
    simp only [Part.keepLow]
    repeat' split
    all_goals first | exact cold | exact h
  keepLost p h := by
    rw [Part.keepLost]
    split
    · exact Part.clockHonest.enterOff _
    · exact h
  assertReset p straps h := by
    rw [Part.assertReset]
    split
    case h_5 =>
      rw [Part.resetRun]
      refine Part.clockHonest.grant (Part.clockHonest.takeWaiting ?_)
      exact h.of_clock (by simp [Part.resetPath])
    all_goals exact h

end Sys2Proof.Machine

/-! PROOFS. The supplies (R173, R177): keep-valid is present except in OFF, and a cold initialisation is in progress in OFF and
KEEP alone. -/

namespace Sys2Proof.Machine

/-! ## What leaves the supply state, keep-valid and the cold initialisation -/

/-- The supply state, keep-valid and the cold initialisation in progress are the same in two parts. -/
def Part.sameSupplies (p q : Part) : Prop :=
  q.supply = p.supply ∧ q.keepValid = p.keepValid ∧ q.initialising = p.initialising

theorem Part.keepValidPresent.of_same {p q : Part} (h : p.keepValidPresent) (same : p.sameSupplies q) :
    q.keepValidPresent := by
  rw [Part.keepValidPresent, same.1, same.2.1]
  exact h

theorem Part.coldUnsupplied.of_same {p q : Part} (h : p.coldUnsupplied) (same : p.sameSupplies q) :
    q.coldUnsupplied := by
  rw [Part.coldUnsupplied, same.1, same.2.2]
  exact h

/-- Between the supplied states no part needs a cold initialisation, and keep-valid stands. -/
theorem Part.keepValidPresent.of_supplied {p q : Part} (h : p.keepValidPresent) (keepValid : q.keepValid = p.keepValid)
    (before : p.supply ≠ .off) (after : q.supply ≠ .off) : q.keepValidPresent := by
  rw [Part.keepValidPresent, keepValid]
  exact ⟨fun absent => absurd (h.mp absent) before, fun off => absurd off after⟩

theorem Part.coldUnsupplied_of_none (p : Part) (h : p.initialising = none) : p.coldUnsupplied := by
  simp [Part.coldUnsupplied, h]

theorem Part.coldUnsupplied.none_of_supplied {p : Part} (h : p.coldUnsupplied) (off : p.supply ≠ .off)
    (keep : p.supply ≠ .keep) : p.initialising = none := by
  by_contra some
  exact (h.1 some).elim off keep

theorem Part.arrive_sameSupplies (p : Part) (w : BitVec 23) (a : Access) : p.sameSupplies (p.arrive w a) := by
  simp [Part.sameSupplies]

theorem Part.enterOff_supplies (p : Part) :
    p.enterOff.supply = .off ∧ p.enterOff.keepValid = none ∧ p.enterOff.initialising = none := ⟨rfl, rfl, rfl⟩

theorem Part.completeCold_supplies (p : Part) (c : ColdInit) : (p.completeCold c).supply ≠ .off
    ∧ (p.completeCold c).keepValid = some true ∧ (p.completeCold c).initialising = none := by
  cases c <;> simp [Part.completeCold, Part.coldInit, Part.enterLockout]

/-- R177: the cold initialisation in progress, where there is one, completes; or nothing changes. -/
theorem Part.finishCold_cases (p : Part) : p.finishCold = p
    ∨ ∃ c, p.initialising = some c ∧ (p.supply = .off ∨ p.supply = .keep) ∧ p.finishCold = p.completeCold c := by
  cases some : p.initialising with
  | none => exact .inl (p.finishCold_of_none some)
  | some c =>
    by_cases unsupplied : p.supply = .off ∨ p.supply = .keep
    · exact .inr ⟨c, rfl, unsupplied, p.finishCold_of_some c some unsupplied⟩
    · exact .inl (p.finishCold_of_supplied (fun h => unsupplied (.inl h)) (fun h => unsupplied (.inr h)))

/-- R177: past its cold initialisation, a part without main supply has none in progress. -/
theorem Part.finishCold_settled (p : Part) (h : p.finishCold.supply = .off ∨ p.finishCold.supply = .keep) :
    p.finishCold.initialising = none := by
  obtain same | ⟨c, -, -, completed⟩ := p.finishCold_cases
  · rw [same] at h ⊢
    by_contra some
    obtain ⟨c, some⟩ := Option.ne_none_iff_exists'.mp some
    have completed := (p.completeCold_supplies c).2.2
    rw [← p.finishCold_of_some c some h, same] at completed
    simp [completed] at some
  · rw [completed]
    exact (p.completeCold_supplies c).2.2

/-- R173: what a property of the supplies needs: that it depends on nothing else, and that each operation which changes them
keeps it. -/
structure KeptBySupplies (P : Part → Prop) : Prop where
  same : ∀ p q, P p → p.sameSupplies q → P q
  finishCold : ∀ p, P p → P p.finishCold
  lockoutEnds : ∀ p, P p → P p.lockoutEnds
  enterRun : ∀ p, p.supply = .verify → P p → P p.enterRun
  mainGoodNow : ∀ p straps, (p.supply = .off ∨ p.supply = .keep → p.initialising = none) → P p →
    P (p.mainGoodNow straps)
  fallUnsupplied : ∀ p, P p → P p.fallUnsupplied
  mainLost : ∀ p, p.supply ≠ .off → P p → P p.mainLost
  keepGood : ∀ p, P p → P p.keepGood
  keepLow : ∀ p, P p → P p.keepLow
  keepLost : ∀ p, P p → P p.keepLost

/-- Every other operation leaves the supplies as they were. -/
theorem KeptBySupplies.operations {P : Part → Prop} (k : KeptBySupplies P) : KeptByOperations P where
  finishCold := k.finishCold
  walkStep p _ h := k.same p _ h (by simp [Part.sameSupplies])
  arrive p w a h := k.same p _ h (p.arrive_sameSupplies w a)
  endCycle p h := k.same p _ h (by simp [Part.sameSupplies])
  startSettle p h := k.same p _ h (by simp [Part.sameSupplies])
  completeSettle p h := k.same p _ h (by simp [Part.sameSupplies])
  completeLookup p h := k.same p _ h (by simp [Part.sameSupplies])
  completeMark p h := k.same p _ h (by simp [Part.sameSupplies])
  completeStageEntry p h := k.same p _ h (by simp [Part.sameSupplies])
  completeStagePass p h := k.same p _ h (by simp [Part.sameSupplies])
  completeCommit p h := k.same p _ h (by simp [Part.sameSupplies])
  completeDiscard p h := k.same p _ h (by simp [Part.sameSupplies])
  completeSweepStep p h := k.same p _ h (by simp [Part.sameSupplies])
  takeRelease p h := k.same p _ h (by simp [Part.sameSupplies])
  expireHold p h := k.same p _ h (by simp [Part.sameSupplies])
  expireIntakeHold p h := k.same p _ h (by simp [Part.sameSupplies])
  expireAwait p n h := k.same p _ h (by simp [Part.sameSupplies])
  expireAttention p h := k.same p _ h (by simp [Part.sameSupplies])
  endSlot p h := k.same p _ h (by simp [Part.sameSupplies])
  second p h := k.same p _ h (by simp [Part.sameSupplies])
  lockoutEnds := k.lockoutEnds
  completeWalk p h := by
    rw [Part.completeWalk]
    split
    next verify => exact k.enterRun _ (by simpa using verify) (k.same p _ h (by simp [Part.sameSupplies]))
    next => exact h
  mainGood p straps h := by
    rw [Part.mainGood]
    split
    · exact h
    · exact k.mainGoodNow _ straps p.finishCold_settled (k.finishCold p h)
    next none => exact k.mainGoodNow p straps (fun _ => none) h
  mainFall p h := by
    rw [Part.mainFall]
    split
    · exact k.fallUnsupplied p h
    · exact k.fallUnsupplied p h
    all_goals exact k.mainLost p (by simp [*]) h
  keepGood := k.keepGood
  keepLow := k.keepLow
  keepLost := k.keepLost
  assertReset p straps h := by
    rw [Part.assertReset]
    split
    case h_5 => exact k.same p _ h (by simp [Part.sameSupplies])
    all_goals exact k.same p _ h (by simp [Part.sameSupplies, Part.sampleStraps])

/-! ## The operations that change the supplies -/

theorem Part.keepValidPresent_of_off (p : Part) (supply : p.supply = .off) (keepValid : p.keepValid = none) :
    p.keepValidPresent := by
  simp [Part.keepValidPresent, supply, keepValid]

theorem Part.keepValidPresent_of_on (p : Part) (v : Bool) (supply : p.supply ≠ .off) (keepValid : p.keepValid = some v) :
    p.keepValidPresent := by
  simp [Part.keepValidPresent, supply, keepValid]

theorem Part.mainLost_supplies (p : Part) : p.mainLost.initialising = none
    ∧ ((p.mainLost.supply = .keep ∧ p.mainLost.keepValid = p.keepValid)
      ∨ (p.mainLost.supply = .off ∧ p.mainLost.keepValid = none)) := by
  rw [Part.mainLost]
  dsimp only
  split
  · exact ⟨rfl, .inl ⟨rfl, by simp [Part.fadeMemory, Part.volatileInit]⟩⟩
  · exact ⟨rfl, .inr ⟨rfl, rfl⟩⟩

theorem Part.enterRun_supplies (p : Part) : p.enterRun.supply = .run ∧ p.enterRun.keepValid = p.keepValid
    ∧ p.enterRun.initialising = p.initialising := by
  simp [Part.enterRun, Part.volatileInit]

theorem Part.keepValidPresent.finishCold {p : Part} (h : p.keepValidPresent) : p.finishCold.keepValidPresent := by
  obtain same | ⟨c, -, -, completed⟩ := p.finishCold_cases
  · rwa [same]
  · obtain ⟨supply, keepValid, -⟩ := p.completeCold_supplies c
    rw [completed]
    exact Part.keepValidPresent_of_on _ true supply keepValid

/-- R177: a part whose cold initialisation has completed, as VKEEP low and the crystal find it. -/
theorem Part.coldUnsupplied.finishCold {p : Part} (h : p.coldUnsupplied) : p.finishCold.coldUnsupplied := by
  obtain same | ⟨c, -, -, completed⟩ := p.finishCold_cases
  · rwa [same]
  · rw [completed]
    exact Part.coldUnsupplied_of_none _ (p.completeCold_supplies c).2.2

/-- The part that a fall of VKEEP to low finds: past a cold initialisation at VKEEP good. -/
def Part.pastColdAtVkeep (p : Part) : Part := if p.initialising = some .atVkeep then p.finishCold else p

theorem Part.keepLow_eq (p : Part) : p.keepLow =
    if p.pastColdAtVkeep.supply = .keep ∧ p.pastColdAtVkeep.initialising = none
    then { p.pastColdAtVkeep with vkeep := .low, keepValid := some false }
    else { p.pastColdAtVkeep with vkeep := .low } := rfl

theorem keepValidPresent_keptBySupplies : KeptBySupplies Part.keepValidPresent where
  same _ _ h same := h.of_same same
  finishCold _ h := h.finishCold
  lockoutEnds p h := by
    rw [Part.lockoutEnds]
    split
    next lockout => exact h.of_supplied rfl (by simp [lockout]) (by simp)
    next => exact h
  enterRun p verify h := by
    obtain ⟨supply, keepValid, -⟩ := p.enterRun_supplies
    exact h.of_supplied keepValid (by simp [verify]) (by simp [supply])
  mainGoodNow p straps _ h := by
    rw [Part.mainGoodNow]
    split
    case h_2 keep =>
      split
      · exact h.of_supplied rfl (by simp [keep]) (by simp [Part.enterLockout])
      · exact h
    all_goals exact h
  fallUnsupplied p h := by
    rw [Part.fallUnsupplied]
    split
    · rw [Part.cutCold]
      split
      · exact Part.keepValidPresent_of_on _ false (by simp) rfl
      · exact Part.keepValidPresent_of_off _ rfl rfl
    · exact h
    · exact h
  mainLost p on h := by
    obtain ⟨-, ⟨supply, keepValid⟩ | ⟨supply, keepValid⟩⟩ := p.mainLost_supplies
    · exact h.of_supplied keepValid on (by simp [supply])
    · exact Part.keepValidPresent_of_off _ supply keepValid
  keepGood p h := by
    rw [Part.keepGood]
    split <;> exact h
  keepLow p h := by
    have past : p.pastColdAtVkeep.keepValidPresent := by
      rw [Part.pastColdAtVkeep]
      split
      · exact h.finishCold
      · exact h
    rw [Part.keepLow_eq]
    split
    next keep => exact Part.keepValidPresent_of_on _ false (by simp [keep]) rfl
    next => exact past
  keepLost p h := by
    rw [Part.keepLost]
    split
    · exact Part.keepValidPresent_of_off _ rfl rfl
    · exact h

/-- R177: a cold initialisation begun in OFF or KEEP, at VMAIN good. -/
theorem Part.coldUnsupplied_of_beginCold (p : Part) (straps : BitVec 10) (h : p.supply = .off ∨ p.supply = .keep) :
    (p.beginCold (.atVmain straps)).coldUnsupplied :=
  ⟨fun _ => h, by simp⟩

theorem coldUnsupplied_keptBySupplies : KeptBySupplies Part.coldUnsupplied where
  same _ _ h same := h.of_same same
  finishCold _ h := h.finishCold
  lockoutEnds p h := by
    rw [Part.lockoutEnds]
    split
    next lockout => exact Part.coldUnsupplied_of_none _ (h.none_of_supplied (by simp [lockout]) (by simp [lockout]))
    next => exact h
  enterRun p verify h := by
    obtain ⟨-, -, initialising⟩ := p.enterRun_supplies
    exact Part.coldUnsupplied_of_none _
      (initialising.trans (h.none_of_supplied (by simp [verify]) (by simp [verify])))
  mainGoodNow p straps settled h := by
    rw [Part.mainGoodNow]
    split
    next off => exact p.coldUnsupplied_of_beginCold straps (.inl off)
    next keep =>
      split
      · exact Part.coldUnsupplied_of_none _ (settled (.inr keep))
      · exact p.coldUnsupplied_of_beginCold straps (.inr keep)
    all_goals exact h
  fallUnsupplied p h := by
    rw [Part.fallUnsupplied]
    split
    · exact Part.coldUnsupplied_of_none _ p.cutCold_effect.1
    · exact h
    · exact h
  mainLost p _ _ := Part.coldUnsupplied_of_none _ p.mainLost_supplies.1
  keepGood p h := by
    rw [Part.keepGood]
    split
    next off => exact ⟨fun _ => .inl off.1, fun _ => off.1⟩
    next => exact h
  keepLow p h := by
    have past : p.pastColdAtVkeep.coldUnsupplied := by
      rw [Part.pastColdAtVkeep]
      split
      · exact h.finishCold
      · exact h
    rw [Part.keepLow_eq]
    split <;> exact past
  keepLost p h := by
    rw [Part.keepLost]
    split
    · exact Part.coldUnsupplied_of_none _ rfl
    · exact h

end Sys2Proof.Machine

/-! PROOFS. The bound of the outcome queue (R126): outcomes enter in a decision alone, which tests for a free place (R85, R86). -/

namespace Sys2Proof.Machine

/-- No outcome has entered between two parts. -/
def Part.noOutcomeEnters (p q : Part) : Prop := q.queue.outcomes.length ≤ p.queue.outcomes.length

theorem Part.noOutcomeEnters_of_queue {p q : Part} (h : q.queue = p.queue) : p.noOutcomeEnters q := by
  rw [Part.noOutcomeEnters, h]

theorem Part.noOutcomeEnters.trans {p q r : Part} (h : p.noOutcomeEnters q) (h' : q.noOutcomeEnters r) :
    p.noOutcomeEnters r := Nat.le_trans h' h

theorem Part.queueWithin.of_noneEnters {p q : Part} (h : p.queueWithin) (fewer : p.noOutcomeEnters q) : q.queueWithin :=
  Nat.le_trans fewer h

theorem Part.queueWithin.of_queue {p q : Part} (h : p.queueWithin) (same : q.queue = p.queue) : q.queueWithin :=
  h.of_noneEnters (noOutcomeEnters_of_queue same)

/-! ## The contexts -/

theorem Part.releaseOutcome_noneEnters (p : Part) (n : Fin 4) : p.noOutcomeEnters (p.releaseOutcome n) :=
  List.length_filter_le _ _

theorem Part.dropPresentation_noneEnters (p : Part) (n : Fin 4) (pr : Presentation) :
    p.noOutcomeEnters (p.dropPresentation n pr) := by
  have released : p.noOutcomeEnters (((p.disownSettle n).releasePin pr.entry).releaseOutcome n) :=
    (noOutcomeEnters_of_queue (by simp)).trans (Part.releaseOutcome_noneEnters _ n)
  rw [Part.dropPresentation]
  split <;> exact released

theorem Part.abandon_noneEnters (p : Part) (n : Fin 4) : p.noOutcomeEnters (p.abandon n) := by
  rw [Part.abandon]
  split
  · exact noOutcomeEnters_of_queue rfl
  · exact noOutcomeEnters_of_queue rfl
  · exact noOutcomeEnters_of_queue rfl
  · exact p.dropPresentation_noneEnters n _
  · exact p.dropPresentation_noneEnters n _

theorem Part.contextWrite_noneEnters (p : Part) (n : Fin 4) (k : Nat) (b : LaneBytes) :
    p.noOutcomeEnters (p.contextWrite n k b).1 := by
  have overtaken : p.noOutcomeEnters ((p.abandon n).beginPresentation n b) := p.abandon_noneEnters n
  rw [Part.contextWrite]
  split
  · dsimp only
    split <;> exact noOutcomeEnters_of_queue rfl
  · dsimp only
    split <;> exact noOutcomeEnters_of_queue (by simp)
  · dsimp only
    split
    · exact overtaken
    · exact noOutcomeEnters_of_queue rfl
  · split
    · exact overtaken
    · split <;> exact noOutcomeEnters_of_queue (by simp)
  · split
    · exact overtaken
    · split <;> exact noOutcomeEnters_of_queue rfl

theorem Part.resetContext_noneEnters (p : Part) (n : Fin 4) : p.noOutcomeEnters (p.resetContext n) :=
  (p.abandon_noneEnters n).trans (noOutcomeEnters_of_queue (by simp [Part.resetContext]))

theorem Part.resetContexts_noneEnters (p : Part) : p.noOutcomeEnters p.resetContexts :=
  (((p.resetContext_noneEnters 0).trans (Part.resetContext_noneEnters _ 1)).trans
    (Part.resetContext_noneEnters _ 2)).trans (Part.resetContext_noneEnters _ 3)

/-! ## The journal -/

theorem Part.detachOutcome_noneEnters (p : Part) : p.noOutcomeEnters p.detachOutcome := by
  simp [Part.noOutcomeEnters, Part.detachOutcome]

theorem Part.abandonAssembly_noneEnters (p : Part) : p.noOutcomeEnters p.abandonAssembly := by
  rw [Part.abandonAssembly]
  split
  · exact noOutcomeEnters_of_queue rfl
  · split
    · exact p.detachOutcome_noneEnters
    · exact noOutcomeEnters_of_queue rfl

theorem Part.completeReport_noneEnters (p : Part) (r : Report) : p.noOutcomeEnters (p.completeReport r) := by
  have paged : p.noOutcomeEnters (p.completePage r.page) := by
    rw [Part.completePage.eq_def]
    split
    · exact List.length_erase_le
    · exact noOutcomeEnters_of_queue rfl
  exact paged

theorem Part.journalWordZero_noneEnters (p : Part) (record : Nat) (b : LaneBytes) :
    p.noOutcomeEnters (p.journalWordZero record b) := by
  have began : p.noOutcomeEnters (p.beginAssembly record b) :=
    p.abandonAssembly_noneEnters.trans (noOutcomeEnters_of_queue (by simp [Part.beginAssembly]))
  rw [Part.journalWordZero]
  split
  · exact began
  · split
    · exact noOutcomeEnters_of_queue (by simp)
    · exact began

theorem Part.closingWrite_noneEnters (p : Part) (a : Assembly) (b : LaneBytes) (carried broken : Part → Part)
    (hc : p.noOutcomeEnters (carried p)) (hb : p.noOutcomeEnters (broken p)) :
    p.noOutcomeEnters (p.closingWrite a b carried broken).1 := by
  simp only [Part.closingWrite, Part.withAssembly]
  split
  · split
    · exact hc
    · exact noOutcomeEnters_of_queue rfl
  · split
    · exact hb
    · exact noOutcomeEnters_of_queue rfl

theorem Part.confirmOutcome_noneEnters (p : Part) (n : Fin 4) (amendable : Bool) :
    p.noOutcomeEnters (p.confirmOutcome n amendable) := by
  simp [Part.noOutcomeEnters, Part.confirmOutcome]

theorem Part.offerSerial_noneEnters (p : Part) (serial : BitVec 64) (amendable : Bool) :
    p.noOutcomeEnters (p.offerSerial serial amendable).1 := by
  rw [Part.offerSerial]
  split
  · exact noOutcomeEnters_of_queue rfl
  split
  · exact noOutcomeEnters_of_queue rfl
  split
  · exact noOutcomeEnters_of_queue rfl
  simp only [Part.noOutcomeEnters, Part.afterConfirmation_keeps, Part.claimMarkFor_keeps, Part.count_fields]
  split
  · exact p.confirmOutcome_noneEnters _ amendable
  all_goals exact Nat.le_refl _

theorem Part.recordWrite_noneEnters (p : Part) (a : Assembly) (k : Nat) (b : LaneBytes) :
    p.noOutcomeEnters (p.recordWrite a k b).1 := by
  rw [Part.recordWrite]
  split
  · exact noOutcomeEnters_of_queue (by simp)
  · exact noOutcomeEnters_of_queue (by simp)
  · rw [Part.tapWrite]
    split
    · exact p.offerSerial_noneEnters _ _
    split
    · split <;> exact noOutcomeEnters_of_queue (by simp)
    split
    · split
      · exact p.closingWrite_noneEnters a b _ _ (List.length_filter_le _ _) p.detachOutcome_noneEnters
      · exact noOutcomeEnters_of_queue (by simp)
    · exact noOutcomeEnters_of_queue (by simp)
  next r _ =>
    rw [Part.heartbeatWrite]
    split
    · exact noOutcomeEnters_of_queue (by simp)
    split
    · exact noOutcomeEnters_of_queue (by simp)
    · exact p.closingWrite_noneEnters a b _ _ (p.completeReport_noneEnters r) (noOutcomeEnters_of_queue rfl)

theorem Part.journalWrite_noneEnters (p : Part) (record k : Nat) (b : LaneBytes) :
    p.noOutcomeEnters (p.journalWrite record k b).1 := by
  rw [Part.journalWrite]
  split
  · exact p.journalWordZero_noneEnters record b
  split
  · exact noOutcomeEnters_of_queue rfl
  split
  · exact p.recordWrite_noneEnters _ k b
  · exact noOutcomeEnters_of_queue rfl

/-! ## Cycles -/

theorem Part.takeCycle_noneEnters (p : Part) (w : BitVec 23) (a : Access) : p.noOutcomeEnters (p.takeCycle w a) := by
  rw [Part.takeCycle.eq_def]
  split
  · exact noOutcomeEnters_of_queue (by simp)
  · exact noOutcomeEnters_of_queue (by simp)
  next b _ =>
    rw [Part.takeWrite]
    split
    · exact noOutcomeEnters_of_queue (by simp)
    · exact noOutcomeEnters_of_queue (by simp)
    next n k _ => exact (p.contextWrite_noneEnters n k b).trans (noOutcomeEnters_of_queue (by simp))
    next record k _ => exact (p.journalWrite_noneEnters record k b).trans (noOutcomeEnters_of_queue (by simp))
    · exact noOutcomeEnters_of_queue (by simp)
  · exact noOutcomeEnters_of_queue (by simp)

theorem Part.takeWaiting_noneEnters (p : Part) : p.noOutcomeEnters p.takeWaiting := by
  rw [Part.takeWaiting]
  split
  · exact noOutcomeEnters_of_queue rfl
  · refine Part.noOutcomeEnters.trans ?_ (Part.takeCycle_noneEnters _ _ _)
    exact noOutcomeEnters_of_queue rfl

/-! ## A decision -/

/-- R83, R85, R86, R100: the decisions that let an outcome enter, and the free places each has found. -/
def Decision.placesTaken : Decision → Nat
  | .restore _ _ _ => 1
  | .block _ _ => 1
  | .skipLive true => 1
  | _ => 0

theorem decideRestore_places (i : DecisionInputs) (e : Entry) (r : RestorePart) :
    (decideRestore i e r).placesTaken ≤ i.free := by
  rw [decideRestore]
  split
  · exact Nat.zero_le _
  split
  · exact Nat.zero_le _
  split
  · exact Nat.zero_le _
  split
  · by_cases place : 1 ≤ i.free
    · simp only [place, decide_true, Decision.placesTaken]
    · simp [place, Decision.placesTaken]
  split
  · exact Nat.zero_le _
  next enough =>
    split
    · exact Nat.zero_le _
    · simp only [Config.restorePlaces] at enough
      simp only [Decision.placesTaken]
      omega

theorem decideBlock_places (i : DecisionInputs) (e : Entry) : (decideBlock i e).placesTaken ≤ i.free := by
  rw [decideBlock]
  split
  · exact Nat.zero_le _
  split
  · exact Nat.zero_le _
  split
  next place => exact place
  next => exact Nat.zero_le _

theorem decideFor_places (i : DecisionInputs) (e : Entry) : (decideFor i (some e)).placesTaken ≤ i.free := by
  simp only [decideFor]
  split
  · exact Nat.zero_le _
  · exact decideRestore_places i e _
  · exact decideBlock_places i e

theorem Part.enterOutcome_length (p : Part) (o : Outcome) :
    (p.enterOutcome o).queue.outcomes.length = p.queue.outcomes.length + 1 := by
  simp [Part.enterOutcome]

/-- R98 to R100: a decision carried out lets in the outcomes it has found places for. -/
theorem Part.carryDecision_outcomes (p : Part) (n : Fin 4) (snapshot : List Word) (written : List Lanes) (number : Nat)
    (e : Entry) (d : Decision) : (p.carryDecision n snapshot written number e d).queue.outcomes.length
      ≤ p.queue.outcomes.length + d.placesTaken := by
  rw [Part.carryDecision.eq_def]
  cases d with
  | restore image placed dropped => simp [Part.enterOutcome_length, Decision.placesTaken]
  | block image cleared => simp [Part.enterOutcome_length, Decision.placesTaken]
  | skipLive inserted =>
    cases inserted with
    | true => simp [Part.insertObserved, Part.enterOutcome_length, Decision.placesTaken]
    | false => simp [Part.insertObserved, Decision.placesTaken]
  | _ => simp [Decision.placesTaken]

theorem Part.queueWithin.decideLookup {p : Part} (h : p.queueWithin) (n : Fin 4) (snapshot : List Word)
    (written : List Lanes) : (p.decideLookup n snapshot written).queueWithin := by
  have carried (q : Part) (h : q.queueWithin) : (q.answerHeldRead n).queueWithin := h.of_queue (by simp)
  rw [Part.decideLookup]
  refine carried _ ?_
  split
  · exact h
  next number e _ =>
    have places := decideFor_places (p.inputs snapshot) e
    have bound := p.carryDecision_outcomes n snapshot written number e (decideFor (p.inputs snapshot) (some e))
    simp only [Part.inputs, Part.freePlaces] at places bound
    have within : p.queue.outcomes.length ≤ Config.queueSize := h
    rw [Part.queueWithin]
    exact Nat.le_trans bound (by omega)

/-! ## The operations -/

theorem Part.grant_queue (p : Part) : p.grant.queue = p.queue := by simp

theorem Part.queueWithin_of_cold (p : Part) (h : p.queue = OutcomeQueue.cold) : p.queueWithin := by
  rw [Part.queueWithin, h]
  exact Nat.zero_le _

theorem Part.queueWithin.finishCold {p : Part} (h : p.queueWithin) : p.finishCold.queueWithin := by
  obtain same | ⟨c, -, -, completed⟩ := p.finishCold_cases
  · rwa [same]
  · rw [completed]
    cases c <;> exact Part.queueWithin_of_cold _ rfl

theorem Part.verifyOutcome_noneEnters (p : Part) (n : Nat) (o : Outcome) :
    p.noOutcomeEnters (p.verifyOutcome n o).1 := by
  rw [Part.verifyOutcome]
  split
  · exact List.length_eraseIdx_le _ _
  · simp [Part.noOutcomeEnters]

theorem Part.withOutcomes_nil_noneEnters (p : Part) : p.noOutcomeEnters (p.withOutcomes []) := Nat.zero_le _

theorem Part.afterStages_queue (p : Part) (failed : Bool) : (p.afterStages failed).queue = p.queue := by
  rw [Part.afterStages]
  split <;> rfl

theorem Part.walkStep_noneEnters (p : Part) : p.noOutcomeEnters p.walkStep := by
  simp only [Part.walkStep]
  split
  · split <;> exact noOutcomeEnters_of_queue rfl
  · exact noOutcomeEnters_of_queue rfl
  · exact noOutcomeEnters_of_queue rfl
  · rw [Part.verifySetup]
    split <;> exact noOutcomeEnters_of_queue rfl
  · split
    · exact noOutcomeEnters_of_queue rfl
    · exact p.withOutcomes_nil_noneEnters.trans (noOutcomeEnters_of_queue (Part.afterStages_queue _ _))
  next n _ =>
    split
    · exact noOutcomeEnters_of_queue (Part.afterStages_queue _ _)
    next o _ => exact (p.verifyOutcome_noneEnters n o).trans (noOutcomeEnters_of_queue rfl)
  · exact noOutcomeEnters_of_queue (by simp)
  · exact noOutcomeEnters_of_queue rfl

theorem Part.finishQueueItem_noneEnters (p : Part) (n : Nat) (failed : Bool) :
    p.noOutcomeEnters (p.finishQueueItem n failed) := by
  have left : p.noOutcomeEnters
      (p.withOutcomes (p.queue.outcomes.take n ++ verifiedOutcomes (p.queue.outcomes.drop n))) := by
    have kept := List.length_filter_le (fun o : Outcome => !o.isReserved) (p.queue.outcomes.drop n)
    simp only [Part.noOutcomeEnters, Part.withOutcomes_fields, verifiedOutcomes, List.length_append, List.length_take,
      List.length_map, List.length_drop] at kept ⊢
    omega
  rw [Part.finishQueueItem]
  split
  · exact left.trans (noOutcomeEnters_of_queue (by simp))
  · exact noOutcomeEnters_of_queue (by simp)

theorem Part.finishQueue_noneEnters (p : Part) (failed : Bool) : p.noOutcomeEnters (p.finishQueue failed) := by
  rw [Part.finishQueue]
  split
  · exact p.finishQueueItem_noneEnters 0 failed
  · exact p.withOutcomes_nil_noneEnters.trans (noOutcomeEnters_of_queue (by simp))

theorem Part.finishFileNumber_noneEnters (p : Part) (failed : Bool) : p.noOutcomeEnters (p.finishFileNumber failed) :=
  Part.noOutcomeEnters.trans (noOutcomeEnters_of_queue (by simp)) (p.verifySetup.finishQueue_noneEnters _)

theorem Part.finishWalk_noneEnters (p : Part) : p.noOutcomeEnters p.finishWalk := by
  simp only [Part.finishWalk, Part.finishStructure]
  split
  · exact Part.noOutcomeEnters.trans (noOutcomeEnters_of_queue rfl) (Part.finishFileNumber_noneEnters _ _)
  · exact p.finishFileNumber_noneEnters _
  · exact p.finishFileNumber_noneEnters _
  · exact Part.noOutcomeEnters.trans (noOutcomeEnters_of_queue (by simp)) (p.verifySetup.finishQueue_noneEnters _)
  · exact p.finishQueue_noneEnters _
  · exact p.finishQueueItem_noneEnters _ _
  · exact noOutcomeEnters_of_queue (by simp)
  · exact noOutcomeEnters_of_queue rfl

theorem Part.followWindow_noneEnters (p : Part) (old : Setup) (n : Fin 4) : p.noOutcomeEnters (p.followWindow old n) := by
  rw [Part.followWindow]
  split
  · exact p.resetContext_noneEnters n
  · exact noOutcomeEnters_of_queue rfl

theorem Part.followSetup_noneEnters (p : Part) (old : Setup) : p.noOutcomeEnters (p.followSetup old) := by
  have windows : p.noOutcomeEnters
      ((((p.followWindow old 0).followWindow old 1).followWindow old 2).followWindow old 3) :=
    (((p.followWindow_noneEnters old 0).trans (Part.followWindow_noneEnters _ old 1)).trans
      (Part.followWindow_noneEnters _ old 2)).trans (Part.followWindow_noneEnters _ old 3)
  have journal (q : Part) : q.noOutcomeEnters (q.followJournal old) := by
    rw [Part.followJournal]
    split
    · exact q.abandonAssembly_noneEnters
    · exact noOutcomeEnters_of_queue rfl
  exact (windows.trans (journal _)).trans (noOutcomeEnters_of_queue (by simp [Part.followSetup]))

theorem Part.applySetup_noneEnters (p : Part) (effects : List PendingEffect) :
    p.noOutcomeEnters (p.applySetup effects) := by
  have followed := Part.followSetup_noneEnters
    { p with setup := p.setup.applied effects, locked := asksLock effects, setupFault := 0 } p.setup
  rw [Part.applySetup]
  split
  · split
    · exact noOutcomeEnters_of_queue rfl
    · exact followed
  · exact noOutcomeEnters_of_queue rfl

theorem Part.completeCommit_noneEnters (p : Part) : p.noOutcomeEnters p.completeCommit := by
  have committed (q : Part) (c : CommitPayload) : q.noOutcomeEnters (q.commitEffects c) := by
    have applied := Part.applySetup_noneEnters { q with store := q.store.commit c } c.effects
    exact Part.noOutcomeEnters.trans applied (noOutcomeEnters_of_queue (by simp [Part.commitEffects]))
  rw [Part.completeCommit]
  split
  next c _ =>
    refine Part.noOutcomeEnters.trans (q := p.tableFree.commitEffects c) (committed p.tableFree c) ?_
    rw [Part.intakeAnswered]
    split <;> exact noOutcomeEnters_of_queue (by simp)
  next => exact noOutcomeEnters_of_queue rfl

theorem Part.expireAwait_noneEnters (p : Part) (n : Fin 4) : p.noOutcomeEnters (p.expireAwait n) := by
  have givenUp : p.noOutcomeEnters (p.giveUpResult n) := p.releaseOutcome_noneEnters n
  rw [Part.expireAwait]
  split
  · split
    · exact givenUp
    · exact noOutcomeEnters_of_queue rfl
  · split
    · exact givenUp.trans (noOutcomeEnters_of_queue (by simp))
    · exact noOutcomeEnters_of_queue rfl
  all_goals exact noOutcomeEnters_of_queue rfl

theorem Part.expireHold_noneEnters (p : Part) : p.noOutcomeEnters p.expireHold := by
  rw [Part.expireHold]
  split
  next n _ _ => exact (p.abandon_noneEnters n).trans (noOutcomeEnters_of_queue (by simp))
  next => exact noOutcomeEnters_of_queue rfl

theorem Part.resetRun_noneEnters (p : Part) (straps : BitVec 10) : p.noOutcomeEnters (p.resetRun straps) := by
  have contexts : p.noOutcomeEnters p.landSettle.resetContexts.resetIntake :=
    (Part.noOutcomeEnters.trans (noOutcomeEnters_of_queue (by simp)) p.landSettle.resetContexts_noneEnters).trans
      (noOutcomeEnters_of_queue (by simp))
  have assembly := contexts.trans (Part.abandonAssembly_noneEnters _)
  rw [Part.resetRun]
  refine Part.noOutcomeEnters.trans (assembly.trans ?_) ((Part.takeWaiting_noneEnters _).trans
    (noOutcomeEnters_of_queue (Part.grant_queue _)))
  exact noOutcomeEnters_of_queue rfl

theorem Part.queueWithin_enterOff (p : Part) : p.enterOff.queueWithin := Part.queueWithin_of_cold _ rfl

theorem Part.queueWithin.mainFall {p : Part} (h : p.queueWithin) : p.mainFall.queueWithin := by
  have unsupplied : p.fallUnsupplied.queueWithin := by
    rw [Part.fallUnsupplied]
    split
    · rw [Part.cutCold]
      split
      · exact h
      · exact p.queueWithin_enterOff
    · exact h
    · exact h
  have lost : p.mainLost.queueWithin := by
    rw [Part.mainLost]
    dsimp only
    split
    · exact h.of_queue (by simp [Part.fadeMemory, Part.volatileInit])
    · exact Part.queueWithin_enterOff _
  rw [Part.mainFall]
  split
  · exact unsupplied
  · exact unsupplied
  all_goals exact lost

/-- Each operation keeps the outcome queue within its bound. -/
theorem queueWithin_keptByOperations : KeptByOperations Part.queueWithin where
  finishCold _ h := h.finishCold
  walkStep p _ h := h.of_noneEnters p.walkStep_noneEnters
  arrive p w a h := by
    rw [Part.arrive]
    split
    · split
      · exact h
      · exact h.of_noneEnters ((p.takeCycle_noneEnters w a).trans (Part.noOutcomeEnters_of_queue (by simp)))
    · exact h
  endCycle _ h := h.of_queue (by simp)
  startSettle _ h := h.of_queue (by simp)
  completeSettle p h := by
    rw [Part.completeSettle]
    split
    · exact h
    · refine h.of_noneEnters (Part.noOutcomeEnters.trans ?_ ((Part.takeWaiting_noneEnters _).trans
        (Part.noOutcomeEnters_of_queue (Part.grant_queue _))))
      exact Part.noOutcomeEnters_of_queue (by simp)
  completeLookup p h := by
    have granted (q : Part) (h : q.queueWithin) : q.grant.queueWithin := h.of_queue (by simp)
    rw [Part.completeLookup]
    split
    · refine granted _ ?_
      split
      · exact Part.queueWithin.decideLookup (p := p.tableFree) h _ _ _
      · exact h
    · exact h
  completeMark _ h := h.of_queue (by simp)
  completeStageEntry _ h := h.of_queue (by simp)
  completeStagePass _ h := h.of_queue (by simp)
  completeCommit p h := h.of_noneEnters p.completeCommit_noneEnters
  completeDiscard _ h := h.of_queue (by simp)
  completeSweepStep _ h := h.of_queue (by simp)
  takeRelease _ h := h.of_queue (by simp)
  expireHold p h := h.of_noneEnters p.expireHold_noneEnters
  expireIntakeHold _ h := h.of_queue (by simp)
  expireAwait p n h := h.of_noneEnters (p.expireAwait_noneEnters n)
  expireAttention _ h := h.of_queue (by simp)
  endSlot _ h := h.of_queue (by simp)
  second _ h := h.of_queue (by simp)
  lockoutEnds _ h := h.of_queue (by simp)
  completeWalk p h := by
    rw [Part.completeWalk]
    split
    · exact (h.of_noneEnters p.finishWalk_noneEnters).of_queue (by simp [Part.enterRun, Part.volatileInit])
    · exact h
  mainGood p straps h := by
    rw [Part.mainGood]
    split
    · exact h
    · exact h.finishCold.of_queue (by simp)
    · exact h.of_queue (by simp)
  mainFall _ h := h.mainFall
  keepGood _ h := h.of_queue (by simp)
  keepLow p h := by
    have past : p.pastColdAtVkeep.queueWithin := by
      rw [Part.pastColdAtVkeep]
      split
      · exact h.finishCold
      · exact h
    rw [Part.keepLow_eq]
    split <;> exact past
  keepLost p h := by
    rw [Part.keepLost]
    split
    · exact Part.queueWithin_enterOff _
    · exact h
  assertReset p straps h := by
    rw [Part.assertReset]
    split
    case h_5 => exact h.of_noneEnters (p.resetRun_noneEnters straps)
    all_goals exact h

end Sys2Proof.Machine

/-! PROOFS. The overlays stand in ascending order (R54, R64): an overlay is built in order, and words only leave it or are
marked. -/

namespace Sys2Proof.Machine

/-! ## One context set -/

theorem fourAt_fourWith {α : Type} (f : Four α) (n m : Fin 4) (x : α) :
    fourAt (fourWith f n x) m = if m = n then x else fourAt f m := by
  fin_cases n <;> fin_cases m <;> rfl

/-- What stands in a context after one is set. -/
theorem Part.context_withContext (p : Part) (n m : Fin 4) (c : Context) :
    (p.withContext n c).context m = if m = n then c else p.context m :=
  fourAt_fourWith p.contexts n m c

theorem Part.context_of_contexts {p q : Part} (h : q.contexts = p.contexts) (n : Fin 4) : q.context n = p.context n := by
  rw [Part.context, Part.context, h]

/-! ## Overlays in order -/

/-- The overlay words of a presentation stand in ascending order. -/
def Presentation.ascends (pr : Presentation) : Prop := pr.overlay.Pairwise fun a b => a.word < b.word

/-- The presentation a context holds, if any, has its overlay in ascending order. -/
def Context.ascends (c : Context) : Prop := ∀ pr, c = .amended pr ∨ c = .settled pr → pr.ascends

theorem Part.overlaysAscend_iff (p : Part) : p.overlaysAscend ↔ ∀ n, (p.context n).ascends := Iff.rfl

@[simp] theorem Context.ascends_empty : Context.empty.ascends := by simp [Context.ascends]

@[simp] theorem Context.ascends_filling (copy : List LaneBytes) : (Context.filling copy).ascends := by
  simp [Context.ascends]

@[simp] theorem Context.ascends_lookup (snapshot : List Word) (written : List Lanes) :
    (Context.lookup snapshot written).ascends := by
  simp [Context.ascends]

@[simp] theorem Context.ascends_amended (pr : Presentation) : (Context.amended pr).ascends ↔ pr.ascends := by
  simp [Context.ascends]

@[simp] theorem Context.ascends_settled (pr : Presentation) : (Context.settled pr).ascends ↔ pr.ascends := by
  simp [Context.ascends]

theorem Presentation.ascends.noteWrite {pr : Presentation} (h : pr.ascends) (k : Nat) (b : LaneBytes) :
    (pr.noteWrite k b).ascends := h

theorem Presentation.ascends.dropWord {pr : Presentation} (h : pr.ascends) (k : Nat) : (pr.dropWord k).ascends :=
  List.Pairwise.filter _ h

theorem Presentation.ascends.markWritten {pr : Presentation} (h : pr.ascends) (k : Nat) : (pr.markWritten k).ascends := by
  refine List.pairwise_map.mpr (h.imp ?_)
  intro a b lt
  split <;> split <;> exact lt

/-- R64: an overlay is built from the lowest word up. -/
theorem overlayOf_ascends (snapshot image : List Word) (written : List Lanes) :
    (overlayOf snapshot image written).Pairwise fun a b => a.word < b.word := by
  refine List.pairwise_filterMap.mpr (List.pairwise_lt_range.imp ?_)
  intro j k lt a ha b hb
  dsimp only at ha hb
  split at ha
  · split at hb
    · cases ha
      cases hb
      exact lt
    · cases hb
  · cases ha

theorem Part.overlaysAscend.of_contexts {p q : Part} (h : p.overlaysAscend) (same : q.contexts = p.contexts) :
    q.overlaysAscend := by
  rw [Part.overlaysAscend_iff] at h ⊢
  intro n
  rw [Part.context_of_contexts same]
  exact h n

theorem Part.overlaysAscend.withContext {p : Part} (h : p.overlaysAscend) (n : Fin 4) (c : Context) (hc : c.ascends) :
    (p.withContext n c).overlaysAscend := by
  rw [Part.overlaysAscend_iff] at h ⊢
  intro m
  rw [p.context_withContext]
  split
  · exact hc
  · exact h m

theorem Part.overlaysAscend_of_allEmpty (p : Part) (h : p.contexts = allEmpty) : p.overlaysAscend := by
  intro n pr held
  have empty : p.context n = .empty := by
    rw [Part.context, h]
    fin_cases n <;> rfl
  simp [empty] at held

/-! ## The contexts -/

theorem Part.overlaysAscend.abandon {p : Part} (h : p.overlaysAscend) (n : Fin 4) : (p.abandon n).overlaysAscend := by
  rw [Part.abandon]
  split
  all_goals exact Part.overlaysAscend.withContext (h.of_contexts (by simp)) n _ (by simp)

theorem Part.overlaysAscend.resetContext {p : Part} (h : p.overlaysAscend) (n : Fin 4) :
    (p.resetContext n).overlaysAscend := (h.abandon n).of_contexts (by simp [Part.resetContext])

theorem Part.overlaysAscend.resetContexts {p : Part} (h : p.overlaysAscend) : p.resetContexts.overlaysAscend :=
  (((h.resetContext 0).resetContext 1).resetContext 2).resetContext 3

theorem Part.overlaysAscend.endSettling {p : Part} (h : p.overlaysAscend) (n : Fin 4) (pr : Presentation)
    (hp : pr.ascends) : (p.endSettling n pr).overlaysAscend := by
  rw [Part.endSettling]
  split
  · exact Part.overlaysAscend.withContext (h.of_contexts (by simp)) n _ (by simp)
  split
  · exact h.withContext n _ (by simpa using hp)
  all_goals exact Part.overlaysAscend.withContext (h.of_contexts (by simp)) n _ (by simp)

theorem Part.overlaysAscend.amendedWith {p : Part} (h : p.overlaysAscend) (n : Fin 4) (pr : Presentation)
    (hp : pr.ascends) : (p.amendedWith n pr).overlaysAscend := by
  rw [Part.amendedWith]
  split
  · exact h.withContext n _ (by simpa using hp)
  · exact h.endSettling n pr hp

theorem Part.overlaysAscend.held {p : Part} (h : p.overlaysAscend) {n : Fin 4} {pr : Presentation}
    (holds : p.context n = .amended pr ∨ p.context n = .settled pr) : pr.ascends := h n pr holds

theorem Part.overlaysAscend.contextWrite {p : Part} (h : p.overlaysAscend) (n : Fin 4) (k : Nat) (b : LaneBytes) :
    (p.contextWrite n k b).1.overlaysAscend := by
  have began (q : Part) (hq : q.overlaysAscend) : (q.beginPresentation n b).overlaysAscend :=
    hq.withContext n _ (by simp)
  have claimed (q : Part) (hq : q.overlaysAscend) (serial : BitVec 64) : (q.claimLookup n serial).overlaysAscend :=
    hq.of_contexts rfl
  rw [Part.contextWrite]
  split
  · dsimp only
    split
    · exact began p h
    · exact h
  · dsimp only
    split
    · exact began p h
    · rw [Part.captureWrite]
      split
      · rw [Part.closeImage]
        split
        · exact claimed _ (h.withContext n _ (Context.ascends_lookup _ _)) _
        · exact h.withContext n _ (by simp)
      · exact h.withContext n _ (by simp)
  · dsimp only
    split
    · exact began _ (h.abandon n)
    · exact h.withContext n _ (by simp)
  next pr amended =>
    have ascends := h.held (.inl amended)
    split
    · exact began _ (h.abandon n)
    split
    · exact h.withContext n _ ((Context.ascends_amended _).mpr (ascends.noteWrite k b))
    · exact h.amendedWith n _ ((ascends.noteWrite k b).dropWord k)
  next pr settled =>
    have ascends := h.held (.inr settled)
    split
    · exact began _ (h.abandon n)
    split
    · exact h.withContext n _ ((Context.ascends_settled _).mpr (ascends.noteWrite k b))
    · exact h.withContext n _ ((Context.ascends_settled _).mpr ((ascends.noteWrite k b).dropWord k))

/-! ## Confirmation -/

theorem Context.openPresentation_holds (c : Context) (pr : Presentation) (s : Bool)
    (h : c.openPresentation = some (pr, s)) : c = if s then .settled pr else .amended pr := by
  cases c with
  | amended q =>
    obtain ⟨-, rfl, rfl⟩ : _ ∧ q = pr ∧ false = s := by simpa [Context.openPresentation] using h
    rfl
  | settled q =>
    obtain ⟨-, rfl, rfl⟩ : _ ∧ q = pr ∧ true = s := by simpa [Context.openPresentation] using h
    rfl
  | _ => exact absurd h (by simp [Context.openPresentation])

theorem Part.overlaysAscend.offerSerial {p : Part} (h : p.overlaysAscend) (serial : BitVec 64) (amendable : Bool) :
    (p.offerSerial serial amendable).1.overlaysAscend := by
  rw [Part.offerSerial]
  split
  · exact h
  split
  · exact h
  next n _ =>
    split
    · exact h
    next pr isSettled found =>
      dsimp only
      have confirmed (q : Part) (hq : q.overlaysAscend) : (q.afterConfirmation n pr isSettled).overlaysAscend := by
        rw [Part.afterConfirmation]
        split
        · exact Part.overlaysAscend.withContext (hq.of_contexts (by simp)) n _ (by simp)
        next notSettled =>
          have amended := Context.openPresentation_holds _ pr isSettled found
          rw [if_neg notSettled] at amended
          have ascends : pr.ascends := h.held (.inl amended)
          exact hq.withContext n _ ((Context.ascends_amended _).mpr ascends)
      refine confirmed _ (h.of_contexts ?_)
      split <;> simp

theorem Part.overlaysAscend.journalWrite {p : Part} (h : p.overlaysAscend) (record k : Nat) (b : LaneBytes) :
    (p.journalWrite record k b).1.overlaysAscend := by
  rw [Part.journalWrite]
  split
  · exact h.of_contexts (by simp)
  split
  · exact h
  next a _ =>
    split
    · rw [Part.recordWrite]
      split
      · exact h.of_contexts (by simp)
      · exact h.of_contexts (by simp)
      · rw [Part.tapWrite]
        split
        · exact h.offerSerial _ _
        · refine h.of_contexts ?_
          split
          · split <;> simp
          split
          · split
            · simp only [Part.closingWrite, Part.withAssembly]
              repeat' split
              all_goals simp
            · simp
          · simp
      · exact h.of_contexts (by simp)
    · exact h

/-! ## Decisions -/

theorem Part.overlaysAscend.takeAmending {p : Part} (h : p.overlaysAscend) (n : Fin 4) (snapshot : List Word)
    (written : List Lanes) (d : Amending) (entry : Nat) (action : BitVec 32) (image : List Word) :
    (p.takeAmending n snapshot written d entry action image).overlaysAscend := by
  have ordered := overlayOf_ascends snapshot image written
  rw [Part.takeAmending]
  refine Part.overlaysAscend.withContext (h.of_contexts (by simp)) n _ ?_
  split
  · exact (Context.ascends_settled _).mpr ordered
  · exact (Context.ascends_amended _).mpr ordered

theorem Part.attentionIf_contexts (p : Part) (flagged : Bool) : (p.attentionIf flagged).contexts = p.contexts := by simp

theorem Part.overlaysAscend.carryDecision {p : Part} (h : p.overlaysAscend) (n : Fin 4) (snapshot : List Word)
    (written : List Lanes) (number : Nat) (e : Entry) (d : Decision) :
    (p.carryDecision n snapshot written number e d).overlaysAscend := by
  rw [Part.carryDecision.eq_def]
  cases d with
  | restore image placed dropped => exact Part.overlaysAscend.takeAmending (h.of_contexts (by simp)) n _ _ _ _ _ _
  | block image cleared =>
    refine Part.overlaysAscend.of_contexts (Part.overlaysAscend.takeAmending (h.of_contexts ?_) n _ _ _ _ _ _)
      (Part.attentionIf_contexts _ _)
    simp
  | blockOnly image =>
    refine Part.overlaysAscend.of_contexts (Part.overlaysAscend.takeAmending (h.of_contexts ?_) n _ _ _ _ _ _)
      (Part.attentionIf_contexts _ _)
    simp
  | _ => exact Part.overlaysAscend.withContext (h.of_contexts (by simp)) n _ (by simp)

theorem Part.overlaysAscend.decideLookup {p : Part} (h : p.overlaysAscend) (n : Fin 4) (snapshot : List Word)
    (written : List Lanes) : (p.decideLookup n snapshot written).overlaysAscend := by
  have answered (q : Part) (hq : q.overlaysAscend) : (q.answerHeldRead n).overlaysAscend := hq.of_contexts (by simp)
  rw [Part.decideLookup]
  refine answered _ ?_
  split
  · exact Part.overlaysAscend.withContext (h.of_contexts (by simp)) n _ (by simp)
  · exact h.carryDecision n _ _ _ _ _

/-! ## The operations -/

theorem Part.overlaysAscend.grant {p : Part} (h : p.overlaysAscend) : p.grant.overlaysAscend := h.of_contexts (by simp)

theorem Part.overlaysAscend.takeCycle {p : Part} (h : p.overlaysAscend) (w : BitVec 23) (a : Access) :
    (p.takeCycle w a).overlaysAscend := by
  rw [Part.takeCycle.eq_def]
  split
  · exact h.of_contexts (by simp)
  · exact h.of_contexts (by simp)
  next b _ =>
    rw [Part.takeWrite]
    split
    · exact h.of_contexts (by simp)
    · exact h.of_contexts (by simp)
    next n k _ => exact (h.contextWrite n k b).of_contexts (by simp)
    next record k _ => exact (h.journalWrite record k b).of_contexts (by simp)
    · exact h.of_contexts (by simp)
  · exact h.of_contexts (by simp)

theorem Part.overlaysAscend.takeWaiting {p : Part} (h : p.overlaysAscend) : p.takeWaiting.overlaysAscend := by
  rw [Part.takeWaiting]
  split
  · exact h
  · refine Part.overlaysAscend.takeCycle ?_ _ _
    exact h

theorem Part.overlaysAscend.noteSettled {p : Part} (h : p.overlaysAscend) (w : SettleWrite) :
    (p.noteSettled w).overlaysAscend := by
  rw [Part.noteSettled]
  split
  next amended => exact h.amendedWith _ _ ((h.held (.inl amended)).markWritten _)
  next => exact h

theorem Part.overlaysAscend.followSetup {p : Part} (h : p.overlaysAscend) (old : Setup) :
    (p.followSetup old).overlaysAscend := by
  have window (q : Part) (n : Fin 4) (hq : q.overlaysAscend) : (q.followWindow old n).overlaysAscend := by
    rw [Part.followWindow]
    split
    · exact hq.resetContext n
    · exact hq
  have windows := window _ 3 (window _ 2 (window _ 1 (window p 0 h)))
  exact windows.of_contexts (by simp [Part.followSetup])

theorem Part.overlaysAscend.commitEffects {p : Part} (h : p.overlaysAscend) (c : CommitPayload) :
    (p.commitEffects c).overlaysAscend := by
  have applied (q : Part) (hq : q.overlaysAscend) : (q.applySetup c.effects).overlaysAscend := by
    rw [Part.applySetup]
    split
    · split
      · exact hq
      · refine Part.overlaysAscend.followSetup ?_ _
        exact hq
    · exact hq
  exact (applied { p with store := p.store.commit c } h).of_contexts (by simp [Part.commitEffects])

theorem Part.overlaysAscend.mainFall {p : Part} (h : p.overlaysAscend) : p.mainFall.overlaysAscend := by
  have lost : p.mainLost.overlaysAscend := by
    refine Part.overlaysAscend_of_allEmpty _ ?_
    rw [Part.mainLost]
    dsimp only
    split <;> rfl
  rw [Part.mainFall]
  split
  · exact h.of_contexts (by simp)
  · exact h.of_contexts (by simp)
  all_goals exact lost

/-- Each operation keeps the overlays in ascending order. -/
theorem overlaysAscend_keptByOperations : KeptByOperations Part.overlaysAscend where
  finishCold _ h := h.of_contexts (by simp)
  walkStep _ _ h := h.of_contexts (by simp)
  arrive p w a h := by
    rw [Part.arrive]
    split
    · split
      · exact h
      · exact (h.takeCycle w a).grant
    · exact h
  endCycle _ h := h.of_contexts (by simp)
  startSettle _ h := h.of_contexts (by simp)
  completeSettle p h := by
    rw [Part.completeSettle]
    split
    · exact h
    · refine Part.overlaysAscend.grant (Part.overlaysAscend.takeWaiting (Part.overlaysAscend.noteSettled ?_ _))
      exact h
  completeLookup p h := by
    rw [Part.completeLookup]
    split
    · refine Part.overlaysAscend.grant ?_
      split
      · exact Part.overlaysAscend.decideLookup (p := p.tableFree) h _ _ _
      · exact h
    · exact h
  completeMark _ h := h.of_contexts (by simp)
  completeStageEntry _ h := h.of_contexts (by simp)
  completeStagePass _ h := h.of_contexts (by simp)
  completeCommit p h := by
    rw [Part.completeCommit]
    split
    next c _ =>
      refine Part.overlaysAscend.of_contexts (Part.overlaysAscend.commitEffects (p := p.tableFree) h c) ?_
      rw [Part.intakeAnswered]
      split <;> simp
    next => exact h
  completeDiscard _ h := h.of_contexts (by simp)
  completeSweepStep _ h := h.of_contexts (by simp)
  takeRelease _ h := h.of_contexts (by simp)
  expireHold p h := by
    rw [Part.expireHold]
    split
    next n _ _ => exact (h.abandon n).of_contexts (by simp)
    next => exact h
  expireIntakeHold _ h := h.of_contexts (by simp)
  expireAwait p n h := by
    rw [Part.expireAwait]
    split
    next pr amended =>
      split
      · refine Part.overlaysAscend.withContext (h.of_contexts (by simp)) n _ ?_
        have ascends : pr.ascends := h.held (.inl amended)
        exact (Context.ascends_amended _).mpr ascends
      · exact h
    · split
      · refine Part.overlaysAscend.grant (Part.overlaysAscend.withContext (h.of_contexts (by simp)) n _ (by simp))
      · exact h
    all_goals exact h
  expireAttention _ h := h.of_contexts (by simp)
  endSlot _ h := h.of_contexts (by simp)
  second _ h := h.of_contexts (by simp)
  lockoutEnds _ h := h.of_contexts (by simp)
  completeWalk p h := by
    rw [Part.completeWalk]
    split
    · exact Part.overlaysAscend_of_allEmpty _ (by simp [Part.enterRun, Part.volatileInit, allEmpty])
    · exact h
  mainGood _ _ h := h.of_contexts (by simp)
  mainFall _ h := h.mainFall
  keepGood _ h := h.of_contexts (by simp)
  keepLow _ h := h.of_contexts (by simp)
  keepLost _ h := h.of_contexts (by simp)
  assertReset p straps h := by
    rw [Part.assertReset]
    split
    case h_5 =>
      have contexts : p.landSettle.resetContexts.overlaysAscend :=
        Part.overlaysAscend.resetContexts (h.of_contexts (by simp))
      rw [Part.resetRun]
      refine Part.overlaysAscend.grant (Part.overlaysAscend.takeWaiting (contexts.of_contexts ?_))
      simp [Part.resetPath]
    all_goals exact h

end Sys2Proof.Machine

/-! PROOFS. Rest outside RUN (R178, R184): a part at rest is left so by every operation but the entry to RUN, and a fall of main
supply puts every block to rest. -/

namespace Sys2Proof.Machine

/-! ## What rest depends on -/

/-- Two parts with the same blocks but for the memory path, and a path that is quiet but for a cycle that is not held. -/
theorem Part.atRest.of_blocks {p q : Part} (h : p.atRest) (contexts : q.contexts = p.contexts)
    (journal : q.journal = p.journal) (arbiter : q.arbiter = p.arbiter) (intake : q.intake = p.intake)
    (sweep : q.sweep = p.sweep) (monitor : q.monitor = p.monitor) (hold : q.path.hold = none)
    (waiting : q.path.waiting = none) (settle : q.path.settleWrite = none)
    (cycle : ∀ c, q.path.cycle = some c → c.isHeld = false) : q.atRest := by
  obtain ⟨hContexts, hJournal, hArbiter, hIntake, hSweep, hMonitor, -⟩ := h
  rw [Part.atRest, contexts, journal, arbiter, intake, sweep, monitor]
  exact ⟨hContexts, hJournal, hArbiter, hIntake, hSweep, hMonitor, hold, waiting, settle, cycle⟩

/-- Two parts with the same blocks, the memory path among them. -/
theorem Part.atRest.of_same {p q : Part} (h : p.atRest) (contexts : q.contexts = p.contexts)
    (journal : q.journal = p.journal) (arbiter : q.arbiter = p.arbiter) (intake : q.intake = p.intake)
    (sweep : q.sweep = p.sweep) (monitor : q.monitor = p.monitor) (path : q.path = p.path) : q.atRest := by
  rw [Part.atRest, contexts, journal, arbiter, intake, sweep, monitor, path]
  exact h

/-- The blocks as the entry to RUN and a fall of main supply put them, on a quiet path, are at rest. -/
theorem Part.atRest_of_volatile (p : Part) (contexts : p.contexts = allEmpty) (journal : p.journal = none)
    (arbiter : p.arbiter = Arbiter.idle) (intake : p.intake = Intake.draining) (sweep : p.sweep = none)
    (monitor : p.monitor = Monitor.released) (window : Option FileWindow) (path : p.path = MemoryPath.quiet window) :
    p.atRest := by
  rw [Part.atRest, path]
  exact ⟨contexts, journal, arbiter, intake, sweep, monitor, rfl, rfl, rfl, by simp [MemoryPath.quiet]⟩

theorem Part.restsOutsideRun_of_run (p : Part) (h : p.supply = .run) : p.restsOutsideRun := fun outside => absurd h outside

/-! ## The blocks of a part at rest -/

section AtRest

variable {p : Part} (h : p.atRest)
include h

theorem Part.atRest.op_none : p.arbiter.op = none := by
  obtain ⟨-, -, arbiter, -⟩ := h
  rw [arbiter]
  rfl

theorem Part.atRest.releases_nil : p.arbiter.releases = [] := by
  obtain ⟨-, -, arbiter, -⟩ := h
  rw [arbiter]
  rfl

theorem Part.atRest.grant_eq : p.grant = p := by
  obtain ⟨-, -, arbiter, -⟩ := h
  exact p.claimsGranted_of_idle arbiter

theorem Part.atRest.context_eq (n : Fin 4) : p.context n = .empty := by
  obtain ⟨contexts, -⟩ := h
  rw [Part.context, contexts]
  fin_cases n <;> rfl

theorem Part.atRest.settleWrite_none : p.path.settleWrite = none := by
  obtain ⟨-, -, -, -, -, -, -, -, settle, -⟩ := h
  exact settle

theorem Part.atRest.waiting_none : p.path.waiting = none := by
  obtain ⟨-, -, -, -, -, -, -, waiting, -⟩ := h
  exact waiting

theorem Part.atRest.hold_none : p.path.hold = none := by
  obtain ⟨-, -, -, -, -, -, hold, -⟩ := h
  exact hold

theorem Part.atRest.cycle_not_held (c : Cycle) (cycle : p.path.cycle = some c) : c.isHeld = false := by
  obtain ⟨-, -, -, -, -, -, -, -, -, notHeld⟩ := h
  exact notHeld c cycle

theorem Part.atRest.monitor_eq : p.monitor = Monitor.released := by
  obtain ⟨-, -, -, -, -, monitor, -⟩ := h
  exact monitor

/-! ## Completions and timers find nothing to do -/

theorem Part.atRest.completeSettle_eq : p.completeSettle = p := by
  rw [Part.completeSettle, h.settleWrite_none]

theorem Part.atRest.completeLookup_eq : p.completeLookup = p := by
  rw [Part.completeLookup, h.op_none]

theorem Part.atRest.completeMark_eq : p.completeMark = p := by
  rw [Part.completeMark, h.op_none]

theorem Part.atRest.completeStageEntry_eq : p.completeStageEntry = p := by
  rw [Part.completeStageEntry, h.op_none]

theorem Part.atRest.completeStagePass_eq : p.completeStagePass = p := by
  rw [Part.completeStagePass, h.op_none]

theorem Part.atRest.completeCommit_eq : p.completeCommit = p := by
  rw [Part.completeCommit, h.op_none]

theorem Part.atRest.completeDiscard_eq : p.completeDiscard = p := by
  rw [Part.completeDiscard, h.op_none]

theorem Part.atRest.completeSweepStep_eq : p.completeSweepStep = p := by
  rw [Part.completeSweepStep, h.op_none]

theorem Part.atRest.takeRelease_eq : p.takeRelease = p := by
  rw [Part.takeRelease, h.op_none, h.releases_nil]

theorem Part.atRest.expireHold_eq : p.expireHold = p := by
  rw [Part.expireHold]
  split
  next held => exact absurd (h.cycle_not_held _ held) (by simp [Cycle.isHeld])
  next => rfl

theorem Part.atRest.expireIntakeHold_eq : p.expireIntakeHold = p := by
  rw [Part.expireIntakeHold]
  split
  next held => exact absurd (h.cycle_not_held _ held) (by simp [Cycle.isHeld])
  next => rfl

theorem Part.atRest.expireAwait_eq (n : Fin 4) : p.expireAwait n = p := by
  rw [Part.expireAwait, h.context_eq n]

theorem Part.atRest.expireAttention_eq : p.expireAttention = p := by
  rw [Part.expireAttention, h.monitor_eq]
  rfl

/-! ## Cycles and the crystal -/

theorem Part.atRest.carryRead_pass (w : BitVec 23) (l : Lanes) (o : Owner) : (p.carryRead w l o .pass).atRest := by
  refine h.of_blocks rfl rfl rfl rfl rfl rfl rfl h.waiting_none h.settleWrite_none fun c cycle => ?_
  obtain rfl := Option.some.inj cycle
  rfl

theorem Part.atRest.carryWrite_pass (w : BitVec 23) (b : LaneBytes) (o : Owner) : (p.carryWrite w b o .pass).atRest := by
  refine h.of_blocks rfl rfl rfl rfl rfl rfl rfl h.waiting_none h.settleWrite_none fun c cycle => ?_
  obtain rfl := Option.some.inj cycle
  rfl

theorem Part.atRest.takeCycle (outside : p.supply ≠ .run) (w : BitVec 23) (a : Access) : (p.takeCycle w a).atRest := by
  have region : p.region w = .outside := by rw [Part.region, if_neg outside]
  rw [Part.takeCycle.eq_def]
  split
  · rw [Part.takeRead, region]
    exact h.carryRead_pass w _ _
  · exact h.carryRead_pass w _ _
  · rw [Part.takeWrite, region]
    exact h.carryWrite_pass w _ _
  · exact h.carryWrite_pass w _ _

theorem Part.atRest.arrive (outside : p.supply ≠ .run) (w : BitVec 23) (a : Access) : (p.arrive w a).atRest := by
  have taken := h.takeCycle outside w a
  rw [Part.arrive, h.settleWrite_none]
  split
  · rw [taken.grant_eq]
    exact taken
  · exact h

theorem Part.atRest.endCycle : p.endCycle.atRest := by
  rw [Part.endCycle, h.hold_none]
  exact h.of_blocks rfl rfl rfl rfl rfl rfl h.hold_none h.waiting_none h.settleWrite_none (by simp)

/-- R143, R151: outside RUN the crystal moves the clock and nothing else. -/
theorem Part.atRest.crystalSecond (outside : p.supply ≠ .run) : p.crystalSecond.atRest := by
  rw [Part.crystalSecond]
  split
  · exact h
  rw [Part.advanceClock]
  split
  · exact h
  rw [Part.evaluateSchedule]
  split
  · rw [Part.scheduledTrigger, if_neg outside]
    exact h
  · exact h

/-! ## Supplies -/

theorem Part.atRest.quiet {q : Part} (window : Option FileWindow) (contexts : q.contexts = p.contexts)
    (journal : q.journal = p.journal) (arbiter : q.arbiter = p.arbiter) (intake : q.intake = p.intake)
    (sweep : q.sweep = p.sweep) (monitor : q.monitor = p.monitor) (path : q.path = MemoryPath.quiet window) :
    q.atRest :=
  h.of_blocks contexts journal arbiter intake sweep monitor (by rw [path]; rfl) (by rw [path]; rfl) (by rw [path]; rfl)
    (by simp [path, MemoryPath.quiet])

theorem Part.atRest.completeCold (c : ColdInit) : (p.completeCold c).atRest := by
  cases c with
  | atVkeep => exact h.of_same rfl rfl rfl rfl rfl rfl rfl
  | atVmain straps => exact h.quiet (some (fileWindowOf straps)) rfl rfl rfl rfl rfl rfl rfl

theorem Part.atRest.finishCold : p.finishCold.atRest := by
  obtain same | ⟨c, -, -, completed⟩ := p.finishCold_cases
  · rwa [same]
  · rw [completed]
    exact h.completeCold c

theorem Part.atRest.mainGoodNow (straps : BitVec 10) : (p.mainGoodNow straps).atRest := by
  rw [Part.mainGoodNow]
  split
  case h_2 =>
    split
    · exact h.quiet (some (fileWindowOf straps)) rfl rfl rfl rfl rfl rfl rfl
    · exact h
  all_goals exact h

theorem Part.atRest.mainGood (straps : BitVec 10) : (p.mainGood straps).atRest := by
  rw [Part.mainGood]
  split
  · exact h
  · exact h.finishCold.mainGoodNow straps
  · exact h.mainGoodNow straps

theorem Part.atRest.fallUnsupplied : p.fallUnsupplied.atRest :=
  h.of_same (by simp) (by simp) (by simp) (by simp) (by simp) (by simp) (by simp)

theorem Part.atRest.keepLow : p.keepLow.atRest := by
  have past : p.pastColdAtVkeep.atRest := by
    rw [Part.pastColdAtVkeep]
    split
    · exact h.finishCold
    · exact h
  rw [Part.keepLow_eq]
  split <;> exact past

theorem Part.atRest.sampleStraps (straps : BitVec 10) : (p.sampleStraps straps).atRest :=
  h.of_blocks rfl rfl rfl rfl rfl rfl h.hold_none h.waiting_none h.settleWrite_none h.cycle_not_held

end AtRest

theorem Part.mainLost_atRest (p : Part) : p.mainLost.atRest := by
  rw [Part.mainLost]
  dsimp only
  split <;> exact Part.atRest_of_volatile _ rfl rfl rfl rfl rfl rfl none rfl

/-! ## The operations -/

/-- An operation that keeps a part at rest outside RUN, and does not leave RUN. -/
theorem Part.restsOutsideRun.of_op {p q : Part} (h : p.restsOutsideRun) (rest : p.supply ≠ .run → p.atRest → q.atRest)
    (stays : p.supply = .run → q.supply = .run) : q.restsOutsideRun := by
  intro outside
  have before : p.supply ≠ .run := fun run => outside (stays run)
  exact rest before (h before)

theorem Part.restsOutsideRun.mainFall {p : Part} (h : p.restsOutsideRun) : p.mainFall.restsOutsideRun := by
  rw [Part.mainFall]
  split
  next off => exact fun _ => (h (by simp [off])).fallUnsupplied
  next keep => exact fun _ => (h (by simp [keep])).fallUnsupplied
  all_goals exact fun _ => p.mainLost_atRest

theorem Part.finishCold_of_run (p : Part) (h : p.supply = .run) : p.finishCold = p :=
  p.finishCold_of_supplied (by simp [h]) (by simp [h])

theorem Part.lockoutEnds_of_run (p : Part) (h : p.supply = .run) : p.lockoutEnds = p := by
  rw [Part.lockoutEnds, if_neg (by simp [h])]

theorem Part.mainGoodNow_of_run (p : Part) (straps : BitVec 10) (h : p.supply = .run) : p.mainGoodNow straps = p := by
  rw [Part.mainGoodNow, h]

theorem Part.mainGood_supply_of_run (p : Part) (straps : BitVec 10) (h : p.supply = .run) :
    (p.mainGood straps).supply = .run := by
  rw [Part.mainGood]
  split
  · exact h
  · rw [p.finishCold_of_run h, p.mainGoodNow_of_run straps h, h]
  · rw [p.mainGoodNow_of_run straps h, h]

theorem Part.keepLow_supply_of_run (p : Part) (h : p.supply = .run) : p.keepLow.supply = .run := by
  have past : p.pastColdAtVkeep = p := by
    rw [Part.pastColdAtVkeep]
    split
    · exact p.finishCold_of_run h
    · rfl
  rw [Part.keepLow_eq, past]
  split <;> exact h

theorem Part.keepLost_supply_of_run (p : Part) (h : p.supply = .run) : p.keepLost.supply = .run := by
  rw [Part.keepLost, if_neg (by simp [h])]
  exact h

/-- Each operation keeps a part outside RUN at rest. -/
theorem restsOutsideRun_keptByOperations : KeptByOperations Part.restsOutsideRun where
  finishCold p h := h.of_op (fun _ rest => rest.finishCold) (fun run => by rw [p.finishCold_of_run run, run])
  walkStep p _ h := h.of_op (fun _ rest => rest.of_same (by simp) (by simp) (by simp) (by simp) (by simp) (by simp)
    (by simp)) (by simp)
  arrive p w a h := h.of_op (fun outside rest => rest.arrive outside w a) (by simp)
  endCycle p h := h.of_op (fun _ rest => rest.endCycle) (by simp)
  startSettle p h := h.of_op (fun outside rest => by
    rw [Part.startSettle, if_neg (by simp [Part.mayPortSettle, outside])]
    exact rest) (by simp)
  completeSettle p h := h.of_op (fun _ rest => by rwa [rest.completeSettle_eq]) (by simp)
  completeLookup p h := h.of_op (fun _ rest => by rwa [rest.completeLookup_eq]) (by simp)
  completeMark p h := h.of_op (fun _ rest => by rwa [rest.completeMark_eq]) (by simp)
  completeStageEntry p h := h.of_op (fun _ rest => by rwa [rest.completeStageEntry_eq]) (by simp)
  completeStagePass p h := h.of_op (fun _ rest => by rwa [rest.completeStagePass_eq]) (by simp)
  completeCommit p h := h.of_op (fun _ rest => by rwa [rest.completeCommit_eq]) (by simp)
  completeDiscard p h := h.of_op (fun _ rest => by rwa [rest.completeDiscard_eq]) (by simp)
  completeSweepStep p h := h.of_op (fun _ rest => by rwa [rest.completeSweepStep_eq]) (by simp)
  takeRelease p h := h.of_op (fun _ rest => by rwa [rest.takeRelease_eq]) (by simp)
  expireHold p h := h.of_op (fun _ rest => by rwa [rest.expireHold_eq]) (by simp)
  expireIntakeHold p h := h.of_op (fun _ rest => by rwa [rest.expireIntakeHold_eq]) (by simp)
  expireAwait p n h := h.of_op (fun _ rest => by rwa [rest.expireAwait_eq n]) (by simp)
  expireAttention p h := h.of_op (fun _ rest => by rwa [rest.expireAttention_eq]) (by simp)
  endSlot p h := h.of_op (fun outside rest => by
    rw [Part.endSlot, if_neg outside]
    exact rest) (by simp)
  second p h := h.of_op (fun outside rest => by
    rw [(rest.crystalSecond outside).grant_eq]
    exact rest.crystalSecond outside) (by simp)
  lockoutEnds p h := h.of_op (fun _ rest => by
    rw [Part.lockoutEnds]
    split <;> exact rest) (fun run => by rw [p.lockoutEnds_of_run run, run])
  completeWalk p h := by
    rw [Part.completeWalk]
    split
    · exact Part.restsOutsideRun_of_run _ (Part.enterRun_supplies _).1
    · exact h
  mainGood p straps h := h.of_op (fun _ rest => rest.mainGood straps) (p.mainGood_supply_of_run straps)
  mainFall _ h := h.mainFall
  keepGood p h := h.of_op (fun _ rest => rest.of_same (by simp) (by simp) (by simp) (by simp) (by simp) (by simp)
    (by simp)) (by simp)
  keepLow p h := h.of_op (fun _ rest => rest.keepLow) p.keepLow_supply_of_run
  keepLost p h := h.of_op (fun _ rest => rest.of_same (by simp) (by simp) (by simp) (by simp) (by simp) (by simp)
    (by simp)) p.keepLost_supply_of_run
  assertReset p straps h := by
    rw [Part.assertReset]
    split
    case h_5 run => exact Part.restsOutsideRun_of_run _ (by simp [run])
    case h_3 lockout => exact fun _ => (h (by simp [lockout])).sampleStraps straps
    case h_4 verify => exact fun _ => (h (by simp [verify])).sampleStraps straps
    all_goals exact h

end Sys2Proof.Machine

/-! PROOFS. File intake and the processor's cycle between two commands (R30, R35 to R37, R165): a record waits only where an
operation of intake's or a discard owed keeps it waiting, and a cycle is held only with its hold. -/

namespace Sys2Proof.Machine

/-! ## The processor's cycle -/

/-- R165, R169: no cycle is in progress while one waits, and the hold runs with a held cycle and with no other. -/
def MemoryPath.honest (m : MemoryPath) : Prop :=
  (m.waiting ≠ none → m.cycle = none) ∧ ∀ c, m.cycle = some c → (c.isHeld = true ↔ m.hold ≠ none)

/-- Two states of the memory path that differ in nothing of the processor's cycle. -/
def MemoryPath.sameCycle (m k : MemoryPath) : Prop := k.cycle = m.cycle ∧ k.hold = m.hold ∧ k.waiting = m.waiting

theorem Part.sameCycle_of_path {p q : Part} (h : q.path = p.path) : p.path.sameCycle q.path := by
  rw [h]
  exact ⟨rfl, rfl, rfl⟩

theorem MemoryPath.sameCycle.trans {a b c : MemoryPath} (h : a.sameCycle b) (h' : b.sameCycle c) : a.sameCycle c :=
  ⟨h'.1.trans h.1, h'.2.1.trans h.2.1, h'.2.2.trans h.2.2⟩

theorem MemoryPath.honest.of_sameCycle {m k : MemoryPath} (h : m.honest) (same : m.sameCycle k) : k.honest := by
  obtain ⟨cycle, hold, waiting⟩ := same
  rw [MemoryPath.honest, cycle, hold, waiting]
  exact h

theorem MemoryPath.honest_of_noCycle (m : MemoryPath) (h : m.cycle = none) : m.honest := by
  simp [MemoryPath.honest, h]

/-- The cycle in progress replaced by one whose hold stands with it. -/
theorem MemoryPath.honest_carrying (m : MemoryPath) (c : Cycle) (hold : Option Nat) (pd : LaneBytes)
    (waiting : m.waiting = none) (held : c.isHeld = true ↔ hold ≠ none) : (m.carrying c hold pd).honest := by
  refine ⟨fun waits => absurd waiting waits, fun d carried => ?_⟩
  obtain rfl := Option.some.inj carried
  exact held

/-- Where a cycle is in progress none waits. -/
theorem MemoryPath.honest.waiting_none {m : MemoryPath} (h : m.honest) {c : Cycle} (cycle : m.cycle = some c) :
    m.waiting = none := by
  by_contra waits
  exact absurd ((h.1 waits).symm.trans cycle) (by simp)

theorem Part.carryRead_path (p : Part) (w : BitVec 23) (l : Lanes) (o : Owner) (a : ReadAnswer) :
    ∃ hold pd, (p.carryRead w l o a).path = p.path.carrying ⟨w, o, .read l a⟩ hold pd ∧ (a = .hold ↔ hold ≠ none) := by
  cases a with
  | hold => exact ⟨_, _, rfl, by simp⟩
  | _ => exact ⟨_, _, rfl, by simp⟩

theorem Part.carryWrite_path (p : Part) (w : BitVec 23) (b : LaneBytes) (o : Owner) (a : WriteAnswer) :
    ∃ hold pd, (p.carryWrite w b o a).path = p.path.carrying ⟨w, o, .write b a⟩ hold pd ∧ (a = .hold ↔ hold ≠ none) := by
  cases a with
  | hold => exact ⟨_, _, rfl, by simp⟩
  | _ => exact ⟨_, _, rfl, by simp⟩

theorem Part.carryRead_honest (p : Part) (w : BitVec 23) (l : Lanes) (o : Owner) (a : ReadAnswer)
    (waiting : p.path.waiting = none) : (p.carryRead w l o a).path.honest := by
  obtain ⟨hold, pd, carried, held⟩ := p.carryRead_path w l o a
  rw [carried]
  exact MemoryPath.honest_carrying _ _ hold pd waiting (by simpa [Cycle.isHeld] using held)

theorem Part.carryWrite_honest (p : Part) (w : BitVec 23) (b : LaneBytes) (o : Owner) (a : WriteAnswer)
    (waiting : p.path.waiting = none) : (p.carryWrite w b o a).path.honest := by
  obtain ⟨hold, pd, carried, held⟩ := p.carryWrite_path w b o a
  rw [carried]
  exact MemoryPath.honest_carrying _ _ hold pd waiting (by simpa [Cycle.isHeld] using held)

theorem Part.releaseHeldWrite_honest (p : Part) (h : p.path.honest) : p.releaseHeldWrite.path.honest := by
  rw [Part.releaseHeldWrite]
  split
  next cycle => exact p.carryWrite_honest _ _ _ _ (h.waiting_none cycle)
  next => exact h

theorem Part.releaseHeldWrite_of_noCycle (p : Part) (h : p.path.cycle = none) : p.releaseHeldWrite = p := by
  rw [Part.releaseHeldWrite]
  split
  next cycle => exact absurd (h.symm.trans cycle) (by simp)
  next => rfl

/-! ## The contexts leave the processor's cycle -/

theorem Part.disownSettle_cycle (p : Part) (n : Fin 4) : p.path.sameCycle (p.disownSettle n).path := ⟨rfl, rfl, rfl⟩

theorem Part.dropPresentation_cycle (p : Part) (n : Fin 4) (pr : Presentation) :
    p.path.sameCycle (p.dropPresentation n pr).path := by
  have same : (p.dropPresentation n pr).path = (p.disownSettle n).path := by
    rw [Part.dropPresentation]
    split <;> simp
  exact (p.disownSettle_cycle n).trans (Part.sameCycle_of_path same)

theorem Part.abandon_cycle (p : Part) (n : Fin 4) : p.path.sameCycle (p.abandon n).path := by
  rw [Part.abandon]
  split
  · exact Part.sameCycle_of_path rfl
  · exact Part.sameCycle_of_path rfl
  · exact Part.sameCycle_of_path (by simp)
  · exact (p.dropPresentation_cycle n _).trans (Part.sameCycle_of_path rfl)
  · exact (p.dropPresentation_cycle n _).trans (Part.sameCycle_of_path rfl)

theorem Part.contextWrite_cycle (p : Part) (n : Fin 4) (k : Nat) (b : LaneBytes) :
    p.path.sameCycle (p.contextWrite n k b).1.path := by
  have overtaken : p.path.sameCycle ((p.abandon n).beginPresentation n b).path := p.abandon_cycle n
  rw [Part.contextWrite]
  split
  · dsimp only
    split <;> exact Part.sameCycle_of_path (by simp)
  · dsimp only
    split <;> exact Part.sameCycle_of_path (by simp)
  · dsimp only
    split
    · exact overtaken
    · exact Part.sameCycle_of_path (by simp)
  all_goals
    split
    · exact overtaken
    · split <;> exact Part.sameCycle_of_path (by simp)

/-! ## What intake keeps between two commands -/

/-- R30, R41: intake waits for an answer, or for the moment to order a discard. -/
def Part.intakeBlocked (p : Part) : Prop := p.intakeOutstanding = true ∨ p.intake.discardOwed = true

/-- R36: a record is held only with its write. -/
def Part.heldWithWrite (p : Part) : Prop :=
  p.intake.held ≠ none → ∃ w b, p.path.cycle = some ⟨w, .fileIntake, .write b .hold⟩

/-- What intake and the processor's cycle keep while intake still has work to do. -/
structure Part.intakeReady (p : Part) : Prop where
  room : p.intake.buffer.length ≤ 2
  written : p.heldWithWrite
  path : p.path.honest

theorem Part.intakeWaits_iff (p : Part) :
    p.intakeWaits ↔ p.intakeReady ∧ (p.intake.buffer ≠ [] → p.intakeBlocked) := by
  constructor
  · rintro ⟨room, blocked, written, waiting, held⟩
    exact ⟨⟨room, written, waiting, held⟩, blocked⟩
  · rintro ⟨⟨room, written, waiting, held⟩, blocked⟩
    exact ⟨room, blocked, written, waiting, held⟩

theorem Part.intakeWaits.ready {p : Part} (h : p.intakeWaits) : p.intakeReady := (p.intakeWaits_iff.mp h).1

theorem Part.intakeBlocked_of_sameClaims {p q : Part} (h : p.intakeBlocked) (claims : p.arbiter.sameClaims q.arbiter)
    (owed : q.intake.discardOwed = p.intake.discardOwed) : q.intakeBlocked := by
  rw [Part.intakeBlocked, Part.intakeOutstanding, Part.intakeRunning_eq, claims.1, claims.2, owed]
  exact h

theorem Part.heldWithWrite.of_same {p q : Part} (h : p.heldWithWrite) (held : q.intake.held = p.intake.held)
    (cycle : q.path.cycle = p.path.cycle) : q.heldWithWrite := by
  rw [Part.heldWithWrite, held, cycle]
  exact h

theorem Part.heldWithWrite_of_none (p : Part) (h : p.intake.held = none) : p.heldWithWrite := fun held => absurd h held

theorem Part.intakeReady.of_same {p q : Part} (h : p.intakeReady) (intake : q.intake = p.intake)
    (cycle : p.path.sameCycle q.path) : q.intakeReady :=
  ⟨by rw [intake]; exact h.room, h.written.of_same (by rw [intake]) cycle.1, h.path.of_sameCycle cycle⟩

/-- A change of anything but intake, its claims and the processor's cycle. -/
theorem Part.intakeWaits.of_same {p q : Part} (h : p.intakeWaits) (claims : p.arbiter.sameClaims q.arbiter)
    (intake : q.intake = p.intake) (cycle : p.path.sameCycle q.path) : q.intakeWaits := by
  obtain ⟨ready, blocked⟩ := p.intakeWaits_iff.mp h
  refine q.intakeWaits_iff.mpr ⟨ready.of_same intake cycle, fun buffered => ?_⟩
  exact Part.intakeBlocked_of_sameClaims (blocked (by rw [← intake]; exact buffered)) claims (by rw [intake])

/-- Where no cycle is in progress no record is held. -/
theorem Part.heldWithWrite.held_none {p : Part} (h : p.heldWithWrite) (cycle : p.path.cycle = none) :
    p.intake.held = none := by
  by_contra held
  obtain ⟨w, b, write⟩ := h held
  exact absurd (cycle.symm.trans write) (by simp)

/-- Where the cycle in progress is not a held intake write no record is held. -/
theorem Part.heldWithWrite.held_none_of_read {p : Part} (h : p.heldWithWrite) {w : BitVec 23} {o : Owner} {l : Lanes}
    {a : ReadAnswer} (cycle : p.path.cycle = some ⟨w, o, .read l a⟩) : p.intake.held = none := by
  by_contra held
  obtain ⟨v, b, write⟩ := h held
  exact absurd (cycle.symm.trans write) (by simp)

theorem Part.atRest.intakeWaits {p : Part} (h : p.atRest) : p.intakeWaits := by
  have notHeld := h.cycle_not_held
  have honest : p.path.honest :=
    ⟨fun waits => absurd h.waiting_none waits, fun c cycle => by simp [notHeld c cycle, h.hold_none]⟩
  obtain ⟨-, -, -, intake, -⟩ := h
  refine p.intakeWaits_iff.mpr ⟨⟨?_, p.heldWithWrite_of_none ?_, honest⟩, ?_⟩
  all_goals simp [intake, Intake.draining]

theorem Part.grant_blocked {p : Part} (h : p.intakeBlocked) : p.grant.intakeBlocked := by
  obtain same | ⟨-, -, running, waited⟩ := p.grant_claims
  · exact Part.intakeBlocked_of_sameClaims h same (by simp)
  · refine .inl ?_
    rw [Part.intakeOutstanding, Part.intakeRunning_eq, running]
    cases claim : p.arbiter.intake with
    | none => exact absurd claim waited
    | some c => simp

theorem Part.intakeWaits.grant {p : Part} (h : p.intakeWaits) : p.grant.intakeWaits := by
  obtain ⟨ready, blocked⟩ := p.intakeWaits_iff.mp h
  refine Part.intakeWaits_iff _ |>.mpr ⟨ready.of_same (by simp) (Part.sameCycle_of_path (by simp)), fun buffered => ?_⟩
  exact Part.grant_blocked (blocked (by simpa using buffered))

/-! ## Intake's work -/

theorem Part.claimIntake_blocked (p : Part) (c : IntakeClaim) : (p.claimIntake c).intakeBlocked :=
  .inl (by simp [Part.intakeOutstanding])

theorem Part.orderDiscard_blocked (p : Part) : p.orderDiscard.intakeBlocked := by
  rw [Part.orderDiscard]
  split
  · exact p.claimIntake_blocked .discard
  · exact .inr rfl

theorem Part.refuse_blocked (p : Part) (reason : FileRefusal) : (p.refuse reason).intakeBlocked :=
  (p.endFile .draining).orderDiscard_blocked

theorem Part.orderDiscard_buffers (p : Part) : p.orderDiscard.intake.buffer = p.intake.buffer
    ∧ p.orderDiscard.intake.held = p.intake.held := by
  rw [Part.orderDiscard]
  split <;> exact ⟨rfl, rfl⟩

/-- R41: a refused file leaves nothing buffered or held. -/
theorem Part.refuse_buffers (p : Part) (reason : FileRefusal) :
    (p.refuse reason).intake.buffer = [] ∧ (p.refuse reason).intake.held = none :=
  (p.endFile .draining).orderDiscard_buffers

theorem Part.endFile_path (p : Part) (state : IntakeState) : (p.endFile state).path = p.releaseHeldWrite.path := rfl

theorem Part.refuse_path (p : Part) (reason : FileRefusal) : (p.refuse reason).path = p.releaseHeldWrite.path := by
  have same : (p.refuse reason).path = (p.endFile .draining).orderDiscard.path := rfl
  rw [same, ← p.endFile_path .draining]
  simp

theorem Part.refuse_ready (p : Part) (reason : FileRefusal) (h : p.path.honest) : (p.refuse reason).intakeReady := by
  obtain ⟨buffer, held⟩ := p.refuse_buffers reason
  refine ⟨by simp [buffer], Part.heldWithWrite_of_none _ held, ?_⟩
  rw [p.refuse_path]
  exact p.releaseHeldWrite_honest h

theorem Part.dealWith_path (p : Part) (r : FileRecord) (c : Checked) : (p.dealWith r c).path = p.path := by
  rw [Part.dealWith.eq_def]
  split <;> rfl

/-- R37 to R45: a good record dealt with leaves the buffer, or an operation claimed for it keeps it waiting. -/
theorem Part.dealWith_buffers (p : Part) (r : FileRecord) (c : Checked)
    (header : p.intake.staging = none → ∃ n k x, c = .header n k x) :
    (p.dealWith r c).intake.held = p.intake.held
      ∧ ((p.dealWith r c).intake.buffer = p.intake.buffer.tail
        ∨ (p.dealWith r c).intake.buffer = p.intake.buffer ∧ (p.dealWith r c).intakeBlocked) := by
  rw [Part.dealWith.eq_def]
  split
  · exact ⟨rfl, .inl rfl⟩
  · exact ⟨rfl, .inr ⟨rfl, Part.claimIntake_blocked _ _⟩⟩
  · exact ⟨rfl, .inr ⟨rfl, Part.claimIntake_blocked _ _⟩⟩
  · exact ⟨rfl, .inl rfl⟩
  · exact ⟨rfl, .inr ⟨rfl, Part.claimIntake_blocked _ _⟩⟩
  all_goals
    next none =>
      obtain ⟨_, _, _, made⟩ := header none
      cases made

/-- R37: what becomes of the buffer as its head record is taken: nothing where intake waits; else it is dealt with. -/
theorem Part.takeHead_buffers (p : Part) :
    p.takeHead = p ∧ (p.intake.buffer = [] ∨ p.intakeBlocked)
      ∨ p.takeHead.intake.buffer = [] ∧ p.takeHead.intake.held = none ∧ p.takeHead.intakeBlocked
          ∧ p.takeHead.path = p.releaseHeldWrite.path
      ∨ p.takeHead.intake.held = p.intake.held ∧ p.takeHead.path = p.path
          ∧ (p.takeHead.intake.buffer = p.intake.buffer.tail
            ∨ p.takeHead.intake.buffer = p.intake.buffer ∧ p.takeHead.intakeBlocked) := by
  obtain same | ⟨r, rest, -, -, -, ⟨reason, -, refused⟩ | ⟨c, good, dealt⟩⟩ := p.takeHead_cases
  · exact .inl same
  · obtain ⟨buffer, held⟩ := p.refuse_buffers reason
    exact .inr (.inl (refused ▸ ⟨buffer, held, p.refuse_blocked reason, p.refuse_path reason⟩))
  · obtain ⟨held, buffer⟩ := p.dealWith_buffers r c fun none =>
      checkRecord_ok_without_staging p.fileNumber p.path.fileWindow r c (none ▸ good)
    exact .inr (.inr (dealt ▸ ⟨held, p.dealWith_path r c, buffer⟩))

theorem Part.takeHead_room {p : Part} (h : p.intake.buffer.length ≤ 2) : p.takeHead.intake.buffer.length ≤ 2 := by
  obtain ⟨same, -⟩ | ⟨buffer, -⟩ | ⟨-, -, shorter | ⟨same, -⟩⟩ := p.takeHead_buffers
  · rwa [same]
  · simp [buffer]
  · rw [shorter, List.length_tail]
    omega
  · rwa [same]

/-- R36: a held record joins a buffer that has room, its write released; otherwise nothing happens. -/
theorem Part.admitHeld_cases (p : Part) :
    p.admitHeld = p ∧ (p.intake.held = none ∨ 2 ≤ p.intake.buffer.length)
      ∨ p.intake.buffer.length ≤ 1 ∧ p.admitHeld.intake.buffer.length = p.intake.buffer.length + 1
          ∧ p.admitHeld.intake.held = none ∧ p.admitHeld.intake.discardOwed = p.intake.discardOwed
          ∧ p.admitHeld.path = p.releaseHeldWrite.path := by
  rw [Part.admitHeld]
  split
  next none => exact .inl ⟨rfl, .inl none⟩
  split
  next free =>
    simp only [Config.bufferSize] at free
    exact .inr ⟨by omega, by simp, rfl, by simp, rfl⟩
  next full =>
    simp only [Config.bufferSize] at full
    exact .inl ⟨rfl, .inr (by omega)⟩

theorem Part.admitHeld_room {p : Part} (h : p.intake.buffer.length ≤ 2) : p.admitHeld.intake.buffer.length ≤ 2 := by
  obtain ⟨same, -⟩ | ⟨free, longer, -⟩ := p.admitHeld_cases
  · rwa [same]
  · omega

theorem Part.takeHead_ready {p : Part} (h : p.intakeReady) : p.takeHead.intakeReady := by
  obtain ⟨same, -⟩ | ⟨-, held, -, path⟩ | ⟨held, path, -⟩ := p.takeHead_buffers
  · rwa [same]
  · refine ⟨Part.takeHead_room h.room, Part.heldWithWrite_of_none _ held, ?_⟩
    rw [path]
    exact p.releaseHeldWrite_honest h.path
  · exact ⟨Part.takeHead_room h.room, h.written.of_same held (by rw [path]), path ▸ h.path⟩

theorem Part.admitHeld_ready {p : Part} (h : p.intakeReady) : p.admitHeld.intakeReady := by
  obtain ⟨same, -⟩ | ⟨-, -, held, -, path⟩ := p.admitHeld_cases
  · rwa [same]
  · refine ⟨Part.admitHeld_room h.room, Part.heldWithWrite_of_none _ held, ?_⟩
    rw [path]
    exact p.releaseHeldWrite_honest h.path

theorem Part.admitHeld_blocked {p : Part} (h : p.intakeBlocked) : p.admitHeld.intakeBlocked := by
  obtain ⟨same, -⟩ | ⟨-, -, -, owed, -⟩ := p.admitHeld_cases
  · rwa [same]
  · exact Part.intakeBlocked_of_sameClaims h (Part.sameClaims_of_arbiter p.admitHeld_arbiter) owed

theorem Part.takeHead_blocked {p : Part} (h : p.intakeBlocked) : p.takeHead.intakeBlocked := by
  obtain ⟨same, -⟩ | ⟨-, -, blocked, -⟩ | ⟨held, path, buffer⟩ := p.takeHead_buffers
  · rwa [same]
  · exact blocked
  · obtain ⟨same, -⟩ | ⟨r, rest, -, nothing, notOwed, -⟩ := p.takeHead_cases
    · rwa [same]
    · obtain outstanding | owed := h
      · exact absurd (nothing.symm.trans outstanding) (by simp)
      · exact absurd (notOwed.symm.trans owed) (by simp)

/-- Intake waits, or has `n` records at most still to take, and none held. -/
def Part.recordsLeft (p : Part) (n : Nat) : Prop :=
  p.intakeBlocked ∨ p.intake.held = none ∧ p.intake.buffer.length ≤ n

theorem Part.admitHeld_of_none (p : Part) (h : p.intake.held = none) : p.admitHeld = p := by
  rw [Part.admitHeld, h]

/-- The first record taken makes room for a record held. -/
theorem Part.recordsLeft_first {p : Part} (room : p.intake.buffer.length ≤ 2) : p.takeHead.admitHeld.recordsLeft 2 := by
  have settled {q : Part} (short : q.intake.buffer.length ≤ 1) : q.admitHeld.recordsLeft 2 := by
    refine .inr ⟨?_, Part.admitHeld_room (by omega)⟩
    obtain ⟨same, none | full⟩ | ⟨-, -, held, -⟩ := q.admitHeld_cases
    · rwa [same]
    · omega
    · exact held
  obtain ⟨same, empty | blocked⟩ | ⟨-, -, blocked, -⟩ | ⟨-, -, shorter | ⟨-, blocked⟩⟩ := p.takeHead_buffers
  · exact settled (by rw [same, empty]; simp)
  · exact .inl (Part.admitHeld_blocked (same.symm ▸ blocked))
  · exact .inl (Part.admitHeld_blocked blocked)
  · refine settled ?_
    rw [shorter, List.length_tail]
    omega
  · exact .inl (Part.admitHeld_blocked blocked)

/-- Each record taken after the first leaves one fewer. -/
theorem Part.recordsLeft.next {p : Part} {n : Nat} (h : p.recordsLeft (n + 1)) : p.takeHead.admitHeld.recordsLeft n := by
  obtain blocked | ⟨held, few⟩ := h
  · exact .inl (Part.admitHeld_blocked (Part.takeHead_blocked blocked))
  obtain ⟨same, empty | blocked⟩ | ⟨-, -, blocked, -⟩ | ⟨held', -, shorter | ⟨-, blocked⟩⟩ := p.takeHead_buffers
  · rw [same, p.admitHeld_of_none held]
    exact .inr ⟨held, by simp [empty]⟩
  · exact .inl (Part.admitHeld_blocked (same.symm ▸ blocked))
  · exact .inl (Part.admitHeld_blocked blocked)
  · rw [Part.admitHeld_of_none _ (held'.trans held)]
    refine .inr ⟨held'.trans held, ?_⟩
    rw [shorter, List.length_tail]
    omega
  · exact .inl (Part.admitHeld_blocked blocked)

/-- R37: intake's work leaves nothing buffered that it could still take. -/
theorem Part.intakeWork_blocked {p : Part} (room : p.intake.buffer.length ≤ 2) (buffered : p.intakeWork.intake.buffer ≠ []) :
    p.intakeWork.intakeBlocked := by
  have left : p.intakeWork.recordsLeft 0 := (Part.recordsLeft_first room).next.next
  obtain blocked | ⟨-, none⟩ := left
  · exact blocked
  · exact absurd (List.length_eq_zero_iff.mp (Nat.le_zero.mp none)) buffered

theorem Part.intakeReady.intakeWork {p : Part} (h : p.intakeReady) : p.intakeWork.intakeWaits :=
  Part.intakeWaits_iff _ |>.mpr
    ⟨Part.intakeWork_induction (P := Part.intakeReady) (fun _ h => Part.takeHead_ready h)
      (fun _ h => Part.admitHeld_ready h) p h, Part.intakeWork_blocked h.room⟩

/-! ## Writes into the window -/

theorem Part.refuse_path_of_noCycle (p : Part) (reason : FileRefusal) (h : p.path.cycle = none) :
    (p.refuse reason).path = p.path := by
  rw [p.refuse_path, p.releaseHeldWrite_of_noCycle h]

theorem Part.completeRecord_room (p : Part) (word : Nat) (r : FileRecord) (h : p.intake.buffer.length ≤ 2) :
    (p.completeRecord word r).intake.buffer.length ≤ 2 := by
  by_cases free : p.intake.buffer.length < 2
  · simp [Part.completeRecord, Config.bufferSize, free]
  · simpa [Part.completeRecord, Config.bufferSize, free] using h

theorem Part.acceptWord_room (p : Part) (word : Nat) (written b : LaneBytes) (h : p.intake.buffer.length ≤ 2) :
    (p.acceptWord word written b).intake.buffer.length ≤ 2 := by
  simp only [Part.acceptWord]
  split
  · exact h
  split
  · exact p.completeRecord_room _ _ h
  · exact h

theorem Part.beginFile_room (p : Part) (b : LaneBytes) (h : p.intake.buffer.length ≤ 2) :
    (p.beginFile b).intake.buffer.length ≤ 2 := by
  rw [Part.beginFile]
  refine Part.acceptWord_room _ 0 noBytes b ?_
  split
  · split
    · exact h
    · simp [(p.refuse_buffers .abandoned).1]
  · exact h

theorem Part.beginFile_path (p : Part) (b : LaneBytes) (h : p.path.cycle = none) : (p.beginFile b).path = p.path := by
  have refused := p.refuse_path_of_noCycle .abandoned h
  simp only [Part.beginFile, Part.acceptWord_keeps]
  split
  · split
    · rfl
    · exact refused
  · rfl

theorem Part.followWrite_room (p : Part) (word : Nat) (b : LaneBytes) (h : p.intake.buffer.length ≤ 2) :
    (p.followWrite word b).intake.buffer.length ≤ 2 := by
  have began := p.beginFile_room b h
  rw [Part.followWrite]
  split
  · split
    · exact p.acceptWord_room _ _ b h
    · split
      · exact began
      · simp [(p.refuse_buffers .order).1]
  all_goals
    split
    · exact began
    · exact h

theorem Part.followWrite_path (p : Part) (word : Nat) (b : LaneBytes) (h : p.path.cycle = none) :
    (p.followWrite word b).path = p.path := by
  have began := p.beginFile_path b h
  rw [Part.followWrite]
  split
  · split
    · simp
    · split
      · exact began
      · exact p.refuse_path_of_noCycle .order h
  all_goals
    split
    · exact began
    · rfl

theorem Part.takeHead_path (p : Part) (h : p.path.cycle = none) : p.takeHead.path = p.path := by
  obtain ⟨same, -⟩ | ⟨-, -, -, path⟩ | ⟨-, path, -⟩ := p.takeHead_buffers
  · rw [same]
  · rw [path, p.releaseHeldWrite_of_noCycle h]
  · exact path

theorem Part.admitHeld_path (p : Part) (h : p.path.cycle = none) : p.admitHeld.path = p.path := by
  obtain ⟨same, -⟩ | ⟨-, -, -, -, path⟩ := p.admitHeld_cases
  · rw [same]
  · rw [path, p.releaseHeldWrite_of_noCycle h]

/-- While no cycle is in progress intake's work leaves the memory path alone. -/
theorem Part.fileWrite_path (p : Part) (word : Nat) (b : LaneBytes) (h : p.path.cycle = none) :
    (p.fileWrite word b).path = p.path := by
  refine Part.intakeWork_induction (P := fun q => q.path = p.path) (fun q same => ?_) (fun q same => ?_) _
    (p.followWrite_path word b h)
  · rw [q.takeHead_path (by rw [same]; exact h), same]
  · rw [q.admitHeld_path (by rw [same]; exact h), same]

/-- R36: a file-window write, held with the record it completed where that found no place. -/
theorem Part.intakeWaits_fileWrite {p : Part} (h : p.intakeReady) (cycle : p.path.cycle = none)
    (waiting : p.path.waiting = none) (w : BitVec 23) (word : Nat) (b : LaneBytes) :
    ((p.fileWrite word b).carryWrite w b .fileIntake
      (if (p.fileWrite word b).intake.held.isSome then .hold else .pass)).intakeWaits := by
  have room := p.followWrite_room word b h.room
  have path := p.fileWrite_path word b cycle
  refine Part.intakeWaits_iff _ |>.mpr ⟨⟨?_, ?_, ?_⟩, ?_⟩
  · have kept : (p.fileWrite word b).intake.buffer.length ≤ 2 :=
      Part.intakeWork_induction (P := fun q => q.intake.buffer.length ≤ 2) (fun _ h => Part.takeHead_room h)
        (fun _ h => Part.admitHeld_room h) _ room
    simpa using kept
  · intro held
    have isSome : (p.fileWrite word b).intake.held.isSome = true := Option.isSome_iff_ne_none.mpr (by simpa using held)
    refine ⟨w, b, ?_⟩
    rw [if_pos isSome]
    rfl
  · exact Part.carryWrite_honest _ _ _ _ _ (by rw [path]; exact waiting)
  · intro buffered
    have left : (p.fileWrite word b).intake.buffer ≠ [] := by simpa using buffered
    have blocked : (p.fileWrite word b).intakeBlocked := Part.intakeWork_blocked room left
    exact Part.intakeBlocked_of_sameClaims blocked (Part.sameClaims_of_arbiter (by simp)) (by simp)

end Sys2Proof.Machine

/-! PROOFS. Each operation keeps what file intake and the processor's cycle keep between two commands; with it the bounds
and the rest of O57. -/

namespace Sys2Proof.Machine

/-! ## Cycles taken -/

/-- A cycle carried for another block than intake, where none was in progress. -/
theorem Part.intakeWaits.of_carried {p q : Part} (h : p.intakeWaits) (cycle : p.path.cycle = none)
    (claims : p.arbiter.sameClaims q.arbiter) (intake : q.intake = p.intake) (honest : q.path.honest) : q.intakeWaits := by
  obtain ⟨ready, blocked⟩ := p.intakeWaits_iff.mp h
  have held : q.intake.held = none := by rw [intake]; exact ready.written.held_none cycle
  refine q.intakeWaits_iff.mpr ⟨⟨by rw [intake]; exact ready.room, q.heldWithWrite_of_none held, honest⟩, ?_⟩
  exact fun buffered =>
    Part.intakeBlocked_of_sameClaims (blocked (by rw [← intake]; exact buffered)) claims (by rw [intake])

theorem Part.intakeWaits.takeRead {p : Part} (h : p.intakeWaits) (cycle : p.path.cycle = none)
    (waiting : p.path.waiting = none) (w : BitVec 23) (l : Lanes) : (p.takeRead w l).intakeWaits := by
  have carried (o : Owner) (a : ReadAnswer) : (p.carryRead w l o a).intakeWaits :=
    h.of_carried cycle (Part.sameClaims_of_arbiter (by simp)) (by simp) (p.carryRead_honest w l o a waiting)
  rw [Part.takeRead]
  split <;> exact carried _ _

/-- A write carried for another block than intake, once that block has seen it. -/
theorem Part.intakeWaits.carryWrite_after {p q : Part} (h : p.intakeWaits) (cycle : p.path.cycle = none)
    (waiting : p.path.waiting = none) (claims : p.arbiter.sameClaims q.arbiter) (intake : q.intake = p.intake)
    (path : p.path.sameCycle q.path) (w : BitVec 23) (b : LaneBytes) (o : Owner) (a : WriteAnswer) :
    (q.carryWrite w b o a).intakeWaits :=
  h.of_carried cycle (claims.trans (Part.sameClaims_of_arbiter (by simp))) (by simp [intake])
    (q.carryWrite_honest w b o a (path.2.2.trans waiting))

theorem Part.intakeWaits.takeWrite {p : Part} (h : p.intakeWaits) (cycle : p.path.cycle = none)
    (waiting : p.path.waiting = none) (w : BitVec 23) (b : LaneBytes) : (p.takeWrite w b).intakeWaits := by
  have carried {q : Part} (claims : p.arbiter.sameClaims q.arbiter) (intake : q.intake = p.intake)
      (path : p.path.sameCycle q.path) (o : Owner) (a : WriteAnswer) : (q.carryWrite w b o a).intakeWaits :=
    h.carryWrite_after cycle waiting claims intake path w b o a
  rw [Part.takeWrite]
  split
  · exact carried (Arbiter.sameClaims_refl _) rfl (Part.sameCycle_of_path rfl) _ _
  · exact Part.intakeWaits_fileWrite h.ready cycle waiting w _ b
  · exact carried (p.contextWrite_claims _ _ _) (by simp) (p.contextWrite_cycle _ _ _) _ _
  · exact carried (p.journalWrite_claims _ _ _) (by simp) (Part.sameCycle_of_path (by simp)) _ _
  · exact carried (Part.sameClaims_of_arbiter (by simp)) (by simp) (Part.sameCycle_of_path (by simp)) _ _

theorem Part.intakeWaits.takeCycle {p : Part} (h : p.intakeWaits) (cycle : p.path.cycle = none)
    (waiting : p.path.waiting = none) (w : BitVec 23) (a : Access) : (p.takeCycle w a).intakeWaits := by
  rw [Part.takeCycle.eq_def]
  split
  · exact h.takeRead cycle waiting w _
  · exact h.of_carried cycle (Part.sameClaims_of_arbiter (by simp)) (by simp) (p.carryRead_honest w _ _ _ waiting)
  · exact h.takeWrite cycle waiting w _
  · exact h.of_carried cycle (Part.sameClaims_of_arbiter (by simp)) (by simp) (p.carryWrite_honest w _ _ _ waiting)

/-- The processor's cycle changed, none in progress then. -/
theorem Part.intakeWaits.of_noCycle {p q : Part} (h : p.intakeWaits) (held : p.intake.held = none)
    (claims : p.arbiter.sameClaims q.arbiter) (intake : q.intake = p.intake) (cycle : q.path.cycle = none) :
    q.intakeWaits := by
  obtain ⟨ready, blocked⟩ := p.intakeWaits_iff.mp h
  refine q.intakeWaits_iff.mpr ⟨⟨by rw [intake]; exact ready.room, q.heldWithWrite_of_none (by rw [intake]; exact held),
    q.path.honest_of_noCycle cycle⟩, ?_⟩
  exact fun buffered =>
    Part.intakeBlocked_of_sameClaims (blocked (by rw [← intake]; exact buffered)) claims (by rw [intake])

/-- R169: the cycle that waited is taken; none was in progress. -/
theorem Part.intakeWaits.takeWaiting {p : Part} (h : p.intakeWaits) : p.takeWaiting.intakeWaits := by
  rw [Part.takeWaiting]
  split
  · exact h
  next w a waits =>
    have cycle : p.path.cycle = none := h.ready.path.1 (by simp [waits])
    have taken : ({ p with path := { p.path with waiting := none } } : Part).intakeWaits :=
      h.of_noCycle (h.ready.written.held_none cycle) (Part.sameClaims_of_arbiter rfl) rfl cycle
    exact taken.takeCycle cycle rfl w a

theorem Part.accepts_noCycle (p : Part) (h : p.accepts = true) : p.path.cycle = none ∧ p.path.waiting = none := by
  simp only [Part.accepts, Bool.and_eq_true, Option.isNone_iff_eq_none] at h
  exact ⟨h.1.2, h.2⟩

theorem Part.intakeWaits.arrive {p : Part} (h : p.intakeWaits) (w : BitVec 23) (a : Access) :
    (p.arrive w a).intakeWaits := by
  rw [Part.arrive]
  split
  next accepted =>
    obtain ⟨cycle, waiting⟩ := p.accepts_noCycle accepted
    split
    · exact h.of_noCycle (h.ready.written.held_none cycle) (Part.sameClaims_of_arbiter rfl) rfl cycle
    · exact (h.takeCycle cycle waiting w a).grant
  next => exact h

theorem Part.intakeWaits.endCycle {p : Part} (h : p.intakeWaits) : p.endCycle.intakeWaits := by
  rw [Part.endCycle]
  split
  · exact h
  next noHold =>
    have held : p.intake.held = none := by
      by_contra held
      obtain ⟨w, b, write⟩ := h.ready.written held
      exact absurd ((h.ready.path.2 _ write).mp rfl) (by simp [noHold])
    exact h.of_noCycle held (Part.sameClaims_of_arbiter rfl) rfl rfl

/-- R61: a held read answered; a record is not held beside it. -/
theorem Part.intakeReady.answerHeldRead {p : Part} (h : p.intakeReady) (n : Fin 4) : (p.answerHeldRead n).intakeReady := by
  rw [Part.answerHeldRead]
  split
  next w m l cycle =>
    split
    · refine ⟨by simpa using h.room, Part.heldWithWrite_of_none _ ?_,
        p.carryRead_honest _ _ _ _ (h.path.waiting_none cycle)⟩
      simpa using h.written.held_none_of_read cycle
    · exact h
  next => exact h

theorem Part.intakeWaits.answerHeldRead {p : Part} (h : p.intakeWaits) (n : Fin 4) : (p.answerHeldRead n).intakeWaits := by
  obtain ⟨ready, blocked⟩ := p.intakeWaits_iff.mp h
  refine Part.intakeWaits_iff _ |>.mpr ⟨ready.answerHeldRead n, fun buffered => ?_⟩
  exact Part.intakeBlocked_of_sameClaims (blocked (by simpa using buffered)) (Part.sameClaims_of_arbiter (by simp))
    (by simp)

/-! ## Contexts and the setup -/

theorem Part.intakeReady.resetContext {p : Part} (h : p.intakeReady) (n : Fin 4) : (p.resetContext n).intakeReady :=
  Part.intakeReady.answerHeldRead (h.of_same (by simp) (p.abandon_cycle n)) n

theorem Part.intakeReady.resetContexts {p : Part} (h : p.intakeReady) : p.resetContexts.intakeReady :=
  (((h.resetContext 0).resetContext 1).resetContext 2).resetContext 3

theorem Part.intakeReady.followSetup {p : Part} (h : p.intakeReady) (old : Setup) : (p.followSetup old).intakeReady := by
  have window (q : Part) (n : Fin 4) (hq : q.intakeReady) : (q.followWindow old n).intakeReady := by
    rw [Part.followWindow]
    split
    · exact hq.resetContext n
    · exact hq
  have windows := window _ 3 (window _ 2 (window _ 1 (window p 0 h)))
  exact windows.of_same (by simp [Part.followSetup]) (Part.sameCycle_of_path (by simp [Part.followSetup]))

theorem Part.intakeReady.applySetup {p : Part} (h : p.intakeReady) (effects : List PendingEffect) :
    (p.applySetup effects).intakeReady := by
  have set : ({ p with setup := p.setup.applied effects, locked := asksLock effects, setupFault := 0 } : Part).intakeReady :=
    h.of_same rfl (Part.sameCycle_of_path rfl)
  rw [Part.applySetup]
  split
  · split
    · exact h.of_same rfl (Part.sameCycle_of_path rfl)
    · exact set.followSetup _
  · exact h

theorem Part.intakeReady.commitEffects {p : Part} (h : p.intakeReady) (c : CommitPayload) :
    (p.commitEffects c).intakeReady := by
  have stored : ({ p with store := p.store.commit c } : Part).intakeReady := h.of_same rfl (Part.sameCycle_of_path rfl)
  exact (stored.applySetup c.effects).of_same (by simp [Part.commitEffects])
    (Part.sameCycle_of_path (by simp [Part.commitEffects]))

/-! ## Answers -/

theorem Part.intakeReady.of_dropHead {p q : Part} (h : p.intakeReady)
    (buffer : q.intake.buffer = p.intake.buffer ∨ q.intake.buffer = p.intake.buffer.tail)
    (held : q.intake.held = p.intake.held) (path : q.path = p.path) : q.intakeReady := by
  refine ⟨?_, h.written.of_same held (by rw [path]), by rw [path]; exact h.path⟩
  have room := h.room
  obtain same | shorter := buffer
  · rwa [same]
  · rw [shorter, List.length_tail]
    omega

theorem Part.intakeReady.ignoreAnswer {p : Part} (h : p.intakeReady) : p.ignoreAnswer.intakeReady := by
  refine h.of_dropHead ?_ rfl rfl
  cases buffered : p.intake.trailerBuffered with
  | false => exact .inl (by simp [Part.ignoreAnswer, buffered])
  | true => exact .inr (by simp [Part.ignoreAnswer, buffered])

theorem Part.intakeReady.claimOwedDiscard {p : Part} (h : p.intakeReady) : p.claimOwedDiscard.intakeReady := by
  rw [Part.claimOwedDiscard]
  split
  · exact h.of_dropHead (.inl rfl) rfl rfl
  · exact h

/-- R35: an answer taken, or ignored; then intake goes on until it waits. -/
theorem Part.intakeReady.intakeAnswered {p : Part} (h : p.intakeReady) (f : Part → Part) (taken : (f p).intakeReady) :
    (p.intakeAnswered f).intakeWaits := by
  rw [Part.intakeAnswered]
  refine Part.intakeReady.intakeWork (Part.intakeReady.claimOwedDiscard ?_)
  split
  · exact h.ignoreAnswer
  · exact taken

theorem Part.intakeWaits.completeStageEntry {p : Part} (h : p.intakeWaits) : p.completeStageEntry.intakeWaits := by
  have free (st : Store) : ({ p with store := st } : Part).tableFree.intakeReady :=
    h.ready.of_same rfl (Part.sameCycle_of_path rfl)
  rw [Part.completeStageEntry]
  split
  · refine Part.intakeWaits.grant ?_
    split
    · exact (free p.store).intakeAnswered _ (Part.refuse_ready _ _ (free p.store).path)
    next st n _ => exact (free st).intakeAnswered _ ((free st).of_dropHead (.inr rfl) rfl rfl)
  · exact h

theorem Part.intakeWaits.completeStagePass {p : Part} (h : p.intakeWaits) : p.completeStagePass.intakeWaits := by
  have free (st : Store) : ({ p with store := st } : Part).tableFree.intakeReady :=
    h.ready.of_same rfl (Part.sameCycle_of_path rfl)
  rw [Part.completeStagePass]
  split
  · refine Part.intakeWaits.grant ?_
    split
    · exact (free p.store).intakeAnswered _ (Part.refuse_ready _ _ (free p.store).path)
    next st _ => exact (free st).intakeAnswered _ ((free st).of_dropHead (.inr rfl) rfl rfl)
  · exact h

theorem Part.intakeWaits.completeCommit {p : Part} (h : p.intakeWaits) : p.completeCommit.intakeWaits := by
  rw [Part.completeCommit]
  split
  next c _ =>
    have free : p.tableFree.intakeReady := h.ready.of_same rfl (Part.sameCycle_of_path rfl)
    have committed := free.commitEffects c
    exact (committed.intakeAnswered _ (committed.of_dropHead (.inr rfl) rfl rfl)).grant
  next => exact h

theorem Part.intakeWaits.completeDiscard {p : Part} (h : p.intakeWaits) : p.completeDiscard.intakeWaits := by
  rw [Part.completeDiscard]
  split
  · have free : ({ p with store := p.store.discard } : Part).tableFree.intakeReady :=
      h.ready.of_same rfl (Part.sameCycle_of_path rfl)
    exact (free.intakeAnswered id free).grant
  · exact h

/-! ## The other operations -/

theorem Part.intakeWaits.completeLookup {p : Part} (h : p.intakeWaits) : p.completeLookup.intakeWaits := by
  rw [Part.completeLookup]
  split
  next n k wanted op =>
    have free : p.tableFree.intakeWaits := h.of_same ⟨rfl, by simp [op]⟩ rfl (Part.sameCycle_of_path rfl)
    refine Part.intakeWaits.grant ?_
    split
    · rw [Part.decideLookup]
      refine Part.intakeWaits.answerHeldRead ?_ n
      split
      all_goals
        exact free.of_same (Part.sameClaims_of_arbiter (by simp)) (by simp) (Part.sameCycle_of_path (by simp))
    · exact free
  next => exact h

theorem Part.intakeWaits.completeSettle {p : Part} (h : p.intakeWaits) : p.completeSettle.intakeWaits := by
  rw [Part.completeSettle]
  split
  · exact h
  next w _ =>
    refine (Part.intakeWaits.takeWaiting ?_).grant
    refine Part.intakeWaits.of_same ?_ (Part.noteSettled_claims _ w) (by simp) (Part.sameCycle_of_path (by simp))
    exact h.of_same (Part.sameClaims_of_arbiter rfl) rfl ⟨rfl, rfl, rfl⟩

theorem Part.intakeWaits.startSettle {p : Part} (h : p.intakeWaits) : p.startSettle.intakeWaits := by
  rw [Part.startSettle]
  split
  · split
    · exact h
    · exact h.of_same (Part.sameClaims_of_arbiter rfl) rfl ⟨rfl, rfl, rfl⟩
  · exact h

theorem Part.intakeWaits.completeMark {p : Part} (h : p.intakeWaits) : p.completeMark.intakeWaits := by
  rw [Part.completeMark]
  split
  case h_3 => exact h
  all_goals
    next op =>
      refine Part.intakeWaits.grant ?_
      exact h.of_same ⟨rfl, by simp [op]⟩ rfl (Part.sameCycle_of_path rfl)

theorem Part.intakeWaits.completeSweepStep {p : Part} (h : p.intakeWaits) : p.completeSweepStep.intakeWaits := by
  rw [Part.completeSweepStep]
  split
  next op =>
    have free : p.arbiter.sameClaims p.tableFree.arbiter := ⟨rfl, by simp [op]⟩
    exact (h.of_same (free.trans (Part.sweepEntry_claims _)) (by simp) (Part.sameCycle_of_path (by simp))).grant
  next => exact h

theorem Part.intakeWaits.takeRelease {p : Part} (h : p.intakeWaits) : p.takeRelease.intakeWaits := by
  rw [Part.takeRelease]
  split
  · refine Part.intakeWaits.grant ?_
    exact h.of_same ⟨rfl, rfl⟩ rfl (Part.sameCycle_of_path rfl)
  · exact h

theorem Part.intakeWaits.expireHold {p : Part} (h : p.intakeWaits) : p.expireHold.intakeWaits := by
  rw [Part.expireHold]
  split
  next n _ _ =>
    refine (Part.intakeWaits.answerHeldRead ?_ n).grant
    exact h.of_same (p.abandon_claims n) (by simp) (p.abandon_cycle n)
  next => exact h

/-- R41: a refused file leaves nothing buffered, and a discard ordered. -/
theorem Part.refuse_waits (p : Part) (reason : FileRefusal) (h : p.path.honest) : (p.refuse reason).intakeWaits :=
  Part.intakeWaits_iff _ |>.mpr ⟨p.refuse_ready reason h, fun _ => p.refuse_blocked reason⟩

theorem Part.intakeWaits.expireIntakeHold {p : Part} (h : p.intakeWaits) : p.expireIntakeHold.intakeWaits := by
  rw [Part.expireIntakeHold]
  split
  · exact (p.refuse_waits .stall h.ready.path).grant
  · exact h

theorem Part.intakeWaits.expireAwait {p : Part} (h : p.intakeWaits) (n : Fin 4) : (p.expireAwait n).intakeWaits := by
  rw [Part.expireAwait]
  split
  · split
    · exact h.of_same (Part.sameClaims_of_arbiter (by simp)) (by simp) (Part.sameCycle_of_path (by simp))
    · exact h
  · split
    · refine Part.intakeWaits.grant ?_
      refine h.of_same (Arbiter.sameClaims.trans ?_ (Part.releasePin_claims _ _)) (by simp)
        (Part.sameCycle_of_path (by simp))
      exact Part.sameClaims_of_arbiter (by simp)
    · exact h
  all_goals exact h

/-! ## The entry to RUN and RESET_N -/

/-- Where nothing is buffered or held and no cycle is in progress, intake waits for nothing. -/
theorem Part.intakeWaits_of_quiet (p : Part) (buffer : p.intake.buffer = []) (held : p.intake.held = none)
    (cycle : p.path.cycle = none) : p.intakeWaits :=
  p.intakeWaits_iff.mpr ⟨⟨by simp [buffer], p.heldWithWrite_of_none held, p.path.honest_of_noCycle cycle⟩,
    fun buffered => absurd buffer buffered⟩

theorem Part.enterRun_waits (p : Part) : p.enterRun.intakeWaits := by
  rw [Part.enterRun]
  refine Part.intakeWaits.grant (Part.intakeWaits_of_quiet _ ?_ ?_ ?_)
  · simp [Part.volatileInit, Intake.draining]
  · simp [Part.volatileInit, Intake.draining]
  · simp [MemoryPath.quiet]

theorem Part.resetIntake_buffers (p : Part) :
    p.resetIntake.intake.buffer = [] ∧ p.resetIntake.intake.held = none := by
  have ended := (p.endFile .idle).orderDiscard_buffers
  rw [Part.resetIntake]
  split <;> exact ended

theorem Part.resetRun_waits (p : Part) (straps : BitVec 10) : (p.resetRun straps).intakeWaits := by
  rw [Part.resetRun]
  refine (Part.intakeWaits.takeWaiting (Part.intakeWaits_of_quiet _ ?_ ?_ rfl)).grant
  · simp [Part.resetPath, Part.resetIntake_buffers]
  · simp [Part.resetPath, Part.resetIntake_buffers]

/-- Intake's promise, with the rest outside RUN: there it follows from the rest. -/
def Part.waitsInRun (p : Part) : Prop := p.restsOutsideRun ∧ p.intakeWaits

theorem Part.waitsInRun.of_op {p q : Part} (h : p.waitsInRun) (rests : q.restsOutsideRun)
    (run : p.supply = .run → p.intakeWaits → q.intakeWaits) (outside : p.supply ≠ .run → p.atRest → q.atRest) :
    q.waitsInRun := by
  refine ⟨rests, ?_⟩
  by_cases inRun : p.supply = .run
  · exact run inRun h.2
  · exact (outside inRun (h.1 inRun)).intakeWaits

theorem Part.mainGood_of_run (p : Part) (straps : BitVec 10) (h : p.supply = .run) : p.mainGood straps = p := by
  rw [Part.mainGood]
  split
  · rfl
  · rw [p.finishCold_of_run h, p.mainGoodNow_of_run straps h]
  · exact p.mainGoodNow_of_run straps h

theorem Part.intakeWaits.keepLow {p : Part} (h : p.intakeWaits) (run : p.supply = .run) : p.keepLow.intakeWaits := by
  have past : p.pastColdAtVkeep = p := by
    rw [Part.pastColdAtVkeep]
    split
    · exact p.finishCold_of_run run
    · rfl
  rw [Part.keepLow_eq, past]
  split <;> exact h.of_same (Part.sameClaims_of_arbiter rfl) rfl (Part.sameCycle_of_path rfl)

/-- Each operation keeps intake and the processor's cycle as they are between two commands. -/
theorem waitsInRun_keptByOperations : KeptByOperations Part.waitsInRun where
  finishCold p h := h.of_op (restsOutsideRun_keptByOperations.finishCold p h.1)
    (fun run waits => by rwa [p.finishCold_of_run run]) (fun _ rest => rest.finishCold)
  walkStep p verify h := h.of_op (restsOutsideRun_keptByOperations.walkStep p verify h.1)
    (fun run => by simp [verify] at run) (fun _ rest => rest.of_same (by simp) (by simp) (by simp) (by simp) (by simp)
      (by simp) (by simp))
  arrive p w a h := ⟨restsOutsideRun_keptByOperations.arrive p w a h.1, h.2.arrive w a⟩
  endCycle p h := ⟨restsOutsideRun_keptByOperations.endCycle p h.1, h.2.endCycle⟩
  startSettle p h := ⟨restsOutsideRun_keptByOperations.startSettle p h.1, h.2.startSettle⟩
  completeSettle p h := ⟨restsOutsideRun_keptByOperations.completeSettle p h.1, h.2.completeSettle⟩
  completeLookup p h := ⟨restsOutsideRun_keptByOperations.completeLookup p h.1, h.2.completeLookup⟩
  completeMark p h := ⟨restsOutsideRun_keptByOperations.completeMark p h.1, h.2.completeMark⟩
  completeStageEntry p h := ⟨restsOutsideRun_keptByOperations.completeStageEntry p h.1, h.2.completeStageEntry⟩
  completeStagePass p h := ⟨restsOutsideRun_keptByOperations.completeStagePass p h.1, h.2.completeStagePass⟩
  completeCommit p h := ⟨restsOutsideRun_keptByOperations.completeCommit p h.1, h.2.completeCommit⟩
  completeDiscard p h := ⟨restsOutsideRun_keptByOperations.completeDiscard p h.1, h.2.completeDiscard⟩
  completeSweepStep p h := ⟨restsOutsideRun_keptByOperations.completeSweepStep p h.1, h.2.completeSweepStep⟩
  takeRelease p h := ⟨restsOutsideRun_keptByOperations.takeRelease p h.1, h.2.takeRelease⟩
  expireHold p h := ⟨restsOutsideRun_keptByOperations.expireHold p h.1, h.2.expireHold⟩
  expireIntakeHold p h := ⟨restsOutsideRun_keptByOperations.expireIntakeHold p h.1, h.2.expireIntakeHold⟩
  expireAwait p n h := ⟨restsOutsideRun_keptByOperations.expireAwait p n h.1, h.2.expireAwait n⟩
  expireAttention p h := ⟨restsOutsideRun_keptByOperations.expireAttention p h.1,
    h.2.of_same (Part.sameClaims_of_arbiter (by simp)) (by simp) (Part.sameCycle_of_path (by simp))⟩
  endSlot p h := ⟨restsOutsideRun_keptByOperations.endSlot p h.1,
    h.2.of_same (Part.sameClaims_of_arbiter (by simp)) (by simp) (Part.sameCycle_of_path (by simp))⟩
  second p h := ⟨restsOutsideRun_keptByOperations.second p h.1,
    (h.2.of_same p.crystalSecond_claims (by simp) (Part.sameCycle_of_path (by simp))).grant⟩
  lockoutEnds p h := ⟨restsOutsideRun_keptByOperations.lockoutEnds p h.1,
    h.2.of_same (Part.sameClaims_of_arbiter (by simp)) (by simp) (Part.sameCycle_of_path (by simp))⟩
  completeWalk p h := by
    refine ⟨restsOutsideRun_keptByOperations.completeWalk p h.1, ?_⟩
    rw [Part.completeWalk]
    split
    · exact Part.enterRun_waits _
    · exact h.2
  mainGood p straps h := h.of_op (restsOutsideRun_keptByOperations.mainGood p straps h.1)
    (fun run waits => by rwa [p.mainGood_of_run straps run]) (fun _ rest => rest.mainGood straps)
  mainFall p h := by
    refine ⟨restsOutsideRun_keptByOperations.mainFall p h.1, ?_⟩
    rw [Part.mainFall]
    split
    next off => exact (h.1 (by simp [off])).fallUnsupplied.intakeWaits
    next keep => exact (h.1 (by simp [keep])).fallUnsupplied.intakeWaits
    all_goals exact p.mainLost_atRest.intakeWaits
  keepGood p h := ⟨restsOutsideRun_keptByOperations.keepGood p h.1,
    h.2.of_same (Part.sameClaims_of_arbiter (by simp)) (by simp) (Part.sameCycle_of_path (by simp))⟩
  keepLow p h := h.of_op (restsOutsideRun_keptByOperations.keepLow p h.1) (fun run waits => waits.keepLow run)
    (fun _ rest => rest.keepLow)
  keepLost p h := ⟨restsOutsideRun_keptByOperations.keepLost p h.1,
    h.2.of_same (Part.sameClaims_of_arbiter (by simp)) (by simp) (Part.sameCycle_of_path (by simp))⟩
  assertReset p straps h := by
    refine ⟨restsOutsideRun_keptByOperations.assertReset p straps h.1, ?_⟩
    rw [Part.assertReset]
    split
    case h_5 => exact p.resetRun_waits straps
    all_goals exact h.2

/-- Settles O57: each operation keeps each of the eight; the buffer's with the rest outside RUN. -/
theorem boundsAndRestKept : Obligations.BoundsAndRestKept := by
  intro s t stepped
  refine ⟨fun h => queueWithin_keptByOperations.step s t h stepped, fun h => clockHonest_keptByOperations.step s t h stepped,
    fun h => keepValidPresent_keptBySupplies.operations.step s t h stepped,
    fun h => restsOutsideRun_keptByOperations.step s t h stepped,
    fun h => coldUnsupplied_keptBySupplies.operations.step s t h stepped,
    fun h => overlaysAscend_keptByOperations.step s t h stepped, fun rests waits => ?_,
    fun h => memoryGood_keptByOperations.step s t h stepped⟩
  exact (waitsInRun_keptByOperations.step s t ⟨rests, waits⟩ stepped).2

end Sys2Proof.Machine

/-! PROOFS. What a command comes to: the effect on the part, and the queue left as it is. The empty queue, the cycles that no
block takes part in, and the state after reset. -/

namespace Sys2Proof.Machine

/-! ## Commands -/

/-- The next state of a command, from its effect on the part. -/
theorem exec_of_effect (c : Instr) (s : State) (q : Part) (h : commandEffect c s.toPart = q) :
    exec c s = .next { s with toPart := q } := by
  rw [exec_eq_act, State.act, h]

/-- Settles O1: the queue's front is run, and a command changes the part alone. -/
theorem stepRunsTheFrontCommand : Obligations.StepRunsTheFrontCommand := by
  refine ⟨fun s c rest pending => ?_, fun c s => ⟨_, exec_of_effect c s _ rfl, rfl⟩⟩
  rw [step, pending]
  rfl

/-! ## The empty queue -/

theorem step_of_empty (s : State) (pending : s.pending = []) : step s = .next { s with toPart := s.toPart.tick } := by
  rw [step]
  split
  next => rfl
  next c rest nonempty => exact absurd (pending.symm.trans nonempty) (by simp)

theorem Part.tick_of_verify (p : Part) (h : p.supply = .verify) : p.tick = p.walkStep := if_pos h

theorem Part.tick_of_not_verify (p : Part) (h : p.supply ≠ .verify) : p.tick = p.finishCold := if_neg h

theorem Part.finishCold_of_initialising (p : Part) (c : ColdInit) (unsupplied : p.supply = .off ∨ p.supply = .keep)
    (initialising : p.initialising = some c) : p.finishCold = p.completeCold c := by
  rw [Part.finishCold, if_pos unsupplied, initialising]

theorem Part.finishCold_of_settled (p : Part) (h : p.supply = .off ∨ p.supply = .keep → p.initialising = none) :
    p.finishCold = p := by
  rw [Part.finishCold]
  split
  next unsupplied => rw [h unsupplied]
  next => rfl

theorem Part.supply_ne_verify {p : Part} (h : p.supply = .off ∨ p.supply = .keep) : p.supply ≠ .verify := by
  obtain off | keep := h <;> simp [*]

/-- Settles O2: the walk's step in VERIFY, the end of a cold initialisation without main supply, and nothing else. -/
theorem emptyQueueStep : Obligations.EmptyQueueStep := by
  intro s pending
  have stepped := step_of_empty s pending
  have cold (c : ColdInit) (unsupplied : s.supply = .off ∨ s.supply = .keep) (initialising : s.initialising = some c) :
      step s = .next { s with toPart := s.toPart.completeCold c } := by
    rw [stepped, s.toPart.tick_of_not_verify (Part.supply_ne_verify unsupplied),
      s.toPart.finishCold_of_initialising c unsupplied initialising]
  refine ⟨fun notVerify settled => ?_, fun verify => ?_, cold .atVkeep, fun straps => cold (.atVmain straps)⟩
  · rw [stepped, s.toPart.tick_of_not_verify notVerify, s.toPart.finishCold_of_settled settled]
  · rw [stepped, s.toPart.tick_of_verify verify]

/-! ## Cycles of no block -/

/-- R157: a cycle that does not wait is taken, and the claims it brings are granted. -/
theorem Part.arrive_of_takesAtOnce (p : Part) (w : BitVec 23) (a : Access) (h : p.takesAtOnce) :
    p.finishCold.arrive w a = (p.takeCycle w a).grant := by
  obtain ⟨accepts, portFree, -⟩ := h
  rw [p.finishCold_of_accepts accepts, Part.arrive, if_pos accepts, portFree]

/-- R157: a cycle taken by a part with no claim to grant, which changes none. -/
theorem Part.arrive_of_arbiter (p : Part) (w : BitVec 23) (a : Access) (h : p.takesAtOnce)
    (arbiter : (p.takeCycle w a).arbiter = p.arbiter) : p.finishCold.arrive w a = p.takeCycle w a := by
  have granted : (p.takeCycle w a).claimsGranted := p.claimsGranted_of_arbiter _ arbiter h.2.2
  rw [p.arrive_of_takesAtOnce w a h, granted]

theorem anyLane_write (b : LaneBytes) : anyLane (.write b) = true ↔ b.upper.isSome ∨ b.lower.isSome := by
  simp [anyLane, touched]

theorem anyLane_read (l : Lanes) : anyLane (.read l) = true ↔ l.upper = true ∨ l.lower = true := by simp [anyLane]

/-- R160, R162: a write of no region, or of neither lane, passes. -/
theorem Part.takeCycle_write_outside (p : Part) (w : BitVec 23) (b : LaneBytes)
    (h : p.region w = .outside ∨ (b.upper = none ∧ b.lower = none)) :
    p.takeCycle w (.write b) = p.carryWrite w b .none .pass := by
  rw [Part.takeCycle.eq_def]
  split
  case h_3 x lanes =>
    obtain rfl := Access.write.inj x
    obtain outside | ⟨upper, lower⟩ := h
    · rw [Part.takeWrite, outside]
    · exact absurd ((anyLane_write b).mp lanes) (by simp [upper, lower])
  case h_4 x lanes =>
    obtain rfl := Access.write.inj x
    rfl
  all_goals next x _ => cases x

/-- R162, R170: a read of any word but an image window's, or in neither lane, passes. -/
theorem Part.takeCycle_read_passes (p : Part) (w : BitVec 23) (l : Lanes)
    (h : (∀ n k, p.region w ≠ .image n k) ∨ (l.upper = false ∧ l.lower = false)) :
    p.takeCycle w (.read l) = p.carryRead w l .none .pass := by
  rw [Part.takeCycle.eq_def]
  split
  case h_1 x lanes =>
    obtain rfl := Access.read.inj x
    obtain noImage | ⟨upper, lower⟩ := h
    · rw [Part.takeRead]
      split
      next n k image => exact absurd image (noImage n k)
      all_goals rfl
    · exact absurd ((anyLane_read l).mp lanes) (by simp [upper, lower])
  case h_2 x lanes =>
    obtain rfl := Access.read.inj x
    rfl
  all_goals next x _ => cases x

theorem Part.endCycle_of_noHold (p : Part) (h : p.path.hold = none) :
    p.endCycle = { p with path := { p.path with cycle := none, pd := ⟨none, none⟩ } } := by
  rw [Part.endCycle, h]
  rfl

theorem Part.endCycle_of_hold (p : Part) (h : p.path.hold ≠ none) : p.endCycle = p := by
  rw [Part.endCycle]
  split
  next => rfl
  next noHold => exact absurd noHold h

/-- R169: a cycle that finds a settle write on the M-port waits. -/
theorem Part.arrive_of_settleWrite (p : Part) (w : BitVec 23) (a : Access) (x : SettleWrite) (accepts : p.accepts = true)
    (settle : p.path.settleWrite = some x) :
    p.finishCold.arrive w a = { p with path := { p.path with waiting := some (w, a) } } := by
  rw [p.finishCold_of_accepts accepts, Part.arrive, if_pos accepts, settle]

/-- Settles O4: such a cycle passes between processor and memory; one that a settle write keeps out waits. -/
theorem undecodedCyclePasses : Obligations.UndecodedCyclePasses := by
  refine ⟨fun s w b atOnce passes => ?_, fun s w l atOnce passes => ?_, fun s => ⟨fun noHold => ?_, fun hold => ?_,
    fun w a x accepts settle => ?_⟩⟩
  · have taken := s.toPart.takeCycle_write_outside w b passes
    have effect : commandEffect (.passThroughCycle w (.write b)) s.toPart = s.toPart.carryWrite w b .none .pass := by
      rw [← taken]
      exact s.toPart.arrive_of_arbiter w (.write b) atOnce (by rw [taken]; simp)
    exact ⟨_, exec_of_effect _ s _ effect, rfl, s.toPart.memoryTakes_carryWrite_pass _ w b .none rfl rfl⟩
  · have taken := s.toPart.takeCycle_read_passes w l passes
    have effect : commandEffect (.passThroughCycle w (.read l)) s.toPart = s.toPart.carryRead w l .none .pass := by
      rw [← taken]
      exact s.toPart.arrive_of_arbiter w (.read l) atOnce (by rw [taken]; simp)
    exact exec_of_effect _ s _ effect
  · exact exec_of_effect _ s _ (s.toPart.endCycle_of_noHold noHold)
  · exact exec_of_effect _ s _ (s.toPart.endCycle_of_hold hold)
  · exact exec_of_effect _ s _ (s.toPart.arrive_of_settleWrite w a x accepts settle)

/-! ## After reset -/

theorem Store.entry_cold (n : Nat) : Store.cold.entry n = none := rfl

/-- The cold table holds no entry, and its pool is free. -/
theorem Store.cold_poolWhole : Store.cold.poolWhole := rfl

theorem Part.stagingHeld_of_idle (p : Part) (arbiter : p.arbiter = Arbiter.idle) (staging : p.intake.staging = none)
    : p.stagingHeld := by
  have noClaim (c : IntakeClaim) : ¬ p.claims c := by simp [Part.claims, arbiter, Arbiter.idle]
  exact ⟨fun n q claimed => absurd claimed (noClaim _), fun r number claimed => absurd claimed (noClaim _),
    fun f n inHand => by simp [staging] at inHand, fun _ => staging⟩

/-- A part with the cold table at rest has its pool whole. -/
theorem Part.poolHonest_of_cold (p : Part) (store : p.store = Store.cold) (staging : p.stagingHeld) : p.poolHonest := by
  refine .inr ?_
  rw [store]
  exact ⟨List.Pairwise.nil, fun n _ => Store.entry_cold n, List.nodup_range', Store.cold_poolWhole, staging⟩

/-- A part with the cold table has no entry to compare. -/
theorem Part.visibleHonest_of_cold (p : Part) (store : p.store = Store.cold) : p.visibleHonest := by
  refine .inr ?_
  rw [store]
  refine ⟨List.Pairwise.nil, fun n e held => ?_, fun m n a b held => ?_, fun m n a b held => ?_, fun n e held => ?_⟩
  all_goals simp [Store.entry_cold] at held

theorem Part.atRest_reset : Part.reset.atRest := Part.atRest_of_volatile _ rfl rfl rfl rfl rfl rfl none rfl

/-- Settles O55: the blocks at rest, the cold table, and neither supply. -/
theorem resetIsSound : Obligations.ResetIsSound := by
  have idle : Part.reset.arbiter = Arbiter.idle := rfl
  refine ⟨⟨⟨List.Pairwise.nil, by simp [State.reset, Part.reset]⟩, ?_, fun _ => rfl, fun _ => Part.atRest_reset,
    Part.claimsGranted_of_idle _ rfl, ?_, ?_, Part.overlaysAscend_of_allEmpty _ rfl,
    Part.numbersAbove_of_idle _ ⟨rfl, rfl⟩ rfl rfl, Part.atRest_reset.intakeWaits,
    Part.poolHonest_of_cold _ rfl (Part.stagingHeld_of_idle _ idle rfl), Part.visibleHonest_of_cold _ rfl⟩, rfl, rfl⟩
  · exact Nat.zero_le _
  · exact iff_of_true rfl rfl
  · exact ⟨fun cold => absurd rfl cold, fun cold => absurd cold (by simp [State.reset, Part.reset])⟩

end Sys2Proof.Machine

/-! PROOFS. The verification walk (R24, R26, R179 to R182), stage by stage, and the internal checks it tests (R192). -/

namespace Sys2Proof.Machine

/-! ## The table under one step -/

/-- A list of numbers rising, with the value at one number changed. -/
theorem Sparse.find_mapAt {α : Type} (m : Sparse α) (n k : Nat) (f : α → α) :
    Sparse.find (m.map fun x => if x.1 = n then (x.1, f x.2) else x) k
      = if k = n then (Sparse.find m n).map f else Sparse.find m k := by
  induction m with
  | nil => simp [Sparse.find]
  | cons x m ih =>
    obtain ⟨a, v⟩ := x
    rw [List.map_cons]
    by_cases here : a = n
    · rw [if_pos here]
      simp only [Sparse.find, ih, here]
      by_cases there : k = n
      · simp [there]
      · simp only [if_neg there, if_neg (Ne.symm there)]
    · rw [if_neg here]
      simp only [Sparse.find, ih, if_neg here]
      by_cases there : k = n
      · rw [there, if_neg here, if_pos rfl, if_pos rfl]
      · rw [if_neg there, if_neg there]

/-- A test at one number of a rising list asks for the value at that number. -/
theorem Sparse.any_at {α : Type} (m : Sparse α) (n : Nat) (c : α → Bool) (rising : Sparse.rising m) :
    (m.any fun x => x.1 == n && c x.2) = ((Sparse.find m n).map c).getD false := by
  rw [Bool.eq_iff_iff, List.any_eq_true]
  constructor
  · rintro ⟨x, mem, tested⟩
    obtain ⟨here, holds⟩ : x.1 = n ∧ c x.2 = true := by simpa using tested
    rw [Sparse.find_of_mem m n x.2 rising (here ▸ mem)]
    simpa using holds
  · intro found
    cases value : Sparse.find m n with
    | none => simp [value] at found
    | some v => exact ⟨(n, v), Sparse.mem_of_find m n v value, by simpa [value] using found⟩

theorem Store.slot_verifyEntry (st : Store) (n k : Nat) :
    (st.verifyEntry n).slot k = if k = n then (st.slot n).verified else st.slot k := by
  rw [Store.slot, Store.verifyEntry, Sparse.find_mapAt]
  split
  · rw [Store.slot]
    cases Sparse.find st.table n <;> rfl
  · rfl

/-- R26: the entry check of one entry fails where that of its slot does. -/
theorem Store.entryCheckFailsAt_eq (st : Store) (n : Nat) (rising : Sparse.rising st.table) :
    st.entryCheckFailsAt n = !(st.slot n).checkHolds := by
  rw [Store.entryCheckFailsAt, Sparse.any_at st.table n (fun x => !x.checkHolds) rising, Store.slot]
  cases Sparse.find st.table n <;> rfl

theorem Slot.verified_of_fault (e : Entry) (h : e.checkFault ≠ 0) : (Slot.held e).verified = .held e := if_neg h

theorem Slot.verified_of_good (e : Entry) (h : e.checkFault = 0) : (Slot.held e).verified =
    .held { e with state := if e.state = .staged then .dead else e.state, pins := 0 } := if_pos h

/-! ## One step, stage by stage -/

section Stages

variable (p : Part) (failed : Bool)

theorem Part.walkNow_of_some (w : Walk) (h : p.walk = some w) : p.walkNow = w := by rw [Part.walkNow, h]; rfl

theorem Part.walkStep_entry (n : Nat) (h : p.walk = some ⟨.entry n, failed⟩) (inTable : n < 16384) :
    p.walkStep = { p with
      store := p.store.verifyEntry n
      walk := some ⟨if n + 1 < 16384 then .entry (n + 1) else .structureCheck,
        failed || p.store.entryCheckFailsAt n⟩ } := by
  rw [Part.walkStep, p.walkNow_of_some _ h]
  exact if_pos inTable

theorem Part.walkStep_structureCheck (h : p.walk = some ⟨.structureCheck, failed⟩) :
    p.walkStep = p.walkAt .fileNumber (failed || (p.store.structureFault != 0 || p.store.rebuildMark)) := by
  rw [Part.walkStep, p.walkNow_of_some _ h]
  simp [Store.structureCheckHolds, bne]

theorem Part.walkStep_of_fileNumber (h : p.walk = some ⟨.fileNumber, failed⟩) :
    p.walkStep = p.walkAt .setup (failed || p.fileNumberFault != 0) := by
  rw [Part.walkStep, p.walkNow_of_some _ h]
  rfl

theorem Part.walkStep_setup (h : p.walk = some ⟨.setup, failed⟩) :
    p.walkStep = p.verifySetup.walkAt .queueCheck failed := by
  rw [Part.walkStep, p.walkNow_of_some _ h]

theorem Part.verifySetup_of_good (h : p.setupFault = 0) : p.verifySetup = p := by
  rw [Part.verifySetup, if_pos (by simp [Part.setupCheckHolds, h])]

theorem Part.walkStep_queueCheck (h : p.walk = some ⟨.queueCheck, failed⟩) :
    p.walkStep = if p.queue.checkFault = 0 then p.walkAt (.queueItem 0) failed
      else (p.withOutcomes []).afterStages failed := by
  rw [Part.walkStep, p.walkNow_of_some _ h]
  simp [OutcomeQueue.checkHolds]

/-- R179, R180: after stage 5 the rebuild is next, or nothing. -/
theorem Part.afterStages_eq : p.afterStages failed =
    { p with walk := some (if failed then ⟨.rebuild 0, true⟩ else ⟨.done, false⟩) } := by
  cases failed <;> rfl

theorem Part.walkStep_queueItem_none (n : Nat) (h : p.walk = some ⟨.queueItem n, failed⟩)
    (none : p.queue.outcomes[n]? = none) : p.walkStep = p.afterStages failed := by
  rw [Part.walkStep, p.walkNow_of_some _ h]
  simp only [none]

theorem Part.walkStep_queueItem_some (n : Nat) (o : Outcome) (h : p.walk = some ⟨.queueItem n, failed⟩)
    (found : p.queue.outcomes[n]? = some o) :
    p.walkStep = (p.verifyOutcome n o).1.walkAt (.queueItem (p.verifyOutcome n o).2) failed := by
  rw [Part.walkStep, p.walkNow_of_some _ h]
  simp only [found]

/-- R181: an outcome found RESERVED leaves, and the next one takes its place. -/
theorem Part.verifyOutcome_of_reserved (n : Nat) (o : Outcome) (m : Fin 4) (h : o.state = .reserved m) :
    p.verifyOutcome n o = (p.withOutcomes (p.queue.outcomes.eraseIdx n), n) :=
  if_pos (by rw [Outcome.isReserved, h])

theorem Part.verifyOutcome_of_attached (n : Nat) (o : Outcome) (q : Word) (h : o.state = .attached q) :
    p.verifyOutcome n o = (p.withOutcomes (p.queue.outcomes.set n { o with state := .unreported q }), n + 1) := by
  have detached : o.detached = { o with state := .unreported q } := by rw [Outcome.detached, h]
  rw [← detached]
  exact if_neg (by rw [Outcome.isReserved, h]; simp)

/-- R181: an outcome found UNREPORTED stands as it is. -/
theorem Part.verifyOutcome_of_unreported (n : Nat) (o : Outcome) (q : Word) (found : p.queue.outcomes[n]? = some o)
    (h : o.state = .unreported q) : p.verifyOutcome n o = (p.withOutcomes p.queue.outcomes, n + 1) := by
  have stands : p.queue.outcomes.set n o.detached = p.queue.outcomes := by
    obtain ⟨inside, rfl⟩ := List.getElem?_eq_some_iff.mp found
    rw [Outcome.detached, h]
    exact List.set_getElem_self inside
  rw [Part.verifyOutcome, stands]
  exact if_neg (by rw [Outcome.isReserved, h]; simp)

theorem Part.walkStep_rebuild (n : Nat) (h : p.walk = some ⟨.rebuild n, failed⟩) :
    p.walkStep = p.rebuildStep n failed := by
  rw [Part.walkStep, p.walkNow_of_some _ h]

/-- R180: one entry of a rebuild, the first with the declaration of loss. -/
theorem Part.rebuildStep_of_lt (n : Nat) (h : n + 1 < 16384) :
    p.rebuildStep n failed = { p with
      fileNumber := if n = 0 then 0 else p.fileNumber
      fileNumberFault := if n = 0 then 0 else p.fileNumberFault
      tableLost := if n = 0 then true else p.tableLost
      store := p.store.rebuildEntry n
      walk := some ⟨.rebuild (n + 1), failed⟩ } := by
  rw [Part.rebuildStep, if_pos (show n + 1 < Config.tableSize from h)]
  by_cases first : n = 0
  · simp only [if_pos first]
    rfl
  · simp only [if_neg first]
    rfl

theorem Part.rebuildStep_last : p.rebuildStep 16383 failed =
    { p with store := Store.cold, walk := some ⟨.done, failed⟩ } := rfl

theorem Part.walkStep_done (h : p.walk = some ⟨.done, failed⟩) : p.walkStep = p := by
  have done : p.walkStep = p.walkAt .done failed := by rw [Part.walkStep, p.walkNow_of_some _ h]
  rw [done, Part.walkAt, ← h]

end Stages

theorem step_of_walk (s : State) (q : Part) (pending : s.pending = []) (verify : s.supply = .verify)
    (h : s.toPart.walkStep = q) : step s = .next { s with toPart := q } := by
  rw [step_of_empty s pending, s.toPart.tick_of_verify verify, h]

/-- R26: stage 1 of the walk. -/
theorem walkStep_entry_taken (s : State) (failed : Bool) (n : Nat) (pending : s.pending = [])
    (verify : s.supply = .verify) (h : s.walk = some ⟨.entry n, failed⟩) (inTable : n < 16384)
    (rising : Sparse.rising s.store.table) :
    ∃ t, step s = .next t
      ∧ t = { s with
          store := { s.store with table := t.store.table }
          walk := some ⟨if n + 1 < 16384 then .entry (n + 1) else .structureCheck,
            failed || !(s.store.slot n).checkHolds⟩ }
      ∧ (∀ k, k ≠ n → t.store.slot k = s.store.slot k)
      ∧ (∀ f, s.store.slot n = .free f → t.store.slot n = .free f)
      ∧ (∀ e, s.store.slot n = .held e → e.checkFault ≠ 0 → t.store.slot n = .held e)
      ∧ ∀ e, s.store.slot n = .held e → e.checkFault = 0 → t.store.slot n =
          .held { e with state := if e.state = .staged then .dead else e.state, pins := 0 } := by
  have stepped := s.toPart.walkStep_entry failed n h inTable
  have slot := s.store.slot_verifyEntry n
  rw [s.store.entryCheckFailsAt_eq n rising] at stepped
  refine ⟨_, step_of_walk s _ pending verify stepped, rfl, fun k other => ?_, fun f free => ?_, fun e held fault => ?_,
    fun e held good => ?_⟩
  · exact (slot k).trans (if_neg other)
  · exact (slot n).trans (by rw [if_pos rfl, free]; rfl)
  · exact (slot n).trans (by rw [if_pos rfl, held, Slot.verified_of_fault e fault])
  · exact (slot n).trans (by rw [if_pos rfl, held, Slot.verified_of_good e good])

/-- Settles O3: each stage of the walk, and a check that holds where its stored difference is none. -/
theorem walkStepTaken : Obligations.WalkStepTaken := by
  refine ⟨fun s failed pending verify => ?_, fun _ => rfl, fun x => ?_, fun st => (storedCheck_eq_iff _ _).symm,
    fun p => ⟨(storedCheck_eq_iff _ _).symm, (storedCheck_eq_iff _ _).symm, (storedCheck_eq_iff _ _).symm⟩⟩
  case refine_2 =>
    rw [Slot.storedCheck, storedCheck_eq_iff, Slot.checkHolds, beq_iff_eq]
  have walked {q : Part} (h : s.toPart.walkStep = q) : step s = .next { s with toPart := q } :=
    step_of_walk s q pending verify h
  refine ⟨fun n walk => walkStep_entry_taken s failed n pending verify walk,
    fun walk => walked (s.toPart.walkStep_structureCheck failed walk),
    fun walk => walked (s.toPart.walkStep_of_fileNumber failed walk), fun walk good => walked ?_, fun walk fault => walked ?_,
    fun walk good => walked ?_, fun walk fault => walked ?_, fun n walk => ?_, fun n walk inTable rising => ?_,
    fun walk => walked ?_, fun walk => walked (s.toPart.walkStep_done failed walk)⟩
  case refine_1 =>
    rw [s.toPart.walkStep_setup failed walk, s.toPart.verifySetup_of_good good]
    rfl
  case refine_2 =>
    rw [s.toPart.walkStep_setup failed walk, s.toPart.verifySetup_of_damaged fault]
    rfl
  case refine_3 =>
    rw [s.toPart.walkStep_queueCheck failed walk, if_pos good]
    rfl
  case refine_4 =>
    rw [s.toPart.walkStep_queueCheck failed walk, if_neg fault, Part.afterStages_eq]
    rfl
  case refine_5 =>
    have item (o : Outcome) := s.toPart.walkStep_queueItem_some failed n o walk
    refine ⟨fun none => walked ?_, fun o m found reserved => walked ?_, fun o q found attached => walked ?_,
      fun o q found unreported => walked ?_⟩
    · rw [s.toPart.walkStep_queueItem_none failed n walk none]
      exact s.toPart.afterStages_eq failed
    · rw [item o found, s.toPart.verifyOutcome_of_reserved n o m reserved]
      rfl
    · rw [item o found, s.toPart.verifyOutcome_of_attached n o q attached]
      rfl
    · rw [item o found, s.toPart.verifyOutcome_of_unreported n o q found unreported]
      rfl
  case refine_6 =>
    have slot := Store.slot_withSlot { s.store with rebuildMark := true } n (.free 0)
    have rebuilt := (s.toPart.walkStep_rebuild failed n walk).trans (s.toPart.rebuildStep_of_lt failed n inTable)
    refine ⟨_, walked rebuilt, rfl, ?_, fun k other => ?_⟩
    · exact (slot n rising).trans (if_pos rfl)
    · exact (slot k rising).trans (if_neg other)
  case refine_7 =>
    rw [s.toPart.walkStep_rebuild failed 16383 walk]
    exact s.toPart.rebuildStep_last failed

end Sys2Proof.Machine

/-! PROOFS. Where a word is decoded (R29, R53, R105, R145, R159 to R161, R170). -/

namespace Sys2Proof.Machine

/-! ## The four kinds of window -/

theorem FileWindow.wordOf_of_inside (f : FileWindow) (w : BitVec 23) (low : f.base.toNat / 2 ≤ w.toNat)
    (high : w.toNat < f.base.toNat / 2 + f.bytes / 2) : f.wordOf w = some (w.toNat - f.base.toNat / 2) :=
  if_pos ⟨low, high⟩

theorem FileWindow.wordOf_of_outside (f : FileWindow) (w : BitVec 23)
    (h : ¬ (f.base.toNat / 2 ≤ w.toNat ∧ w.toNat < f.base.toNat / 2 + f.bytes / 2)) : f.wordOf w = none := if_neg h

theorem JournalWindow.halfBytes (j : JournalWindow) : j.bytes / 2 = 2048 * 2 ^ j.sizeCode := by
  rw [JournalWindow.bytes]
  omega

theorem JournalWindow.wordOf_of_inside (j : JournalWindow) (w : BitVec 23) (low : j.base.toNat / 2 ≤ w.toNat)
    (high : w.toNat < j.base.toNat / 2 + 2048 * 2 ^ j.sizeCode) :
    j.wordOf w = some ((w.toNat - j.base.toNat / 2) / 32, (w.toNat - j.base.toNat / 2) % 32) := by
  rw [JournalWindow.wordOf, j.halfBytes, if_pos ⟨low, high⟩]

theorem JournalWindow.wordOf_of_outside (j : JournalWindow) (w : BitVec 23)
    (h : ¬ (j.base.toNat / 2 ≤ w.toNat ∧ w.toNat < j.base.toNat / 2 + 2048 * 2 ^ j.sizeCode)) : j.wordOf w = none := by
  rw [JournalWindow.wordOf, j.halfBytes, if_neg h]

theorem clockWordOf_eq_some (a : BitVec 24) (w : BitVec 23) (second : Bool)
    (h : w.toNat = a.toNat / 2 + (if second then 1 else 0)) : clockWordOf a w = some second := by
  cases second with
  | false => exact if_pos h
  | true =>
    have next : w.toNat = a.toNat / 2 + 1 := h
    rw [clockWordOf, if_neg (by omega), if_pos next]

theorem clockWordOf_eq_none (a : BitVec 24) (w : BitVec 23) (h : w.toNat ≠ a.toNat / 2 ∧ w.toNat ≠ a.toNat / 2 + 1) :
    clockWordOf a w = none := by
  rw [clockWordOf, if_neg h.1, if_neg h.2]

/-! ## The regions of a setup -/

section Setup

variable (y : Setup) (w : BitVec 23)

/-- What window `n` alone decodes. -/
def Setup.windowRegion (n : Fin 4) : Option Region :=
  (fourAt y.windows.image n).bind fun base => (imageWordOf base w).map (Region.image n)

theorem Setup.imageRegion_eq : y.imageRegion w = (y.windowRegion w 0).orElse fun _ =>
    (y.windowRegion w 1).orElse fun _ => (y.windowRegion w 2).orElse fun _ => y.windowRegion w 3 := rfl

theorem Setup.windowRegion_eq_none (n : Fin 4) (h : ∀ b, fourAt y.windows.image n = some b → w.toNat / 32 ≠ b.toNat) :
    y.windowRegion w n = none := by
  rw [Setup.windowRegion]
  cases base : fourAt y.windows.image n with
  | none => rfl
  | some b => rw [Option.bind_some, imageWordOf, if_neg (h b base), Option.map_none]

theorem Setup.windowRegion_eq_some (n : Fin 4) (b : BitVec 18) (base : fourAt y.windows.image n = some b)
    (inside : w.toNat / 32 = b.toNat) : y.windowRegion w n = some (.image n (w.toNat % 32)) := by
  rw [Setup.windowRegion, base, Option.bind_some, imageWordOf, if_pos inside, Option.map_some]

/-- R53: no image window holds the word. -/
def Setup.noImage : Prop := ∀ n b, fourAt y.windows.image n = some b → w.toNat / 32 ≠ b.toNat

/-- R105: the journal window does not hold the word. -/
def Setup.noJournal : Prop := ∀ j, y.windows.journal = some j →
  ¬ (j.base.toNat / 2 ≤ w.toNat ∧ w.toNat < j.base.toNat / 2 + 2048 * 2 ^ j.sizeCode)

theorem Setup.imageRegion_eq_none (h : y.noImage w) : y.imageRegion w = none := by
  have window (n : Fin 4) := y.windowRegion_eq_none w n (h n)
  rw [Setup.imageRegion_eq, window 0, window 1, window 2, window 3]
  rfl

/-- R44, R53: a word of one image window alone is that window's. -/
theorem Setup.imageRegion_eq_some (n : Fin 4) (b : BitVec 18) (base : fourAt y.windows.image n = some b)
    (inside : w.toNat / 32 = b.toNat) (alone : ∀ m, m ≠ n → fourAt y.windows.image m ≠ some b) :
    y.imageRegion w = some (.image n (w.toNat % 32)) := by
  have window := y.windowRegion_eq_some w n b base inside
  have others (m : Fin 4) (other : m ≠ n) : y.windowRegion w m = none := by
    refine y.windowRegion_eq_none w m fun b' base' inside' => ?_
    exact alone m other (base'.trans (congrArg some (BitVec.eq_of_toNat_eq (by omega))))
  rw [Setup.imageRegion_eq]
  match n with
  | 0 => rw [window]; rfl
  | 1 => rw [others 0 (by decide), window]; rfl
  | 2 => rw [others 0 (by decide), others 1 (by decide), window]; rfl
  | 3 => rw [others 0 (by decide), others 1 (by decide), others 2 (by decide), window]; rfl

/-- R105: what the journal window decodes. -/
def Setup.journalRegion : Option Region :=
  y.windows.journal.bind fun j => (j.wordOf w).map fun x => Region.journal x.1 x.2

/-- R145: what the clock word decodes. -/
def Setup.clockRegion : Option Region := y.windows.clockWord.bind fun a => (clockWordOf a w).map Region.clock

theorem Setup.region_of_active (active : y.policy.mode = .active) :
    y.region w = (((y.imageRegion w).orElse fun _ => y.journalRegion w).orElse fun _ => y.clockRegion w).getD .outside := by
  rw [Setup.region, active]
  rfl

theorem Setup.region_of_bypass (bypass : y.policy.mode = .bypass) :
    y.region w = (y.clockRegion w).getD .outside := by
  rw [Setup.region, bypass]
  rfl

theorem Setup.journalRegion_eq_none (h : y.noJournal w) : y.journalRegion w = none := by
  rw [Setup.journalRegion]
  cases journal : y.windows.journal with
  | none => rfl
  | some j => rw [Option.bind_some, j.wordOf_of_outside w (h j journal), Option.map_none]

theorem Setup.region_image (active : y.policy.mode = .active) (n : Fin 4) (b : BitVec 18)
    (base : fourAt y.windows.image n = some b) (inside : w.toNat / 32 = b.toNat)
    (alone : ∀ m, m ≠ n → fourAt y.windows.image m ≠ some b) : y.region w = .image n (w.toNat % 32) := by
  rw [y.region_of_active w active, y.imageRegion_eq_some w n b base inside alone]
  rfl

theorem Setup.region_journal (active : y.policy.mode = .active) (j : JournalWindow) (journal : y.windows.journal = some j)
    (low : j.base.toNat / 2 ≤ w.toNat) (high : w.toNat < j.base.toNat / 2 + 2048 * 2 ^ j.sizeCode)
    (noImage : y.noImage w) :
    y.region w = .journal ((w.toNat - j.base.toNat / 2) / 32) ((w.toNat - j.base.toNat / 2) % 32) := by
  have decoded : y.journalRegion w = some (.journal ((w.toNat - j.base.toNat / 2) / 32) ((w.toNat - j.base.toNat / 2) % 32)) := by
    rw [Setup.journalRegion, journal, Option.bind_some, j.wordOf_of_inside w low high, Option.map_some]
  rw [y.region_of_active w active, y.imageRegion_eq_none w noImage, decoded]
  rfl

/-- R160: a word that neither an image nor the journal window decodes in this mode is the clock word's, or nobody's. -/
theorem Setup.region_clockOnly (h : y.policy.mode = .active → y.noImage w ∧ y.noJournal w) :
    y.region w = (y.clockRegion w).getD .outside := by
  cases mode : y.policy.mode with
  | bypass => exact y.region_of_bypass w mode
  | active =>
    obtain ⟨noImage, noJournal⟩ := h mode
    rw [y.region_of_active w mode, y.imageRegion_eq_none w noImage, y.journalRegion_eq_none w noJournal]
    rfl

theorem Setup.clockRegion_eq_some (a : BitVec 24) (second : Bool) (clock : y.windows.clockWord = some a)
    (inside : w.toNat = a.toNat / 2 + (if second then 1 else 0)) : y.clockRegion w = some (.clock second) := by
  rw [Setup.clockRegion, clock, Option.bind_some, clockWordOf_eq_some a w second inside, Option.map_some]

theorem Setup.clockRegion_eq_none
    (h : ∀ a, y.windows.clockWord = some a → w.toNat ≠ a.toNat / 2 ∧ w.toNat ≠ a.toNat / 2 + 1) :
    y.clockRegion w = none := by
  rw [Setup.clockRegion]
  cases clock : y.windows.clockWord with
  | none => rfl
  | some a => rw [Option.bind_some, clockWordOf_eq_none a w (h a clock), Option.map_none]

theorem Setup.clockRegion_cases : y.clockRegion w = none ∨ ∃ second, y.clockRegion w = some (.clock second) := by
  rw [Setup.clockRegion]
  cases y.windows.clockWord with
  | none => exact .inl rfl
  | some a =>
    rw [Option.bind_some]
    cases clockWordOf a w with
    | none => exact .inl rfl
    | some second => exact .inr ⟨second, rfl⟩

end Setup

/-! ## The regions of a part -/

theorem Part.region_outsideRun (p : Part) (w : BitVec 23) (h : p.supply ≠ .run) : p.region w = .outside := if_neg h

theorem Part.region_file (p : Part) (w : BitVec 23) (run : p.supply = .run) (f : FileWindow)
    (window : p.path.fileWindow = some f) (k : Nat) (word : f.wordOf w = some k) : p.region w = .file k := by
  rw [Part.region, if_pos run, window, Option.bind_some, word]

theorem Part.region_setup (p : Part) (w : BitVec 23) (run : p.supply = .run)
    (noFile : ∀ f, p.path.fileWindow = some f → f.wordOf w = none) : p.region w = p.setup.region w := by
  rw [Part.region, if_pos run]
  cases window : p.path.fileWindow with
  | none => rfl
  | some f => rw [Option.bind_some, noFile f window]

/-- R160: in BYPASS no word is an image window's or the journal window's. -/
theorem Part.region_of_bypass (p : Part) (w : BitVec 23) (bypass : p.setup.policy.mode = .bypass) :
    p.region w = .outside ∨ (∃ k, p.region w = .file k) ∨ ∃ second, p.region w = .clock second := by
  rw [Part.region]
  split
  · split
    next k _ => exact .inr (.inl ⟨k, rfl⟩)
    next =>
      rw [p.setup.region_of_bypass w bypass]
      obtain none | ⟨second, clock⟩ := p.setup.clockRegion_cases w
      · exact .inl (by rw [none]; rfl)
      · exact .inr (.inr ⟨second, by rw [clock]; rfl⟩)
  · exact .inl rfl

/-! ## The file window of a strap level -/

theorem fileWindowOf_bits (straps : BitVec 10) : (straps.extractLsb' 8 2).toNat = straps.toNat / 256
    ∧ (straps.extractLsb' 0 8).toNat = straps.toNat % 256 := by
  constructor
  · rw [BitVec.extractLsb'_toNat, Nat.shiftRight_eq_div_pow]
    omega
  · rw [BitVec.extractLsb'_toNat]
    simp

/-- R159: the base is aligned down to the window's size, which a strap level can make 1, 2, 4 or 8 times 64 K. -/
theorem fileWindowOf_base (straps : BitVec 10) : (fileWindowOf straps).base.toNat =
    straps.toNat % 256 / 2 ^ (straps.toNat / 256) * 2 ^ (straps.toNat / 256) * 65536 := by
  obtain ⟨code, high⟩ := fileWindowOf_bits straps
  have aligned : straps.toNat % 256 / 2 ^ (straps.toNat / 256) * 2 ^ (straps.toNat / 256) ≤ straps.toNat % 256 :=
    Nat.div_mul_le_self _ _
  rw [fileWindowOf, code, high, BitVec.toNat_ofNat]
  omega

theorem fileWindowOf_bytes (straps : BitVec 10) :
    (fileWindowOf straps).sizeCode = straps.toNat / 256
      ∧ (fileWindowOf straps).bytes = 65536 * 2 ^ (straps.toNat / 256) := by
  have code : (fileWindowOf straps).sizeCode = straps.toNat / 256 := (fileWindowOf_bits straps).1
  exact ⟨code, by rw [FileWindow.bytes, code]⟩

theorem fileWindowOf_aligned (straps : BitVec 10) :
    (fileWindowOf straps).base.toNat % (fileWindowOf straps).bytes = 0
      ∧ (fileWindowOf straps).base.toNat ≤ straps.toNat % 256 * 65536
      ∧ straps.toNat % 256 * 65536 < (fileWindowOf straps).base.toNat + (fileWindowOf straps).bytes := by
  rw [(fileWindowOf_bytes straps).2, fileWindowOf_base]
  have positive : 0 < 2 ^ (straps.toNat / 256) := Nat.two_pow_pos _
  generalize 2 ^ (straps.toNat / 256) = size at *
  generalize straps.toNat % 256 = high
  have split := Nat.div_add_mod high size
  have rest := Nat.mod_lt high positive
  rw [Nat.mul_comm size] at split
  refine ⟨?_, by omega, by omega⟩
  rw [Nat.mul_assoc, Nat.mul_comm size 65536]
  exact Nat.mul_mod_left _ _

/-- Settles O5: the file window comes first, then in ACTIVE the image windows and the journal window, then the clock
word. -/
theorem regionsDecoded : Obligations.RegionsDecoded := by
  refine ⟨fun s w => ⟨s.toPart.region_outsideRun w, fun bypass => ?_, fun f run window low high => ?_,
    fun run noFile => ?_, fun run noFile noAmended noClock => ?_⟩, fun straps =>
      ⟨(fileWindowOf_bytes straps).1, (fileWindowOf_bytes straps).2, fileWindowOf_aligned straps⟩⟩
  · obtain region | ⟨_, region⟩ | ⟨_, region⟩ := s.toPart.region_of_bypass w bypass <;> simp [region]
  · exact s.toPart.region_file w run f window _ (f.wordOf_of_inside w low high)
  · have decoded := s.toPart.region_setup w run fun f window => f.wordOf_of_outside w (noFile f window)
    rw [decoded]
    refine ⟨fun n b active base inside alone => s.setup.region_image w active n b base inside alone,
      fun j active journal low high noImage => s.setup.region_journal w active j journal low high noImage,
      fun a second clock inside noAmended => ?_⟩
    rw [s.setup.region_clockOnly w noAmended, s.setup.clockRegion_eq_some w a second clock inside]
    rfl
  · rw [s.toPart.region_setup w run fun f window => f.wordOf_of_outside w (noFile f window),
      s.setup.region_clockOnly w noAmended, s.setup.clockRegion_eq_none w noClock]
    rfl

end Sys2Proof.Machine

/-! PROOFS. Settle writes: which is granted next (R66, R167, R168), and what one that completes does (R66, R67, R69, R169). -/

namespace Sys2Proof.Machine

/-! ## Requests -/

/-- The first PENDING word of an overlay in ascending order is its lowest. -/
theorem find?_pending_iff (l : List OverlayWord) (o : OverlayWord) (ascending : l.Pairwise fun a b => a.word < b.word) :
    l.find? (·.pending) = some o ↔ o ∈ l ∧ o.pending = true ∧ ∀ x ∈ l, x.pending = true → o.word ≤ x.word := by
  induction l with
  | nil => simp
  | cons a l ih =>
    obtain ⟨first, rest⟩ := List.pairwise_cons.mp ascending
    cases pending : a.pending with
    | true =>
      rw [List.find?_cons_of_pos pending]
      constructor
      · rintro ⟨rfl⟩
        refine ⟨List.mem_cons_self, pending, fun x mem _ => ?_⟩
        obtain rfl | later := List.mem_cons.mp mem
        · exact le_rfl
        · exact (first x later).le
      · rintro ⟨mem, -, lowest⟩
        obtain rfl | later := List.mem_cons.mp mem
        · rfl
        · exact absurd (lowest a List.mem_cons_self pending) (by have := first o later; omega)
    | false =>
      rw [List.find?_cons_of_neg (by simp [pending]), ih rest]
      have skip (x : OverlayWord) (set : x.pending = true) : x ∈ a :: l ↔ x ∈ l := by
        rw [List.mem_cons]
        exact or_iff_right fun same => by simp [← same, set] at pending
      constructor
      · rintro ⟨mem, set, lowest⟩
        exact ⟨List.mem_cons_of_mem _ mem, set, fun x mem' set' => lowest x ((skip x set').mp mem') set'⟩
      · rintro ⟨mem, set, lowest⟩
        exact ⟨(skip o set).mp mem, set, fun x mem' => lowest x (List.mem_cons_of_mem _ mem')⟩

/-- R66: a context's own settle write is on the M-port. -/
theorem Part.settlingOwn_iff (p : Part) (n : Fin 4) :
    p.settlingOwn n = true ↔ ∃ x, p.path.settleWrite = some x ∧ x.owned = true ∧ x.context = n := by
  rw [Part.settlingOwn]
  cases p.path.settleWrite <;> simp

theorem Part.settleRequest_of_own (p : Part) (n : Fin 4) (h : p.settlingOwn n = true) : p.settleRequest n = none :=
  if_pos h

theorem Part.settleRequest_of_amended (p : Part) (n : Fin 4) (pr : Presentation) (h : ¬ p.settlingOwn n = true)
    (amended : p.context n = .amended pr) : p.settleRequest n = pr.overlay.find? (·.pending) := by
  rw [Part.settleRequest, if_neg h, amended]
  rfl

theorem Part.settleRequest_of_not_amended (p : Part) (n : Fin 4) (h : ∀ pr, p.context n ≠ .amended pr) :
    p.settleRequest n = none := by
  have none : (p.context n).settling = none := by
    cases context : p.context n with
    | amended pr => exact absurd context (h pr)
    | _ => rfl
  rw [Part.settleRequest, none]
  split <;> rfl

/-! ## Grants -/

theorem Part.settleFor_of_request (p : Part) (n : Fin 4) (o : OverlayWord) (base : BitVec 18)
    (request : p.settleRequest n = some o) (window : fourAt p.setup.windows.image n = some base) :
    p.settleFor n = some ⟨n, o.word, BitVec.ofNat 23 (base.toNat * 32 + o.word), o.value, true⟩ := by
  rw [Part.settleFor, request, window]
  rfl

theorem Part.settleFor_of_none (p : Part) (n : Fin 4) (request : p.settleRequest n = none) : p.settleFor n = none := by
  rw [Part.settleFor, request]

/-- R168: the first context in turn whose request stands. -/
theorem Part.nextSettle_eq (p : Part) (n : Fin 4) (before after : List (Fin 4)) (x : SettleWrite)
    (turns : turnsAfter p.path.lastGranted = before ++ n :: after) (none : ∀ m ∈ before, p.settleFor m = none)
    (first : p.settleFor n = some x) : p.nextSettle = some x := by
  rw [Part.nextSettle, turns, List.findSome?_append, List.findSome?_eq_none_iff.mpr none, List.findSome?_cons, first]
  rfl

theorem Part.startSettle_of_next (p : Part) (x : SettleWrite) (run : p.supply = .run) (cycle : p.path.cycle = none)
    (waiting : p.path.waiting = none) (settle : p.path.settleWrite = none) (next : p.nextSettle = some x) :
    p.startSettle = { p with path := { p.path with settleWrite := some x, lastGranted := x.context } } := by
  rw [Part.startSettle, if_pos (by simp [Part.mayPortSettle, run, cycle, waiting, settle]), next]

/-- Settles O6: the requests in turn, and the lowest PENDING word of each. -/
theorem settleWriteGrantedInTurn : Obligations.SettleWriteGrantedInTurn := by
  refine ⟨fun s n before after o base run cycle waiting settle turns earlier request window => ?_, fun s n =>
    ⟨fun pr o amended ascending notOwn => ?_, fun x settle owned context => ?_, s.toPart.settleRequest_of_not_amended n⟩⟩
  · refine exec_of_effect .settleWriteStart s _ (s.toPart.startSettle_of_next _ run cycle waiting settle ?_)
    exact s.toPart.nextSettle_eq n before after _ turns (fun m mem => s.toPart.settleFor_of_none m (earlier m mem))
      (s.toPart.settleFor_of_request n o base request window)
  · have other : ¬ s.toPart.settlingOwn n = true := by
      rw [Part.settlingOwn_iff]
      rintro ⟨x, settle, owned, context⟩
      exact notOwn x settle owned context
    rw [s.toPart.settleRequest_of_amended n pr other amended]
    exact find?_pending_iff pr.overlay o ascending
  · exact s.toPart.settleRequest_of_own n ((s.toPart.settlingOwn_iff n).mpr ⟨x, settle, owned, context⟩)

/-! ## The word written -/

theorem Part.noteSettled_of_foreign (p : Part) (x : SettleWrite)
    (h : x.owned = false ∨ ∀ pr, p.context x.context ≠ .amended pr) : p.noteSettled x = p := by
  rw [Part.noteSettled]
  split
  next pr owned amended =>
    obtain notOwned | notAmended := h
    · exact absurd (owned.symm.trans notOwned) (by simp)
    · exact absurd amended (notAmended pr)
  next => rfl

theorem Part.noteSettled_of_amended (p : Part) (x : SettleWrite) (pr : Presentation) (owned : x.owned = true)
    (amended : p.context x.context = .amended pr) :
    p.noteSettled x = p.amendedWith x.context (pr.markWritten x.word) := by
  rw [Part.noteSettled, owned, amended]

section Amended

variable (p : Part) (n : Fin 4) (pr : Presentation)

theorem Part.amendedWith_of_pending (h : pr.overlay.any (·.pending) = true) :
    p.amendedWith n pr = p.withContext n (.amended pr) := if_pos h

/-- R67: settled, and still to be confirmed. -/
theorem Part.amendedWith_of_awaiting (h : pr.overlay.any (·.pending) = false) (unconfirmed : pr.confirmed = false)
    (limit : Nat) (await : pr.await = .running limit) : p.amendedWith n pr = p.withContext n (.settled pr) := by
  rw [Part.amendedWith, if_neg (by simp [h]), Part.endSettling, if_neg (by simp [unconfirmed]), await]

/-- R12, R67: settled, with nothing to wait for: the context is EMPTY and the entry reference released. -/
theorem Part.amendedWith_of_done (h : pr.overlay.any (·.pending) = false)
    (done : pr.confirmed = true ∨ ∀ limit, pr.await ≠ .running limit) :
    p.amendedWith n pr = (p.releasePin pr.entry).withContext n .empty := by
  rw [Part.amendedWith, if_neg (by simp [h]), Part.endSettling]
  split
  · rfl
  next unconfirmed =>
    split
    next limit await => exact absurd await ((done.resolve_left unconfirmed) limit)
    · rfl
    · rfl

end Amended

/-- R12: a release at once on a free table, or one to be taken. -/
theorem Part.releasePin_eq (p : Part) (n : Nat) : p.releasePin n = { p with
    store := if p.arbiter.op = none then p.store.unpin n else p.store
    arbiter := if p.arbiter.op = none then p.arbiter
      else { p.arbiter with releases := p.arbiter.releases ++ [n] } } := by
  by_cases free : p.arbiter.op = none
  · simp only [Part.releasePin, if_pos free]
  · simp only [Part.releasePin, if_neg free]

theorem Part.claimsGranted.releasePin {p : Part} (h : p.claimsGranted) (n : Nat) : (p.releasePin n).claimsGranted := by
  by_cases free : p.arbiter.op = none
  · exact p.claimsGranted_of_arbiter _ (by simp [p.releasePin_eq, free]) h
  · exact (Part.claimsGranted_iff _).mpr (.inl (by simp [p.releasePin_eq, free]))

theorem Part.claimsGranted.amendedWith {p : Part} (h : p.claimsGranted) (n : Fin 4) (pr : Presentation) :
    (p.amendedWith n pr).claimsGranted := by
  have context (c : Context) : (p.withContext n c).claimsGranted := p.claimsGranted_of_arbiter _ rfl h
  have emptied : ((p.releasePin pr.entry).withContext n .empty).claimsGranted :=
    (p.releasePin pr.entry).claimsGranted_of_arbiter _ rfl (h.releasePin pr.entry)
  rw [Part.amendedWith, Part.endSettling]
  split
  · exact context _
  split
  · exact emptied
  split
  · exact context _
  all_goals exact emptied

theorem Part.claimsGranted.noteSettled {p : Part} (h : p.claimsGranted) (x : SettleWrite) :
    (p.noteSettled x).claimsGranted := by
  rw [Part.noteSettled]
  split
  · exact h.amendedWith _ _
  · exact h

/-- The settled word is noted whatever the memory path holds. -/
theorem Part.amendedWith_withPath (p : Part) (m : MemoryPath) (n : Fin 4) (pr : Presentation) :
    ({ p with path := m } : Part).amendedWith n pr = { p.amendedWith n pr with path := m } := by
  rw [Part.amendedWith, Part.amendedWith, Part.endSettling, Part.endSettling, Part.releasePin_eq, Part.releasePin_eq]
  split
  · rfl
  split
  · rfl
  split <;> rfl

theorem Part.noteSettled_withPath (p : Part) (m : MemoryPath) (x : SettleWrite) :
    ({ p with path := m } : Part).noteSettled x = { p.noteSettled x with path := m } := by
  by_cases foreign : x.owned = false ∨ ∀ pr, p.context x.context ≠ .amended pr
  · rw [p.noteSettled_of_foreign x foreign]
    exact Part.noteSettled_of_foreign _ x foreign
  · obtain ⟨owned, amended⟩ := not_or.mp foreign
    obtain ⟨pr, amended⟩ := not_forall_not.mp amended
    have isOwned : x.owned = true := by simpa using owned
    rw [p.noteSettled_of_amended x pr isOwned amended, ← p.amendedWith_withPath m]
    exact Part.noteSettled_of_amended _ x pr isOwned amended

/-! ## Completion -/

/-- R66: memory has taken the settle write, and the M-port is free. -/
def Part.settleLanded (p : Part) (x : SettleWrite) : Part :=
  { p.writeMemory x.address (bytesOf x.value) with path := { p.path with settleWrite := none } }

/-- R66: the settle write noted too, and no cycle waiting. -/
def Part.settleDone (p : Part) (x : SettleWrite) : Part :=
  { (p.settleLanded x).noteSettled x with path := { p.path with settleWrite := none, waiting := none } }

theorem Part.completeSettle_eq (p : Part) (x : SettleWrite) (settle : p.path.settleWrite = some x) :
    p.completeSettle = (((p.settleLanded x).noteSettled x).takeWaiting).grant := by
  rw [Part.completeSettle, settle]
  rfl

theorem Part.claimsGranted.settleLanded {p : Part} (h : p.claimsGranted) (x : SettleWrite) :
    (p.settleLanded x).claimsGranted := p.claimsGranted_of_arbiter _ rfl h

theorem Part.takeWaiting_of_none (p : Part) (h : p.path.waiting = none) : p.takeWaiting = p := by
  rw [Part.takeWaiting, h]

/-- R66: a settle write completes while no cycle waits for it. -/
theorem Part.completeSettle_of_idle (p : Part) (x : SettleWrite) (settle : p.path.settleWrite = some x)
    (waiting : p.path.waiting = none) (granted : p.claimsGranted) :
    p.completeSettle = (p.settleLanded x).noteSettled x := by
  have noted : ((p.settleLanded x).noteSettled x).claimsGranted := (granted.settleLanded x).noteSettled x
  rw [p.completeSettle_eq x settle, Part.takeWaiting_of_none _ (by simpa [Part.settleLanded] using waiting), noted]

/-- R169: with a cycle waiting, the settle write completes as it would without, and the cycle then arrives. -/
theorem Part.completeSettle_of_waiting (p : Part) (x : SettleWrite) (w : BitVec 23) (a : Access)
    (settle : p.path.settleWrite = some x) (waiting : p.path.waiting = some (w, a)) (cycle : p.path.cycle = none)
    (run : p.supply = .run) (granted : p.claimsGranted) :
    p.completeSettle =
      (({ p with path := { p.path with waiting := none } } : Part).completeSettle).finishCold.arrive w a := by
  have path : ((p.settleLanded x).noteSettled x).path = { p.path with settleWrite := none } := by
    simp [Part.settleLanded]
  have alone : ({ p with path := { p.path with waiting := none } } : Part).completeSettle = p.settleDone x :=
    (Part.completeSettle_of_idle { p with path := { p.path with waiting := none } } x settle rfl
      (p.claimsGranted_of_arbiter _ rfl granted)).trans
      ((p.settleLanded x).noteSettled_withPath { p.path with settleWrite := none, waiting := none } x)
  have accepted : ((p.settleLanded x).noteSettled x).takeWaiting = (p.settleDone x).takeCycle w a := by
    rw [Part.takeWaiting, path]
    simp only [waiting]
    rfl
  have atOnce : (p.settleDone x).takesAtOnce := by
    refine ⟨?_, rfl, ((p.settleLanded x).noteSettled x).claimsGranted_of_arbiter _ rfl ((granted.settleLanded x).noteSettled x)⟩
    simp [Part.accepts, Part.settleDone, Part.settleLanded, run, cycle]
  rw [p.completeSettle_eq x settle, alone, accepted, (p.settleDone x).arrive_of_takesAtOnce w a atOnce]

/-- Settles O7: memory written, the word noted as its context stands, and a waiting cycle taken as one that arrives. -/
theorem settleWriteCompletes : Obligations.SettleWriteCompletes := by
  refine ⟨fun s x settle waiting granted => ?_, fun _ _ => rfl, fun s x w a settle waiting cycle run granted => ?_⟩
  · have completed := s.toPart.completeSettle_of_idle x settle waiting granted
    refine ⟨_, exec_of_effect .settleWriteComplete s _ completed, ?_, fun foreign => ?_, fun pr owned amended =>
      ⟨fun pending => ?_, fun settled unconfirmed limit await => ?_, fun settled done => ?_⟩⟩
    · intro a
      have memory : ((s.toPart.settleLanded x).noteSettled x).memoryByte a
          = (s.toPart.writeMemory x.address (bytesOf x.value)).memoryByte a := by
        simp [Part.memoryByte, Part.settleLanded]
      exact memory.trans (s.toPart.memoryTakes_carryWrite_pass s.toPart x.address (bytesOf x.value) .none rfl rfl a)
    · rw [(s.toPart.settleLanded x).noteSettled_of_foreign x foreign]
      rfl
    · rw [(s.toPart.settleLanded x).noteSettled_of_amended x pr owned amended, Part.amendedWith_of_pending _ _ _ pending]
      rfl
    · rw [(s.toPart.settleLanded x).noteSettled_of_amended x pr owned amended,
        Part.amendedWith_of_awaiting _ _ _ settled unconfirmed limit await]
      rfl
    · rw [(s.toPart.settleLanded x).noteSettled_of_amended x pr owned amended, Part.amendedWith_of_done _ _ _ settled done,
        Part.releasePin_eq]
      rfl
  · refine ⟨_, exec_of_effect .settleWriteComplete _ _ rfl, ?_⟩
    rw [exec_eq_act, exec_eq_act]
    exact congrArg (fun q => Host.Outcome.next { s with toPart := q })
      (s.toPart.completeSettle_of_waiting x w a settle waiting cycle run granted)

end Sys2Proof.Machine

/-! PROOFS. Writes into the file window (R29 to R36, R41): a word entered, a file begun, and a file refused in the middle. -/

namespace Sys2Proof.Machine

/-! ## A write that passes -/

theorem Part.memoryTakes_grant {p q : Part} {w : BitVec 23} {b : LaneBytes} (h : p.memoryTakes q w b) :
    p.memoryTakes q.grant w b := by
  intro a
  have same : q.grant.memoryByte a = q.memoryByte a := by simp [Part.memoryByte]
  rw [same]
  exact h a

theorem Part.grant_memory (p : Part) : p.grant.memory = p.memory := by simp

/-- R29, R162: a write into the file window passes where intake holds no record over it. -/
theorem fileWrite_passes (s : State) (w : BitVec 23) (b : LaneBytes) (k : Nat) (q : Part) (atOnce : s.takesAtOnce)
    (region : s.region w = .file k) (driven : b.upper.isSome ∨ b.lower.isSome) (wrote : s.toPart.fileWrite k b = q)
    (held : q.intake.held = none) :
    commandEffect (.fileWindowWrite w b) s.toPart = (q.carryWrite w b .fileIntake .pass).grant := by
  have effect : commandEffect (.fileWindowWrite w b) s.toPart = s.toPart.finishCold.arrive w (.write b) := rfl
  have taken : s.toPart.takeWrite w b = q.carryWrite w b .fileIntake .pass := by
    rw [Part.takeWrite, region]
    simp only [wrote, held]
    rfl
  rw [effect, s.toPart.finishCold_of_accepts atOnce.1, s.toPart.arrive_write_of_takesAtOnce w b atOnce driven, taken]

/-- Where the write brings no claim, there is none to grant. -/
theorem fileWrite_passes_unclaimed (s : State) (w : BitVec 23) (b : LaneBytes) (k : Nat) (q : Part)
    (atOnce : s.takesAtOnce) (region : s.region w = .file k) (driven : b.upper.isSome ∨ b.lower.isSome)
    (wrote : s.toPart.fileWrite k b = q) (held : q.intake.held = none) (arbiter : q.arbiter = s.arbiter) :
    commandEffect (.fileWindowWrite w b) s.toPart = q.carryWrite w b .fileIntake .pass := by
  have granted : (q.carryWrite w b .fileIntake .pass).claimsGranted :=
    s.toPart.claimsGranted_of_arbiter _ (by simp [arbiter]) atOnce.2.2
  rw [fileWrite_passes s w b k q atOnce region driven wrote held, granted]

/-! ## Intake at rest -/

theorem Part.takesAtOnce.noCycle {p : Part} (h : p.takesAtOnce) : p.path.cycle = none := (p.accepts_noCycle h.1).1

/-- R37: with nothing buffered, or intake waiting, no record is taken. -/
theorem Part.takeHead_of_waiting (p : Part) (h : p.intake.buffer = [] ∨ p.intakeBlocked) : p.takeHead = p := by
  rw [Part.takeHead]
  split
  next => rfl
  next r rest buffer =>
    obtain empty | blocked := h
    · exact absurd (empty.symm.trans buffer) (by simp)
    · rw [if_pos (by simpa [Part.intakeBlocked] using blocked)]

/-- R30, R36: with no record held, and nothing buffered or intake waiting, there is nothing to do. -/
theorem Part.intakeWork_of_waiting (p : Part) (held : p.intake.held = none)
    (h : p.intake.buffer = [] ∨ p.intakeBlocked) : p.intakeWork = p := by
  have took := p.takeHead_of_waiting h
  have admitted := p.admitHeld_of_none held
  rw [Part.intakeWork, took, admitted, took, admitted, took, admitted]

theorem Part.intakeBlocked_of_running (p : Part) (c : IntakeClaim) (h : p.arbiter.op = some (.intake c)) :
    p.intakeBlocked := .inl (by simp [Part.intakeOutstanding, Part.intakeRunning, h])

/-! ## Refusals -/

/-- R41: intake once the file in hand has ended. -/
def Intake.ended (i : Intake) (state : IntakeState) : Intake :=
  { i with
    state := state, cursor := .closed, assembly := [], buffer := [], staging := none,
    trailerBuffered := false, held := none }

theorem Part.endFile_eq (p : Part) (state : IntakeState) :
    p.endFile state = { p.releaseHeldWrite with intake := p.intake.ended state } := by
  rw [Part.endFile]
  simp only [Part.releaseHeldWrite_keeps]
  rfl

/-- R41: a file refused while no operation of intake's is in progress. -/
theorem Part.refuse_of_notRunning (p : Part) (reason : FileRefusal) (h : p.intakeRunning = none) :
    p.refuse reason = { p.releaseHeldWrite with
      arbiter := { p.arbiter with intake := some .discard }
      intake := p.intake.ended .draining
      counters := p.counters.refusal reason } := by
  have running : (p.endFile .draining).intakeRunning = none := by
    have arbiter : (p.endFile .draining).arbiter = p.arbiter := by simp
    rw [Part.intakeRunning_eq, arbiter]
    exact h
  rw [Part.refuse, Part.orderDiscard, running, p.endFile_eq]
  simp [Part.claimIntake, Part.count]

/-- R41: a file refused during an operation of intake's: its answer ignored, the discard owed. -/
theorem Part.refuse_of_running (p : Part) (reason : FileRefusal) (c : IntakeClaim)
    (h : p.arbiter.op = some (.intake c)) :
    p.refuse reason = { p.releaseHeldWrite with
      intake := { p.intake.ended .draining with answerIgnored := true, discardOwed := true }
      counters := p.counters.refusal reason } := by
  have running : (p.endFile .draining).intakeRunning = some c := by
    rw [Part.intakeRunning_eq, intakeOf_eq_some, Part.endFile_eq]
    simpa using h
  rw [Part.refuse, Part.orderDiscard, running, p.endFile_eq]
  simp [Part.count]

theorem Part.intakeRunning_of_op (p : Part) (c : IntakeClaim) (h : p.arbiter.op = some (.intake c)) :
    p.intakeRunning = some c := by rw [Part.intakeRunning, h]

theorem Part.discardClaimed.grant {p : Part} (h : p.discardClaimed) : p.grant.discardClaimed := by
  obtain ⟨waiting, running⟩ | ⟨free, -, running, -⟩ := p.grant_claims
  · obtain claimed | op := h
    · exact .inl (waiting.trans claimed)
    · refine .inr ((intakeOf_eq_some _ _).mp (running.trans ?_))
      rw [op]
      rfl
  · obtain claimed | op := h
    · exact .inr (by rw [running, claimed]; rfl)
    · exact absurd (free.symm.trans op) (by simp)

/-! ## A word entered -/

theorem overlaid_noBytes (b : LaneBytes) : overlaid noBytes b = b := by
  obtain ⟨_ | _, _ | _⟩ := b <;> rfl

/-- R32: a word whose lanes are all written is entered, and the cursor moves on. -/
theorem Part.acceptWord_of_whole (p : Part) (word : Nat) (written b : LaneBytes) (u l : Byte)
    (whole : overlaid written b = ⟨some u, some l⟩) (notLast : word % 16 ≠ 15) :
    p.acceptWord word written b = { p with intake := { p.intake with
      cursor := .onWord (word + 1) noBytes, assembly := p.intake.assembly ++ [joinBytes u l] } } := by
  simp only [Part.acceptWord, whole, wholeWord, if_neg notLast]

/-- R32: a word still in want of a lane stays at the cursor. -/
theorem Part.acceptWord_of_partial (p : Part) (word : Nat) (written b : LaneBytes)
    (lacks : wholeWord (overlaid written b) = none) :
    p.acceptWord word written b = { p with intake := { p.intake with cursor := .onWord word (overlaid written b) } } := by
  simp only [Part.acceptWord, lacks]

theorem Part.followWrite_at_cursor (p : Part) (word : Nat) (written b : LaneBytes)
    (state : p.intake.state = .receiving) (cursor : p.intake.cursor = .onWord word written) :
    p.followWrite word b = p.acceptWord word written b := by
  rw [Part.followWrite, state, cursor]
  exact if_pos rfl

theorem wholeWord_of_lacking (b : LaneBytes) (h : b.upper = none ∨ b.lower = none) : wholeWord b = none := by
  obtain ⟨_ | u, _ | l⟩ := b
  case some.some => exact absurd h (by simp)
  all_goals rfl

/-- R32: the word at the cursor, not the last of its record, entered: whole or in part. -/
theorem Part.acceptWord_notLast (p : Part) (word : Nat) (written b : LaneBytes) (notLast : word % 16 ≠ 15) :
    p.acceptWord word written b = { p with
      intake := match (overlaid written b).upper, (overlaid written b).lower with
        | some u, some l => { p.intake with
            cursor := .onWord (word + 1) ⟨none, none⟩, assembly := p.intake.assembly ++ [joinBytes u l] }
        | _, _ => { p.intake with cursor := .onWord word (overlaid written b) } } := by
  cases upper : (overlaid written b).upper with
  | none => exact p.acceptWord_of_partial word written b (wholeWord_of_lacking _ (.inl upper))
  | some u =>
    cases lower : (overlaid written b).lower with
    | none => exact p.acceptWord_of_partial word written b (wholeWord_of_lacking _ (.inr lower))
    | some l => exact p.acceptWord_of_whole word written b u l (by rw [← upper, ← lower]) notLast

/-- A word entered leaves the records in hand. -/
theorem Part.acceptWord_keepsRecords (p : Part) (word : Nat) (written b : LaneBytes) (notLast : word % 16 ≠ 15) :
    (p.acceptWord word written b).intake.buffer = p.intake.buffer
      ∧ (p.acceptWord word written b).intake.held = p.intake.held
      ∧ (p.acceptWord word written b).intake.discardOwed = p.intake.discardOwed := by
  rw [p.acceptWord_notLast word written b notLast]
  dsimp only
  split <;> exact ⟨rfl, rfl, rfl⟩

/-- Settles O8: the write enters the word at the cursor and goes to memory; intake waits as it did. -/
theorem fileWordAccepted : Obligations.FileWordAccepted := by
  intro s w b written k atOnce region driven waits state cursor notLast
  obtain ⟨ready, blocked⟩ := s.toPart.intakeWaits_iff.mp waits
  obtain ⟨buffer, held, owed⟩ := s.toPart.acceptWord_keepsRecords k written b notLast
  have noneHeld : (s.toPart.acceptWord k written b).intake.held = none :=
    held.trans (ready.written.held_none atOnce.noCycle)
  have wrote : s.toPart.fileWrite k b = s.toPart.acceptWord k written b := by
    rw [Part.fileWrite, s.toPart.followWrite_at_cursor k written b state cursor]
    refine Part.intakeWork_of_waiting _ noneHeld ?_
    rw [buffer]
    by_cases empty : s.intake.buffer = []
    · exact .inl empty
    · exact .inr (Part.intakeBlocked_of_sameClaims (blocked empty) (Part.sameClaims_of_arbiter (by simp)) owed)
  have effect := fileWrite_passes_unclaimed s w b k _ atOnce region driven wrote noneHeld (by simp)
  refine ⟨_, exec_of_effect _ s _ effect, s.toPart.memoryTakes_carryWrite_pass _ w b _ (by simp) (by simp), ?_⟩
  rw [s.toPart.acceptWord_notLast k written b notLast]
  rfl

end Sys2Proof.Machine

/-! PROOFS. A file begun with a write to word 0 (R31, R33, R41), and a file refused in the middle (R34, R36, R41). -/

namespace Sys2Proof.Machine

/-! ## A file begun -/

/-- R31: intake as a file begins, its first write entered. -/
def Intake.beginsWith (i : Intake) (b : LaneBytes) : Intake :=
  { i with
    state := .receiving, staging := none
    cursor := match b.upper, b.lower with
      | some _, some _ => .onWord 1 ⟨none, none⟩
      | _, _ => .onWord 0 b
    assembly := match b.upper, b.lower with
      | some u, some l => [joinBytes u l]
      | _, _ => [] }

theorem Part.acceptWord_begun (q : Part) (b : LaneBytes) :
    Part.acceptWord { q with intake := q.intake.begun } 0 noBytes b = { q with intake := q.intake.beginsWith b } := by
  rw [Part.acceptWord_notLast _ 0 noBytes b (by decide), overlaid_noBytes]
  obtain ⟨_ | u, _ | l⟩ := b <;> rfl

theorem Part.beginFile_beginsWith (p : Part) (b : LaneBytes) :
    p.beginFile b = { p.fileAbandoned with intake := p.fileAbandoned.intake.beginsWith b } := by
  rw [Part.beginFile_eq, Part.acceptWord_begun]

/-- R31, R33: a write to word 0 begins a file, unless the cursor stands on word 0. -/
theorem Part.followWrite_begins (p : Part) (b : LaneBytes)
    (h : p.intake.state ≠ .receiving ∨ ∀ written, p.intake.cursor ≠ .onWord 0 written) :
    p.followWrite 0 b = p.beginFile b := by
  rw [Part.followWrite.eq_def]
  split
  next word written state cursor =>
    split
    next atCursor =>
      obtain notReceiving | off := h
      · exact absurd state notReceiving
      · exact absurd cursor (atCursor ▸ off written)
    next => rfl
  all_goals rfl

theorem Part.fileAbandoned_of_other (p : Part) (h : p.intake.state ≠ .receiving) : p.fileAbandoned = p := if_neg h

theorem Part.fileAbandoned_of_refused (p : Part) (receiving : p.intake.state = .receiving)
    (h : p.ownCommitRunning = false) : p.fileAbandoned = p.refuse .abandoned := by
  rw [Part.fileAbandoned, if_pos receiving, if_neg (by simp [h])]

/-- R33: while the file's own commit is in progress its answer is ignored, and no more. -/
theorem Part.fileAbandoned_of_ownCommit (p : Part) (receiving : p.intake.state = .receiving)
    (h : p.ownCommitRunning = true) :
    p.fileAbandoned = { p with intake := { p.intake with answerIgnored := true } } := by
  rw [Part.fileAbandoned, if_pos receiving, if_pos h]

theorem Part.ownCommitRunning_of_notRunning (p : Part) (h : p.intakeRunning = none) : p.ownCommitRunning = false := by
  rw [Part.ownCommitRunning, h]
  rfl

theorem Part.ownCommitRunning_of_running (p : Part) (c : IntakeClaim) (op : p.arbiter.op = some (.intake c)) :
    p.ownCommitRunning = (c.isCommit && !p.intake.answerIgnored) := by
  rw [Part.ownCommitRunning, p.intakeRunning_of_op c op]
  rfl

theorem IntakeClaim.isCommit_eq_false (c : IntakeClaim) (h : ∀ m, c ≠ .commit m) : c.isCommit = false := by
  cases c with
  | commit m => exact absurd rfl (h m)
  | _ => rfl

/-- Where no record was held, the file that ended leaves intake as it was but for its records. -/
theorem Intake.ended_beginsWith (i : Intake) (state : IntakeState) (b : LaneBytes) (held : i.held = none) :
    (i.ended state).beginsWith b = ({ i with buffer := [], trailerBuffered := false } : Intake).beginsWith b := by
  obtain ⟨_, _, _, _, _, _, _, _, _⟩ := i
  obtain rfl : _ = none := held
  rfl

/-- R31: the write that begins a file leaves nothing to take: no record is buffered, or intake waits. -/
theorem Part.fileWrite_begins (p : Part) (b : LaneBytes)
    (h : p.intake.state ≠ .receiving ∨ ∀ written, p.intake.cursor ≠ .onWord 0 written)
    (held : p.fileAbandoned.intake.held = none)
    (waits : p.fileAbandoned.intake.buffer = [] ∨ p.fileAbandoned.intakeBlocked) :
    p.fileWrite 0 b = { p.fileAbandoned with intake := p.fileAbandoned.intake.beginsWith b } := by
  rw [Part.fileWrite, p.followWrite_begins b h, p.beginFile_beginsWith]
  exact Part.intakeWork_of_waiting _ held waits

/-- Settles O9: the file begun from each state of intake's, the one in hand abandoned as the table allows. -/
theorem fileBegins : Obligations.FileBegins := by
  intro s w b atOnce region driven held
  have released : s.toPart.releaseHeldWrite = s.toPart := s.toPart.releaseHeldWrite_of_noCycle atOnce.noCycle
  have takes {q : Part} (memory : q.memory = s.memory) (epoch : q.memoryEpoch = s.memoryEpoch) :
      s.memoryTakes (q.carryWrite w b .fileIntake .pass) w b := s.toPart.memoryTakes_carryWrite_pass q w b _ memory epoch
  refine ⟨fun other buffer => ?_, fun receiving off => ⟨fun notRunning => ?_, fun c op foreign => ?_,
    fun m op notIgnored => ?_⟩⟩
  · have abandoned := s.toPart.fileAbandoned_of_other other
    have wrote := s.toPart.fileWrite_begins b (.inl other) (by rw [abandoned]; exact held)
      (.inl (by rw [abandoned]; exact buffer))
    rw [abandoned] at wrote
    have effect := fileWrite_passes_unclaimed s w b 0 _ atOnce region driven wrote held rfl
    exact ⟨_, exec_of_effect _ s _ effect, takes rfl rfl, rfl⟩
  · have abandoned : s.toPart.fileAbandoned = _ :=
      (s.toPart.fileAbandoned_of_refused receiving (s.toPart.ownCommitRunning_of_notRunning notRunning)).trans
        (s.toPart.refuse_of_notRunning .abandoned notRunning)
    have wrote := s.toPart.fileWrite_begins b (.inr off) (by rw [abandoned]; rfl) (.inl (by rw [abandoned]; rfl))
    rw [abandoned, released] at wrote
    have effect := fileWrite_passes s w b 0 _ atOnce region driven wrote rfl
    refine ⟨_, exec_of_effect _ s _ effect, Part.memoryTakes_grant (takes rfl rfl), Part.discardClaimed.grant (.inl rfl), ?_⟩
    dsimp only
    rw [s.intake.ended_beginsWith .draining b held, Part.grant_memory]
    rfl
  · have notOwn : s.toPart.ownCommitRunning = false := by
      rw [s.toPart.ownCommitRunning_of_running c op]
      obtain notCommit | ignored := foreign
      · rw [c.isCommit_eq_false notCommit]
        rfl
      · simp [ignored]
    have abandoned : s.toPart.fileAbandoned = _ :=
      (s.toPart.fileAbandoned_of_refused receiving notOwn).trans (s.toPart.refuse_of_running .abandoned c op)
    have wrote := s.toPart.fileWrite_begins b (.inr off) (by rw [abandoned]; rfl) (.inl (by rw [abandoned]; rfl))
    rw [abandoned, released] at wrote
    have effect := fileWrite_passes_unclaimed s w b 0 _ atOnce region driven wrote rfl rfl
    refine ⟨_, exec_of_effect _ s _ effect, takes rfl rfl, ?_⟩
    have intake : ({ s.intake.ended .draining with answerIgnored := true, discardOwed := true } : Intake).beginsWith b = _ :=
      ({ s.intake with answerIgnored := true, discardOwed := true } : Intake).ended_beginsWith .draining b held
    rw [intake]
    rfl
  · have own : s.toPart.ownCommitRunning = true := by
      rw [s.toPart.ownCommitRunning_of_running _ op, notIgnored]
      rfl
    have abandoned := s.toPart.fileAbandoned_of_ownCommit receiving own
    have wrote := s.toPart.fileWrite_begins b (.inr off) (by rw [abandoned]; exact held)
      (.inr (Part.intakeBlocked_of_running _ _ (by rw [abandoned]; exact op)))
    rw [abandoned] at wrote
    have effect := fileWrite_passes_unclaimed s w b 0 _ atOnce region driven wrote held rfl
    exact ⟨_, exec_of_effect _ s _ effect, takes rfl rfl, rfl⟩

/-! ## A file refused in the middle -/

/-- R32: a write off the cursor, other than to word 0. -/
theorem Part.followWrite_off (p : Part) (k c : Nat) (written b : LaneBytes) (receiving : p.intake.state = .receiving)
    (cursor : p.intake.cursor = .onWord c written) (off : k ≠ c) (notFirst : k ≠ 0) :
    p.followWrite k b = p.refuse .order := by
  rw [Part.followWrite, receiving, cursor]
  dsimp only
  rw [if_neg off, if_neg notFirst]

/-- R34: with the cursor CLOSED, and in IDLE and DRAINING, a write other than to word 0 is unobserved. -/
theorem Part.followWrite_unobserved (p : Part) (k : Nat) (b : LaneBytes) (notFirst : k ≠ 0)
    (h : p.intake.state ≠ .receiving ∨ p.intake.cursor = .closed) : p.followWrite k b = p := by
  rw [Part.followWrite.eq_def]
  split
  next receiving cursor =>
    obtain other | closed := h
    · exact absurd receiving other
    · exact absurd (closed.symm.trans cursor) (by simp)
  all_goals exact if_neg notFirst

theorem Part.fileWrite_refused (p : Part) (k : Nat) (b : LaneBytes) (reason : FileRefusal)
    (h : p.followWrite k b = p.refuse reason) : p.fileWrite k b = p.refuse reason := by
  obtain ⟨buffer, held⟩ := p.refuse_buffers reason
  rw [Part.fileWrite, h, Part.intakeWork_of_waiting _ held (.inl buffer)]

theorem Part.grant_of_running (p : Part) (h : p.arbiter.op ≠ none) : p.grant = p :=
  p.claimsGranted_iff.mpr (.inl h)

theorem Part.releaseHeldWrite_of_held (p : Part) (w : BitVec 23) (b : LaneBytes)
    (h : p.path.cycle = some ⟨w, .fileIntake, .write b .hold⟩) :
    p.releaseHeldWrite = p.carryWrite w b .fileIntake .pass := by
  rw [Part.releaseHeldWrite, h]

theorem Part.expireIntakeHold_of_held (p : Part) (w : BitVec 23) (b : LaneBytes)
    (h : p.path.cycle = some ⟨w, .fileIntake, .write b .hold⟩) : p.expireIntakeHold = (p.refuse .stall).grant := by
  rw [Part.expireIntakeHold, h]

/-- R32: a write off the cursor refuses the file with ORDER. -/
theorem fileRefused_order (s : State) (w : BitVec 23) (b written : LaneBytes) (k c : Nat) (atOnce : s.takesAtOnce)
    (region : s.region w = .file k) (driven : b.upper.isSome ∨ b.lower.isSome) (receiving : s.intake.state = .receiving)
    (cursor : s.intake.cursor = .onWord c written) (off : k ≠ c) (notFirst : k ≠ 0) :
    (s.intakeRunning = none →
      ∃ t, exec (.fileWindowWrite w b) s = .next t
        ∧ s.memoryTakes t.toPart w b
        ∧ t.discardClaimed
        ∧ t = { s with
            toPart := Part.grant { s.toPart with
              path := s.path.carrying ⟨w, .fileIntake, .write b .pass⟩ none ⟨none, none⟩
              memory := t.memory
              arbiter := { s.arbiter with intake := some .discard }
              intake := s.intake.ended .draining, counters := s.counters.refusal .order } })
    ∧ ∀ o, s.arbiter.op = some (.intake o) →
      ∃ t, exec (.fileWindowWrite w b) s = .next t
        ∧ s.memoryTakes t.toPart w b
        ∧ t = { s with
            path := s.path.carrying ⟨w, .fileIntake, .write b .pass⟩ none ⟨none, none⟩
            memory := t.memory
            intake := { s.intake.ended .draining with answerIgnored := true, discardOwed := true }
            counters := s.counters.refusal .order } := by
  have wrote := s.toPart.fileWrite_refused k b .order (s.toPart.followWrite_off k c written b receiving cursor off notFirst)
  have released : s.toPart.releaseHeldWrite = s.toPart := s.toPart.releaseHeldWrite_of_noCycle atOnce.noCycle
  have takes {q : Part} (memory : q.memory = s.memory) (epoch : q.memoryEpoch = s.memoryEpoch) :
      s.memoryTakes (q.carryWrite w b .fileIntake .pass) w b := s.toPart.memoryTakes_carryWrite_pass q w b _ memory epoch
  refine ⟨fun notRunning => ?_, fun o op => ?_⟩
  · rw [s.toPart.refuse_of_notRunning .order notRunning, released] at wrote
    have effect := fileWrite_passes s w b k _ atOnce region driven wrote rfl
    refine ⟨_, exec_of_effect _ s _ effect, Part.memoryTakes_grant (takes rfl rfl), Part.discardClaimed.grant (.inl rfl), ?_⟩
    dsimp only
    rw [Part.grant_memory]
    rfl
  · rw [s.toPart.refuse_of_running .order o op, released] at wrote
    have effect := fileWrite_passes_unclaimed s w b k _ atOnce region driven wrote rfl rfl
    exact ⟨_, exec_of_effect _ s _ effect, takes rfl rfl, rfl⟩

/-- R36: the hold of an intake write runs out: the write goes to memory, and the file is refused with STALL. -/
theorem fileRefused_stall (s : State) (w : BitVec 23) (b : LaneBytes)
    (cycle : s.path.cycle = some ⟨w, .fileIntake, .write b .hold⟩) :
    (s.intakeRunning = none →
      ∃ t, exec .intakeHoldExpiry s = .next t
        ∧ s.memoryTakes t.toPart w b
        ∧ t.discardClaimed
        ∧ t = { s with
            toPart := Part.grant { s.toPart with
              path := s.path.carrying ⟨w, .fileIntake, .write b .pass⟩ none ⟨none, none⟩
              memory := t.memory
              arbiter := { s.arbiter with intake := some .discard }
              intake := s.intake.ended .draining, counters := s.counters.refusal .stall } })
    ∧ ∀ o, s.arbiter.op = some (.intake o) →
      ∃ t, exec .intakeHoldExpiry s = .next t
        ∧ s.memoryTakes t.toPart w b
        ∧ t = { s with
            path := s.path.carrying ⟨w, .fileIntake, .write b .pass⟩ none ⟨none, none⟩
            memory := t.memory
            intake := { s.intake.ended .draining with answerIgnored := true, discardOwed := true }
            counters := s.counters.refusal .stall } := by
  have effect : commandEffect .intakeHoldExpiry s.toPart = (s.toPart.refuse .stall).grant :=
    s.toPart.expireIntakeHold_of_held w b cycle
  have takes : s.memoryTakes (s.toPart.carryWrite w b .fileIntake .pass) w b :=
    s.toPart.memoryTakes_carryWrite_pass _ w b _ rfl rfl
  refine ⟨fun notRunning => ?_, fun o op => ?_⟩
  · rw [s.toPart.refuse_of_notRunning .stall notRunning, s.toPart.releaseHeldWrite_of_held w b cycle] at effect
    refine ⟨_, exec_of_effect _ s _ effect, Part.memoryTakes_grant takes, Part.discardClaimed.grant (.inl rfl), ?_⟩
    dsimp only
    rw [Part.grant_memory]
    rfl
  · have running : (s.toPart.refuse .stall).arbiter.op ≠ none := by simp [Part.refuse_op, op]
    rw [Part.grant_of_running _ running, s.toPart.refuse_of_running .stall o op,
      s.toPart.releaseHeldWrite_of_held w b cycle] at effect
    exact ⟨_, exec_of_effect _ s _ effect, takes, rfl⟩

/-- Settles O10: ORDER and STALL, and the writes that intake does not observe. -/
theorem fileRefusedMidway : Obligations.FileRefusedMidway := by
  refine ⟨fun s w b written k c => fileRefused_order s w b written k c, fun s w b => fileRefused_stall s w b,
    fun s w b k atOnce region driven notFirst unobserved held waits => ?_⟩
  have wrote : s.toPart.fileWrite k b = s.toPart := by
    rw [Part.fileWrite, s.toPart.followWrite_unobserved k b notFirst unobserved]
    exact s.toPart.intakeWork_of_waiting held (waits.imp_right .inl)
  have effect := fileWrite_passes_unclaimed s w b k _ atOnce region driven wrote held rfl
  exact ⟨_, exec_of_effect _ s _ effect, s.toPart.memoryTakes_carryWrite_pass _ w b _ rfl rfl, rfl⟩

end Sys2Proof.Machine

/-! PROOFS. The checks of a file record in their order (R37), and of each kind (R38 to R45, R191). -/

namespace Sys2Proof.Machine

/-! ## The common checks -/

theorem takenCount_eq (staging : Option StagingFile) : takenCount staging = (staging.map (·.taken)).getD 0 := by
  cases staging <;> rfl

theorem owedCount_eq (staging : Option StagingFile) : owedCount staging = (staging.map (·.owed)).getD 0 := by
  cases staging <;> rfl

theorem checkRecord_of_failure (committed : BitVec 32) (f : FileWindow) (staging : Option StagingFile) (r : FileRecord)
    (reason : FileRefusal) (h : commonFailure staging f.capacity r = some reason) :
    checkRecord committed (some f) staging r = .error reason := by
  simp only [checkRecord, h]

theorem checkRecord_of_none (committed : BitVec 32) (f : FileWindow) (staging : Option StagingFile) (r : FileRecord)
    (h : commonFailure staging f.capacity r = none) :
    checkRecord committed (some f) staging r = kindCheck committed (some f) f.capacity staging r := by
  simp only [checkRecord, h]

theorem any_expected_iff (staging : Option StagingFile) (n : Nat) :
    (staging.any fun f => decide (f.expected ≤ n)) = true ↔ ∃ x, staging = some x ∧ x.expected ≤ n := by
  cases staging <;> simp

/-- Settles O11: `commonFailure` tries the seven checks one after another. -/
theorem recordChecksInOrder : Obligations.RecordChecksInOrder := by
  intro committed f staging r kind ordinal taken owed capacity fails1 fails2 fails3 fails4 fails5 fails6 fails7 check
  have tests : commonFailure staging f.capacity r =
      if fails1 then some .badCheck else if fails2 then some .order else if fails3 then some .noHeader
      else if fails4 then some .shape else if fails5 then some .overrun else if fails6 then some .count
      else if fails7 then some .shape else none := by
    simp only [commonFailure, takenCount_eq, owedCount_eq, any_expected_iff]
    rfl
  have refused (reason : FileRefusal) (h : commonFailure staging f.capacity r = some reason) : check = .error reason :=
    checkRecord_of_failure committed f staging r reason h
  refine ⟨fun h1 => refused _ ?_, fun h1 h2 => refused _ ?_, fun h1 h2 h3 => refused _ ?_,
    fun h1 h2 h3 h4 => refused _ ?_, fun h1 h2 h3 h4 h5 => refused _ ?_, fun h1 h2 h3 h4 h5 h6 => refused _ ?_,
    fun h1 h2 h3 h4 h5 h6 h7 => refused _ ?_, fun h1 h2 h3 h4 h5 h6 h7 => checkRecord_of_none committed f staging r ?_⟩
  all_goals simp only [if_pos, if_neg, *, not_false_eq_true]

/-! ## The checks of a kind -/

theorem word_eq_iff (w : Word) (n : Nat) (small : n < 65536) : w = BitVec.ofNat 16 n ↔ w.toNat = n := by
  constructor
  · rintro rfl
    simpa using small
  · intro same
    exact BitVec.eq_of_toNat_eq (by simpa [Nat.mod_eq_of_lt small] using same)

theorem word_eq_one_iff (w : Word) : w = 1 ↔ w.toNat = 1 := word_eq_iff w 1 (by decide)

theorem word_eq_two_iff (w : Word) : w = 2 ↔ w.toNat = 2 := word_eq_iff w 2 (by decide)

section Kinds

variable (committed : BitVec 32) (window : Option FileWindow) (capacity : Nat) (staging : Option StagingFile)
  (r : FileRecord)

theorem kindCheck_header (h : recordKind r = 1) :
    kindCheck committed window capacity staging r = checkHeader committed capacity r := by
  simp only [kindCheck, h]

theorem kindCheck_block (h : recordKind r = 2) :
    kindCheck committed window capacity staging r = checkBlock r := by
  simp only [kindCheck, h]

theorem kindCheck_restore (h : recordKind r = 3) :
    kindCheck committed window capacity staging r = checkRestore r := by
  simp only [kindCheck, h]

theorem kindCheck_pass (h : recordKind r = 4) :
    kindCheck committed window capacity staging r = checkPass r := by
  simp only [kindCheck, h]

theorem kindCheck_cancel (h : recordKind r = 5) :
    kindCheck committed window capacity staging r = boundEffects staging (checkCancel r) := by
  simp only [kindCheck, h]

theorem kindCheck_windows (h : recordKind r = 6) :
    kindCheck committed window capacity staging r = boundEffects staging (checkWindows window r) := by
  simp only [kindCheck, h]

theorem kindCheck_policy (h : recordKind r = 7) :
    kindCheck committed window capacity staging r = boundEffects staging (checkPolicy r) := by
  simp only [kindCheck, h]

theorem kindCheck_keys (h : recordKind r = 8) :
    kindCheck committed window capacity staging r = boundEffects staging (checkKeys r) := by
  simp only [kindCheck, h]

theorem kindCheck_clock (h : recordKind r = 9) :
    kindCheck committed window capacity staging r = boundEffects staging (.ok (.effect (.clock (field32 r 2)))) := by
  simp only [kindCheck, h]

theorem kindCheck_sweep (h : recordKind r = 10) :
    kindCheck committed window capacity staging r = boundEffects staging (.ok (.effect .sweep)) := by
  simp only [kindCheck, h]

theorem kindCheck_trailer (f : StagingFile) (h : recordKind r = 11) :
    kindCheck committed window capacity (some f) r = checkTrailer f r := by
  simp only [kindCheck, h]

end Kinds

/-- R42: 64 effects are held already. -/
def effectsFull (staging : Option StagingFile) : Prop := ∃ x, staging = some x ∧ 64 ≤ x.effects.length

theorem any_full_iff (staging : Option StagingFile) :
    (staging.any fun f => decide (Config.pendingSize ≤ f.effects.length)) = true ↔ effectsFull staging := by
  cases staging with
  | none => simp [effectsFull]
  | some f =>
    rw [Option.any_some, decide_eq_true_iff]
    simp [effectsFull, Config.pendingSize]

theorem boundEffects_error (staging : Option StagingFile) (reason : FileRefusal) :
    boundEffects staging (.error reason) = .error reason := rfl

theorem boundEffects_full (staging : Option StagingFile) (e : PendingEffect) (h : effectsFull staging) :
    boundEffects staging (.ok (.effect e)) = .error .shape :=
  if_pos ((any_full_iff staging).mpr h)

theorem boundEffects_room (staging : Option StagingFile) (e : PendingEffect) (h : ¬ effectsFull staging) :
    boundEffects staging (.ok (.effect e)) = .ok (.effect e) :=
  if_neg (mt (any_full_iff staging).mp h)

/-- R38: a HEADER of neither kind of file. -/
theorem checkHeader_kinds (committed : BitVec 32) (capacity : Nat) (r : FileRecord) :
    let word (k : Nat) : Nat := (wordAt r k).toNat
    (word 4 ≠ 1 ∧ word 4 ≠ 2 → checkHeader committed capacity r = .error .shape)
      ∧ (word 4 = 1 ∨ word 4 = 2 → word 7 < 1 ∨ capacity - 1 < word 7 →
        checkHeader committed capacity r = .error .shape)
      ∧ (word 4 = 1 ∨ word 4 = 2 → 1 ≤ word 7 → word 7 ≤ capacity - 1 →
        ((field32 r 2).toNat ≤ committed.toNat → checkHeader committed capacity r = .error .stale)
          ∧ (committed.toNat < (field32 r 2).toNat → word 4 = 1 →
            checkHeader committed capacity r = .ok (.header (field32 r 2) .full (word 7)))
          ∧ (committed.toNat < (field32 r 2).toNat → word 4 = 2 → field32 r 5 ≠ committed ∨ committed = 0 →
            checkHeader committed capacity r = .error .base)
          ∧ (committed.toNat < (field32 r 2).toNat → word 4 = 2 → field32 r 5 = committed → committed ≠ 0 →
            checkHeader committed capacity r = .ok (.header (field32 r 2) .delta (word 7)))) := by
  intro word
  have unknown : (wordAt r 4 ≠ 1 ∧ wordAt r 4 ≠ 2) ↔ word 4 ≠ 1 ∧ word 4 ≠ 2 := by
    rw [Ne, Ne, word_eq_one_iff, word_eq_two_iff]
  have known (h : word 4 = 1 ∨ word 4 = 2) : ¬ (wordAt r 4 ≠ 1 ∧ wordAt r 4 ≠ 2) := by
    rw [unknown]
    omega
  have full : wordAt r 4 = 1 ↔ word 4 = 1 := word_eq_one_iff _
  refine ⟨fun h => ?_, fun kind outside => ?_, fun kind low high => ?_⟩
  · rw [checkHeader, if_pos (unknown.mpr h)]
  · rw [checkHeader, if_neg (known kind), if_pos outside]
  have inside : ¬ (word 7 < 1 ∨ capacity - 1 < word 7) := by omega
  refine ⟨fun stale => ?_, fun above isFull => ?_, fun above isDelta wrong => ?_, fun above isDelta right nonzero => ?_⟩
  · rw [checkHeader, if_neg (known kind), if_neg inside, if_pos stale]
  all_goals have notStale : ¬ (field32 r 2).toNat ≤ committed.toNat := by omega
  · rw [checkHeader, if_neg (known kind), if_neg inside, if_neg notStale, if_pos (full.mpr isFull)]
  all_goals have notFull : ¬ wordAt r 4 = 1 := fun one => by have := full.mp one; omega
  · rw [checkHeader, if_neg (known kind), if_neg inside, if_neg notStale, if_neg notFull, if_pos wrong]
  · rw [checkHeader, if_neg (known kind), if_neg inside, if_neg notStale, if_neg notFull,
      if_neg (not_or.mpr ⟨not_not.mpr right, nonzero⟩)]

/-- R40: a PASS record with its placement. -/
theorem checkPass_cases (r : FileRecord) :
    let word (k : Nat) : Nat := (wordAt r k).toNat
    (word 2 = 0 ∨ word 5 < word 4 ∨ word 6 = 0 ∨ 2 < word 6 → checkPass r = .error .shape)
      ∧ (¬ (word 2 = 0 ∨ word 5 < word 4 ∨ word 6 = 0 ∨ 2 < word 6) →
        checkPass r = .ok (.pass ⟨wordAt r 2, wordAt r 3, wordAt r 4, wordAt r 5,
          if word 6 = 1 then .fill else .replace⟩)) := by
  intro word
  have zero : wordAt r 2 = 0 ↔ word 2 = 0 := word_eq_iff _ 0 (by decide)
  have one : wordAt r 6 = 1 ↔ word 6 = 1 := word_eq_one_iff _
  have two : wordAt r 6 = 2 ↔ word 6 = 2 := word_eq_two_iff _
  have days : (wordAt r 5).toNat < (wordAt r 4).toNat ↔ word 5 < word 4 := Iff.rfl
  refine ⟨fun bad => ?_, fun good => ?_⟩
  · rw [checkPass]
    dsimp only
    split
    · rfl
    next fields =>
      rw [zero, days] at fields
      rw [if_neg (by rw [one]; omega), if_neg (by rw [two]; omega)]
  · rw [checkPass]
    dsimp only
    rw [if_neg (by rw [zero, days]; omega)]
    by_cases fill : word 6 = 1
    · rw [if_pos (one.mpr fill), if_pos fill]
    · rw [if_neg (mt one.mp fill), if_pos (two.mpr (by omega)), if_neg fill]

/-- R45: the TRAILER's three checks. -/
theorem checkTrailer_cases (x : StagingFile) (r : FileRecord) :
    let word (k : Nat) : Nat := (wordAt r k).toNat
    (word 2 ≠ x.expected ∨ word 1 ≠ x.expected → checkTrailer x r = .error .count)
      ∧ (word 2 = x.expected → word 1 = x.expected → field32 r 5 ≠ x.number ∨ field32 r 3 ≠ ~~~x.crc →
        checkTrailer x r = .error .fileCheck)
      ∧ (word 2 = x.expected → word 1 = x.expected → field32 r 5 = x.number → field32 r 3 = ~~~x.crc →
        checkTrailer x r = .ok .trailer) := by
  intro word
  have counted (h2 : word 2 = x.expected) (h1 : word 1 = x.expected) : ¬ (word 2 ≠ x.expected ∨ word 1 ≠ x.expected) := by
    simp [h2, h1]
  refine ⟨fun h => if_pos h, fun h2 h1 bad => ?_, fun h2 h1 number crc => ?_⟩
  · rw [checkTrailer, if_neg (counted h2 h1)]
    by_cases number : field32 r 5 = x.number
    · rw [if_neg (not_not.mpr number)]
      exact if_pos (bad.resolve_left (not_not.mpr number))
    · rw [if_pos number]
  · rw [checkTrailer, if_neg (counted h2 h1), if_neg (by simpa using number), if_neg (by simpa [crc32Final] using crc)]

/-- R42: a bounded effect whose own checks pass, or fail. -/
theorem boundEffects_cases (staging : Option StagingFile) (bad : Prop) (x : Except FileRefusal Checked) (e : PendingEffect)
    (refused : bad → x = .error .shape) (passed : ¬ bad → x = .ok (.effect e)) :
    (bad ∨ effectsFull staging → boundEffects staging x = .error .shape)
      ∧ (¬ (bad ∨ effectsFull staging) → boundEffects staging x = .ok (.effect e)) := by
  refine ⟨fun h => ?_, fun h => ?_⟩
  · by_cases isBad : bad
    · rw [refused isBad, boundEffects_error]
    · rw [passed isBad, boundEffects_full staging e (h.resolve_left isBad)]
  · obtain ⟨good, room⟩ := not_or.mp h
    rw [passed good, boundEffects_room staging e room]

/-- Settles O12: the checks of each kind, one after another. -/
theorem recordKindsChecked : Obligations.RecordKindsChecked := by
  intro committed f capacity staging r kind word field serial full check
  refine ⟨fun h => ?_, fun h => ?_, fun h => ?_, fun h => ?_, fun h => ?_, fun h => ?_, fun h => ?_, fun h x inHand => ?_⟩
  · rw [show check = _ from kindCheck_header committed _ capacity staging r h]
    exact checkHeader_kinds committed capacity r
  · rw [show check = _ from kindCheck_block committed _ capacity staging r h]
    refine ⟨fun bad => if_pos bad, fun good => (if_neg good).trans ?_⟩
    have flag : (wordAt r 9 == 1) = decide (word 9 = 1) := by
      rw [Bool.eq_iff_iff, beq_iff_eq, decide_eq_true_iff]
      exact word_eq_one_iff _
    rw [flag]
    rfl
  · rw [show check = _ from kindCheck_restore committed _ capacity staging r h]
    exact ⟨fun bad => if_pos bad, fun good => if_neg good⟩
  · rw [show check = _ from kindCheck_pass committed _ capacity staging r h]
    exact checkPass_cases r
  · rw [show check = _ from kindCheck_cancel committed _ capacity staging r h]
    have cases := boundEffects_cases staging (serial = 0 ∨ field 6 = 0) (checkCancel r) (.cancel serial (field 6))
      (fun bad => if_pos bad) (fun good => if_neg good)
    rw [or_assoc] at cases
    exact cases
  · rw [show check = _ from kindCheck_clock committed _ capacity staging r h]
    exact ⟨boundEffects_full staging _, boundEffects_room staging _⟩
  · rw [show check = _ from kindCheck_sweep committed _ capacity staging r h]
    exact ⟨boundEffects_full staging _, boundEffects_room staging _⟩
  · obtain rfl := inHand
    rw [show check = _ from kindCheck_trailer committed _ capacity r x h]
    exact checkTrailer_cases x r

end Sys2Proof.Machine

/-! PROOFS. The checks of the setup records (R43, R44, R191). -/

namespace Sys2Proof.Machine

/-! ## Regions that share a byte -/

/-- Two ranges of some length share a byte where each begins before the other ends. -/
theorem shareByte_iff (a b : ByteRange) (ha : 0 < a.2) (hb : 0 < b.2) :
    shareByte a b = true ↔ ∃ x, a.1 ≤ x ∧ x < a.1 + a.2 ∧ b.1 ≤ x ∧ x < b.1 + b.2 := by
  rw [shareByte, Bool.and_eq_true, decide_eq_true_iff, decide_eq_true_iff]
  constructor
  · intro begins
    exact ⟨max a.1 b.1, by omega, by omega, by omega, by omega⟩
  · rintro ⟨x, lowA, highA, lowB, highB⟩
    exact ⟨by omega, by omega⟩

theorem anyOverlap_eq_false_iff (l : List ByteRange) :
    anyOverlap l = false ↔ l.Pairwise fun a b => shareByte a b = false := by
  induction l with
  | nil => simp [anyOverlap]
  | cons a l ih => simp [anyOverlap, List.pairwise_cons, ih]

/-- R44: the model's search finds an overlap exactly where two regions share a byte. -/
theorem anyOverlap_iff (l : List ByteRange) (long : ∀ a ∈ l, 0 < a.2) : anyOverlap l = true ↔ regionsMeet l := by
  rw [← Bool.not_eq_false, anyOverlap_eq_false_iff, List.pairwise_iff_getElem, regionsMeet]
  constructor
  · intro meets
    push Not at meets
    obtain ⟨i, j, hi, hj, lt, shares⟩ := meets
    obtain ⟨x, inside⟩ := (shareByte_iff l[i] l[j] (long _ (List.getElem_mem hi)) (long _ (List.getElem_mem hj))).mp
      (by simpa using shares)
    exact ⟨i, j, x, l[i], l[j], lt, List.getElem?_eq_getElem hi, List.getElem?_eq_getElem hj, inside⟩
  · rintro ⟨i, j, x, a, b, lt, atI, atJ, inside⟩ apart
    obtain ⟨hi, rfl⟩ := List.getElem?_eq_some_iff.mp atI
    obtain ⟨hj, rfl⟩ := List.getElem?_eq_some_iff.mp atJ
    have shares := (shareByte_iff l[i] l[j] (long _ (List.getElem_mem hi)) (long _ (List.getElem_mem hj))).mpr ⟨x, inside⟩
    exact absurd (shares.symm.trans (apart i j hi hj lt)) (by simp)

theorem imageRange_eq (x : Option (BitVec 18)) : imageRange x = (x.map fun b => (b.toNat * 64, 64)).toList := by
  cases x <;> rfl

theorem Windows.ranges_eq_regions (w : Windows) : w.ranges = w.regions := by
  rw [Windows.ranges, Windows.regions, List.filterMap_eq_flatMap_toList, imageRange_eq, imageRange_eq, imageRange_eq,
    imageRange_eq]
  simp only [List.flatMap_cons, List.flatMap_nil, List.append_nil, List.append_assoc]
  cases w.journal with
  | none => cases w.clockWord <;> rfl
  | some j => cases w.clockWord <;> rfl

theorem Windows.regions_long (w : Windows) : ∀ a ∈ w.regions, 0 < a.2 := by
  intro a mem
  simp only [Windows.regions, List.mem_append, List.mem_filterMap, Option.mem_toList, Option.map_eq_some_iff] at mem
  obtain (⟨_, _, _, _, rfl⟩ | ⟨_, _, rfl⟩) | ⟨_, _, rfl⟩ := mem
  · exact Nat.zero_lt_succ _
  · exact Nat.mul_pos (by decide) (Nat.two_pow_pos _)
  · exact Nat.zero_lt_succ _

/-- R44: the windows conflict where one shares a byte with another or with the file window. -/
theorem anyOverlap_windows_iff (f : FileWindow) (w : Windows) :
    anyOverlap (fileRange (some f) ++ w.ranges) = true ↔ regionsMeet ((f.base.toNat, f.bytes) :: w.regions) := by
  rw [w.ranges_eq_regions]
  refine anyOverlap_iff _ fun a mem => ?_
  obtain rfl | mem := List.mem_cons.mp mem
  · exact Nat.mul_pos (by decide) (Nat.two_pow_pos _)
  · exact w.regions_long a mem

/-! ## SETUP-WINDOWS -/

theorem byte_eq_iff (b : Byte) (n : Nat) (small : n < 256) : b = BitVec.ofNat 8 n ↔ b.toNat = n := by
  constructor
  · rintro rfl
    simpa using small
  · intro same
    exact BitVec.eq_of_toNat_eq (by simpa [Nat.mod_eq_of_lt small] using same)

theorem byte_eq_zero_iff (b : Byte) : b = 0 ↔ b.toNat = 0 := byte_eq_iff b 0 (by decide)

theorem byte_eq_one_iff (b : Byte) : b = 1 ↔ b.toNat = 1 := byte_eq_iff b 1 (by decide)

theorem byte_eq_two_iff (b : Byte) : b = 2 ↔ b.toNat = 2 := byte_eq_iff b 2 (by decide)

theorem word_msb (w : Word) : w.msb = w.getLsbD 15 := BitVec.msb_eq_getLsbD_last w

/-- R191: the journal window's fields are out of range. -/
def journalOutOfRange (r : FileRecord) : Prop :=
  1 < (highByte (wordAt r 12)).toNat ∨ ((highByte (wordAt r 12)).toNat = 1
    ∧ (6 < (lowByte (wordAt r 12)).toNat
      ∨ (readAddress r 10).toNat % (4096 * 2 ^ (lowByte (wordAt r 12)).toNat) ≠ 0))

theorem readJournalWindow_bad (r : FileRecord) (h : journalOutOfRange r) :
    readJournalWindow r = .error .setupRange := by
  have zero := byte_eq_zero_iff (highByte (wordAt r 12))
  have one := byte_eq_one_iff (highByte (wordAt r 12))
  obtain unknown | ⟨enabled, bad⟩ := h
  · rw [readJournalWindow, if_neg (by rw [zero]; omega), if_neg (by rw [one]; omega)]
  · rw [readJournalWindow, if_neg (by rw [zero]; omega), if_pos (one.mpr enabled)]
    dsimp only
    split
    · rfl
    next small => exact if_pos (bad.resolve_left small)

theorem readJournalWindow_good (r : FileRecord) (h : ¬ journalOutOfRange r) :
    readJournalWindow r = .ok (if (highByte (wordAt r 12)).toNat = 1
      then some ⟨readAddress r 10, (lowByte (wordAt r 12)).toNat⟩ else none) := by
  have zero := byte_eq_zero_iff (highByte (wordAt r 12))
  have one := byte_eq_one_iff (highByte (wordAt r 12))
  obtain ⟨known, good⟩ := not_or.mp h
  by_cases enabled : (highByte (wordAt r 12)).toNat = 1
  · obtain ⟨small, aligned⟩ := not_or.mp (not_and.mp good enabled)
    rw [readJournalWindow, if_neg (by rw [zero]; omega), if_pos (one.mpr enabled), if_pos enabled]
    dsimp only
    rw [if_neg small]
    exact if_neg aligned
  · rw [readJournalWindow, if_pos (by rw [zero]; omega), if_neg enabled]

/-- R191: the clock word's address is out of range. -/
def clockOutOfRange (r : FileRecord) : Prop :=
  (wordAt r 13).getLsbD 15 = true ∧ ((readAddress r 13).toNat % 2 ≠ 0 ∨ 0xFFFFFC < (readAddress r 13).toNat)

theorem readClockWord_bad (r : FileRecord) (h : clockOutOfRange r) : readClockWord r = .error .setupRange := by
  obtain ⟨enabled, bad⟩ := h
  rw [readClockWord, word_msb, if_pos enabled]
  exact if_pos bad

theorem readClockWord_good (r : FileRecord) (h : ¬ clockOutOfRange r) :
    readClockWord r = .ok (if (wordAt r 13).getLsbD 15 then some (readAddress r 13) else none) := by
  rw [readClockWord, word_msb]
  split
  next enabled => exact if_neg (not_and.mp h enabled)
  next => rfl

/-- R191: the windows part that a record in range spells. -/
def windowsOf (r : FileRecord) : Windows :=
  ⟨⟨readImageWindow r 2, readImageWindow r 4, readImageWindow r 6, readImageWindow r 8⟩,
    if (highByte (wordAt r 12)).toNat = 1 then some ⟨readAddress r 10, (lowByte (wordAt r 12)).toNat⟩ else none,
    if (wordAt r 13).getLsbD 15 then some (readAddress r 13) else none⟩

theorem checkWindows_bad (window : Option FileWindow) (r : FileRecord)
    (h : journalOutOfRange r ∨ clockOutOfRange r) : checkWindows window r = .error .setupRange := by
  rw [checkWindows]
  split
  next journal clock =>
    obtain bad | bad := h
    · exact absurd (journal.symm.trans (readJournalWindow_bad r bad)) (by simp)
    · exact absurd (clock.symm.trans (readClockWord_bad r bad)) (by simp)
  next => rfl

theorem checkWindows_good (f : FileWindow) (r : FileRecord) (h : ¬ (journalOutOfRange r ∨ clockOutOfRange r)) :
    checkWindows (some f) r = if anyOverlap (fileRange (some f) ++ (windowsOf r).ranges) then .error .setupConflict
      else .ok (.effect (.windows (windowsOf r))) := by
  obtain ⟨journal, clock⟩ := not_or.mp h
  rw [checkWindows, readJournalWindow_good r journal, readClockWord_good r clock]
  rfl

/-! ## SETUP-POLICY -/

theorem readMode_eq (b : Byte) :
    readMode b = if b.toNat ≤ 1 then some (if b.toNat = 1 then .active else .bypass) else none := by
  have zero := byte_eq_zero_iff b
  have one := byte_eq_one_iff b
  simp only [readMode]
  by_cases isZero : b = 0
  · rw [if_pos isZero, if_pos (by rw [zero] at isZero; omega), if_neg (by rw [zero] at isZero; omega)]
  by_cases isOne : b = 1
  · rw [if_neg isZero, if_pos isOne, if_pos (one.mp isOne).le, if_pos (one.mp isOne)]
  · rw [if_neg isZero, if_neg isOne, if_neg (by rw [zero] at isZero; rw [one] at isOne; omega)]

theorem readAttentionMode_eq (b : Byte) : readAttentionMode b =
    if b.toNat ≤ 2 then some (if b.toNat = 0 then .off else if b.toNat = 1 then .single else .repeated) else none := by
  have zero := byte_eq_zero_iff b
  have one := byte_eq_one_iff b
  have two := byte_eq_two_iff b
  simp only [readAttentionMode, zero, one, two]
  by_cases isZero : b.toNat = 0
  · simp [isZero]
  by_cases isOne : b.toNat = 1
  · simp [isOne]
  by_cases isTwo : b.toNat = 2
  · simp [isTwo]
  · rw [if_neg isZero, if_neg isOne, if_neg isTwo, if_neg (by omega)]

/-- R191: the fields of a SETUP-POLICY record are in range. -/
def policyInRange (r : FileRecord) : Prop :=
  (highByte (wordAt r 2)).toNat ≤ 1 ∧ (lowByte (wordAt r 2)).toNat ≤ 1 ∧ 2 ≤ (wordAt r 3).toNat
    ∧ (wordAt r 3).toNat ≤ 250 ∧ 1 ≤ (wordAt r 4).toNat ∧ (wordAt r 4).toNat ≤ 60
    ∧ 1 ≤ (highByte (wordAt r 5)).toNat ∧ (lowByte (wordAt r 5)).toNat ≤ 30
    ∧ (field32 r 6).toNat ≤ 86399 ∧ (highByte (wordAt r 8)).toNat ≤ 7 ∧ (lowByte (wordAt r 8)).toNat ≤ 1
    ∧ ((wordAt r 9).toNat ≤ 23 ∨ (wordAt r 9).toNat = 255)
    ∧ ((wordAt r 10).toNat ≤ 59 ∨ (wordAt r 10).toNat = 255) ∧ 1 ≤ (field32 r 11).toNat
    ∧ (field32 r 11).toNat ≤ 2000000 ∧ (highByte (wordAt r 13)).toNat ≤ 2
    ∧ 1 ≤ (lowByte (wordAt r 13)).toNat ∧ (lowByte (wordAt r 13)).toNat ≤ 15

/-- R191: the policy part that a record in range spells. -/
def policyOf (r : FileRecord) : Policy :=
  { mode := if (highByte (wordAt r 2)).toNat = 1 then .active else .bypass
    holdLimit := (wordAt r 3).toNat, awaitLimit := (wordAt r 4).toNat
    followTolerance := (highByte (wordAt r 5)).toNat, retentionDays := (lowByte (wordAt r 5)).toNat
    serviceOffset := (field32 r 6).toNat, sweepWeekday := (highByte (wordAt r 8)).toNat
    scheduleEnabled := decide ((lowByte (wordAt r 8)).toNat = 1)
    sweepHour := (wordAt r 9).toNat, sweepMinute := (wordAt r 10).toNat, purseCeiling := (field32 r 11).toNat
    attentionMode := if (highByte (wordAt r 13)).toNat = 0 then .off
      else if (highByte (wordAt r 13)).toNat = 1 then .single else .repeated
    attentionHold := (lowByte (wordAt r 13)).toNat }

theorem byte_beq_one (b : Byte) : (b == 1) = decide (b.toNat = 1) := by
  rw [Bool.eq_iff_iff, beq_iff_eq, decide_eq_true_iff]
  exact byte_eq_one_iff b

theorem checkPolicy_cases (r : FileRecord) :
    (¬ policyInRange r → checkPolicy r = .error .setupRange)
      ∧ (policyInRange r →
        checkPolicy r = .ok (.effect (.policy (policyOf r) (decide ((lowByte (wordAt r 2)).toNat = 1))))) := by
  rw [checkPolicy, readMode_eq, readAttentionMode_eq]
  by_cases mode : (highByte (wordAt r 2)).toNat ≤ 1
  · by_cases attention : (highByte (wordAt r 13)).toNat ≤ 2
    · rw [if_pos mode, if_pos attention, byte_beq_one, byte_beq_one]
      dsimp only
      refine ⟨fun bad => if_neg fun good => bad ?_, fun good => if_pos ?_⟩
      · rw [policyInRange]
        omega
      · rw [policyInRange] at good
        omega
    · rw [if_neg attention]
      refine ⟨fun _ => ?_, fun good => absurd ?_ attention⟩
      · split
        next missing => cases missing
        next => rfl
      · rw [policyInRange] at good
        omega
  · rw [if_neg mode]
    refine ⟨fun _ => rfl, fun good => absurd good.1 mode⟩

/-! ## SETUP-KEYS -/

theorem readRole_eq (w : Word) : readRole w =
    if w.toNat ≤ 2 then some (if w.toNat = 0 then .none else if w.toNat = 1 then .tap else .heartbeat) else none := by
  have zero : w = 0 ↔ w.toNat = 0 := word_eq_iff w 0 (by decide)
  simp only [readRole, zero, word_eq_one_iff, word_eq_two_iff]
  by_cases isZero : w.toNat = 0
  · simp [isZero]
  by_cases isOne : w.toNat = 1
  · simp [isOne]
  by_cases isTwo : w.toNat = 2
  · simp [isTwo]
  · rw [if_neg isZero, if_neg isOne, if_neg isTwo, if_neg (by omega)]

/-- R191: key `k` as its words spell it. -/
def keyOf (r : FileRecord) (k : Nat) : JournalKey :=
  ⟨highByte (wordAt r (2 + 2 * k)), lowByte (wordAt r (2 + 2 * k)),
    if (wordAt r (3 + 2 * k)).toNat = 0 then .none
    else if (wordAt r (3 + 2 * k)).toNat = 1 then .tap else .heartbeat⟩

theorem readKey_eq (r : FileRecord) (k : Nat) :
    readKey r k = if (wordAt r (3 + 2 * k)).toNat ≤ 2 then some (keyOf r k) else none := by
  rw [readKey, readRole_eq]
  split <;> rfl

/-- R191: the four roles are in range. -/
def keysInRange (r : FileRecord) : Prop :=
  (wordAt r 3).toNat ≤ 2 ∧ (wordAt r 5).toNat ≤ 2 ∧ (wordAt r 7).toNat ≤ 2 ∧ (wordAt r 9).toNat ≤ 2

theorem checkKeys_bad (r : FileRecord) (h : ¬ keysInRange r) : checkKeys r = .error .setupRange := by
  rw [checkKeys]
  split
  next a b c d keyA keyB keyC keyD =>
    refine absurd ?_ h
    have inRange (k : Nat) (x : JournalKey) (found : readKey r k = some x) : (wordAt r (3 + 2 * k)).toNat ≤ 2 := by
      by_contra outside
      rw [readKey_eq, if_neg outside] at found
      cases found
    exact ⟨inRange 0 a keyA, inRange 1 b keyB, inRange 2 c keyC, inRange 3 d keyD⟩
  next => rfl

theorem checkKeys_good (r : FileRecord) (h : keysInRange r) :
    checkKeys r = .ok (.effect (.keys ⟨keyOf r 0, keyOf r 1, keyOf r 2, keyOf r 3⟩)) := by
  obtain ⟨h0, h1, h2, h3⟩ := h
  have key0 : readKey r 0 = some (keyOf r 0) := (readKey_eq r 0).trans (if_pos h0)
  have key1 : readKey r 1 = some (keyOf r 1) := (readKey_eq r 1).trans (if_pos h1)
  have key2 : readKey r 2 = some (keyOf r 2) := (readKey_eq r 2).trans (if_pos h2)
  have key3 : readKey r 3 = some (keyOf r 3) := (readKey_eq r 3).trans (if_pos h3)
  rw [checkKeys, key0, key1, key2, key3]

/-! ## The obligation -/

/-- R42: a setup part asked for, unless 64 effects are held. -/
theorem boundEffects_setup (staging : Option StagingFile) (x : Except FileRefusal Checked) (e : PendingEffect)
    (inRange : Prop) (bad : ¬ inRange → x = .error .setupRange) (good : inRange → x = .ok (.effect e)) :
    (¬ inRange → boundEffects staging x = .error .setupRange)
      ∧ (inRange → effectsFull staging → boundEffects staging x = .error .shape)
      ∧ (inRange → ¬ effectsFull staging → boundEffects staging x = .ok (.effect e)) :=
  ⟨fun h => by rw [bad h, boundEffects_error], fun h full => by rw [good h, boundEffects_full staging e full],
    fun h room => by rw [good h, boundEffects_room staging e room]⟩

theorem readImageWindow_eq (r : FileRecord) (k : Nat) : readImageWindow r k =
    if (wordAt r k).getLsbD 15 then some (lowByte (wordAt r k) ++ (wordAt r (k + 1)).extractLsb' 6 10) else none := by
  rw [readImageWindow, word_msb]

/-- Settles O13: each setup record's range, and for the windows their conflict. -/
theorem setupRecordsChecked : Obligations.SetupRecordsChecked := by
  intro committed f capacity staging r kind word high low field full check
  refine ⟨fun h => ?_, fun h => ?_, fun h => ?_⟩
  · rw [show check = _ from kindCheck_windows committed _ capacity staging r h]
    intro image address windows outOfRange conflict
    have spelt : windowsOf r = windows := by
      simp only [windowsOf, readImageWindow_eq]
      rfl
    have range : outOfRange ↔ journalOutOfRange r ∨ clockOutOfRange r := or_assoc.symm
    have meets : anyOverlap (fileRange (some f) ++ (windowsOf r).ranges) = true ↔ conflict := by
      rw [anyOverlap_windows_iff, spelt]
    refine ⟨fun bad => ?_, fun good bad => ?_, fun good free isFull => ?_, fun good free room => ?_⟩
    · rw [checkWindows_bad _ r (range.mp bad), boundEffects_error]
    all_goals rw [checkWindows_good f r (mt range.mpr good)]
    · rw [if_pos (meets.mpr bad), boundEffects_error]
    · rw [if_neg (mt meets.mp free), boundEffects_full staging _ isFull]
    · rw [if_neg (mt meets.mp free), boundEffects_room staging _ room, spelt]
  · rw [show check = _ from kindCheck_policy committed _ capacity staging r h]
    exact boundEffects_setup staging (checkPolicy r) _ (policyInRange r) (checkPolicy_cases r).1 (checkPolicy_cases r).2
  · rw [show check = _ from kindCheck_keys committed _ capacity staging r h]
    exact boundEffects_setup staging (checkKeys r) _ (keysInRange r) (checkKeys_bad r) (checkKeys_good r)

end Sys2Proof.Machine

/-! PROOFS. What file intake does with its buffer before it waits again (R35 to R45). -/

namespace Sys2Proof.Machine

/-! ## One record -/

theorem Part.takeHead_unblocked (p : Part) (r : FileRecord) (rest : List FileRecord) (buffer : p.intake.buffer = r :: rest)
    (free : ¬ p.intakeBlocked) : p.takeHead = p.takeRecord r := by
  rw [Part.takeHead, buffer]
  exact if_neg (by simpa [Part.intakeBlocked] using free)

/-- R37, R41: a bad record refuses the file. -/
theorem Part.takeHead_bad (p : Part) (r : FileRecord) (rest : List FileRecord) (buffer : p.intake.buffer = r :: rest)
    (free : ¬ p.intakeBlocked) (reason : FileRefusal)
    (bad : checkRecord p.fileNumber p.path.fileWindow p.intake.staging r = .error reason) :
    p.takeHead = p.refuse reason := by
  rw [p.takeHead_unblocked r rest buffer free, Part.takeRecord, bad]

theorem Part.takeHead_good (p : Part) (r : FileRecord) (rest : List FileRecord) (buffer : p.intake.buffer = r :: rest)
    (free : ¬ p.intakeBlocked) (c : Checked)
    (good : checkRecord p.fileNumber p.path.fileWindow p.intake.staging r = .ok c) : p.takeHead = p.dealWith r c := by
  rw [p.takeHead_unblocked r rest buffer free, Part.takeRecord, good]

theorem Part.intakeRunning_of_free (p : Part) (free : ¬ p.intakeBlocked) : p.intakeRunning = none := by
  obtain ⟨nothing, -⟩ := not_or.mp free
  rw [Part.intakeRunning_eq]
  exact (p.intakeOutstanding_eq_false.mp (by simpa using nothing)).2

/-- R36: a held record joins the buffer where it finds a place. -/
theorem Part.admitHeld_of_room (p : Part) (r : FileRecord) (held : p.intake.held = some r)
    (room : p.intake.buffer.length < 2) :
    p.admitHeld = { p.releaseHeldWrite with
      intake := { p.intake with buffer := p.intake.buffer ++ [r], held := none } } := by
  rw [Part.admitHeld, held]
  dsimp only
  rw [if_pos (show p.intake.buffer.length < Config.bufferSize from room)]
  simp

theorem Part.admitHeld_of_full (p : Part) (full : 2 ≤ p.intake.buffer.length) : p.admitHeld = p := by
  obtain ⟨same, -⟩ | ⟨room, -⟩ := p.admitHeld_cases
  · exact same
  · omega

theorem Part.releaseHeldWrite_of_other (p : Part) (h : ∀ w b, p.path.cycle ≠ some ⟨w, .fileIntake, .write b .hold⟩) :
    p.releaseHeldWrite = p := by
  rw [Part.releaseHeldWrite]
  split
  next w b cycle => exact absurd cycle (h w b)
  next => rfl

/-- The write held over a record is released whatever intake and the arbiter hold. -/
theorem Part.releaseHeldWrite_with (p : Part) (i : Intake) (a : Arbiter) :
    ({ p with intake := i, arbiter := a } : Part).releaseHeldWrite = { p.releaseHeldWrite with intake := i, arbiter := a } := by
  by_cases held : ∃ w b, p.path.cycle = some ⟨w, .fileIntake, .write b .hold⟩
  · obtain ⟨w, b, cycle⟩ := held
    rw [p.releaseHeldWrite_of_held w b cycle]
    exact Part.releaseHeldWrite_of_held _ w b cycle
  · push Not at held
    rw [p.releaseHeldWrite_of_other held]
    exact Part.releaseHeldWrite_of_other _ held

/-- A write released is held no longer. -/
theorem Part.releaseHeldWrite_twice (p : Part) : p.releaseHeldWrite.releaseHeldWrite = p.releaseHeldWrite := by
  by_cases held : ∃ w b, p.path.cycle = some ⟨w, .fileIntake, .write b .hold⟩
  · obtain ⟨w, b, cycle⟩ := held
    rw [p.releaseHeldWrite_of_held w b cycle]
    exact Part.releaseHeldWrite_of_other _ fun w' b' => by simp [Part.carryWrite, Part.withCycle]
  · push Not at held
    rw [p.releaseHeldWrite_of_other held, p.releaseHeldWrite_of_other held]

/-! ## Records dealt with, kind by kind -/

section DealWith

variable (p : Part) (r : FileRecord)

theorem Part.dealWith_header (number : BitVec 32) (kind : FileKind) (expected : Nat) :
    p.dealWith r (.header number kind expected) =
      { p with intake := { p.intake.dropHead with staging := some (headerStaging r number kind expected) } } := by
  simp only [Part.dealWith]

variable (f : StagingFile) (inHand : p.intake.staging = some f)
include inHand

theorem Part.dealWith_entry (e : EntryRecord) (owed : Nat) :
    p.dealWith r (.entry e owed) = { p with
      arbiter := { p.arbiter with intake := some (.stageEntry e f.number) }
      intake := { p.intake with staging := some { f.counted r false with owed := owed } } } := by
  simp only [Part.dealWith, inHand]
  rfl

theorem Part.dealWith_pass (q : PassRecord) :
    p.dealWith r (.pass q) = { p with
      arbiter := { p.arbiter with intake := some (.stagePass f.restoreEntry q) }
      intake := { p.intake with staging := some (f.counted r false) } } := by
  simp only [Part.dealWith, inHand]
  rfl

theorem Part.dealWith_effect (e : PendingEffect) :
    p.dealWith r (.effect e) = { p with
      intake := { p.intake.dropHead with staging := some { f.counted r false with effects := f.effects ++ [e] } } } := by
  simp only [Part.dealWith, inHand]

theorem Part.dealWith_trailer :
    p.dealWith r .trailer = { p with
      arbiter := { p.arbiter with intake := some (.commit ⟨f.number, f.kind, f.effects⟩) }
      intake := { p.intake with staging := some (f.counted r true), trailerBuffered := true } } := by
  simp only [Part.dealWith, inHand]
  rfl

end DealWith

/-! ## The order of taking and admitting -/

theorem Part.takeHead_held_none (p : Part) (h : p.intake.held = none) : p.takeHead.intake.held = none := by
  obtain ⟨same, -⟩ | ⟨-, held, -⟩ | ⟨held, -⟩ := p.takeHead_buffers
  · rwa [same]
  · exact held
  · exact held.trans h

/-- With one record buffered and none held, taking it is all the work. -/
theorem Part.intakeWork_of_one (p : Part) (held : p.intake.held = none) (few : p.intake.buffer.length ≤ 1) :
    p.takeHead.takeHead = p.takeHead ∧ p.intakeWork = p.takeHead := by
  have held' := p.takeHead_held_none held
  have admitted := p.takeHead.admitHeld_of_none held'
  have again : p.takeHead.takeHead = p.takeHead := by
    refine Part.takeHead_of_waiting _ ?_
    have left : p.takeHead.admitHeld.recordsLeft 0 := Part.recordsLeft.next (.inr ⟨held, few⟩)
    rw [admitted] at left
    obtain blocked | ⟨-, none⟩ := left
    · exact .inr blocked
    · exact .inl (List.length_eq_zero_iff.mp (Nat.le_zero.mp none))
  exact ⟨again, by rw [Part.intakeWork, admitted, again, admitted, again, admitted]⟩

/-- A record refused is refused alike whether the held one has joined the buffer or not. -/
theorem Part.refuse_admitHeld (p : Part) (reason : FileRefusal) (h : FileRecord) (held : p.intake.held = some h)
    (room : p.intake.buffer.length < 2) (running : p.intakeRunning = none) :
    p.admitHeld.refuse reason = p.refuse reason := by
  have admitted := p.admitHeld_of_room h held room
  have running' : p.admitHeld.intakeRunning = none := by
    rw [Part.intakeRunning_eq, p.admitHeld_arbiter]
    exact running
  rw [Part.refuse_of_notRunning _ reason running', Part.refuse_of_notRunning _ reason running, admitted]
  have released := p.releaseHeldWrite.releaseHeldWrite_with
    { p.intake with buffer := p.intake.buffer ++ [h], held := none } p.releaseHeldWrite.arbiter
  rw [p.releaseHeldWrite_twice] at released
  rw [released]
  simp [Intake.ended]

theorem Part.admitHeld_with (p : Part) (i : Intake) (a : Arbiter) (h : FileRecord) (held : i.held = some h)
    (room : i.buffer.length < 2) : ({ p with intake := i, arbiter := a } : Part).admitHeld =
      { p.releaseHeldWrite with intake := { i with buffer := i.buffer ++ [h], held := none }, arbiter := a } := by
  rw [Part.admitHeld_of_room _ h held room, p.releaseHeldWrite_with i a]

theorem Part.releaseHeldWrite_fileWindow (p : Part) : p.releaseHeldWrite.path.fileWindow = p.path.fileWindow := by
  by_cases held : ∃ w b, p.path.cycle = some ⟨w, .fileIntake, .write b .hold⟩
  · obtain ⟨w, b, cycle⟩ := held
    rw [p.releaseHeldWrite_of_held w b cycle]
    rfl
  · push Not at held
    rw [p.releaseHeldWrite_of_other held]

/-- A good record is dealt with alike whether the held one has joined the buffer behind it or joins it after. -/
theorem Part.dealWith_admitHeld (p : Part) (r h : FileRecord) (c : Checked) (buffer : p.intake.buffer = [r])
    (held : p.intake.held = some h) (header : p.intake.staging = none → ∃ n k x, c = .header n k x) :
    p.admitHeld.dealWith r c = (p.dealWith r c).admitHeld := by
  have admitted := p.admitHeld_of_room h held (by simp [buffer])
  have later (i : Intake) (a : Arbiter) (kept : i.held = p.intake.held) (room : i.buffer.length < 2) :=
    p.admitHeld_with i a h (kept.trans held) room
  have short : p.intake.buffer.length < 2 := by simp [buffer]
  have shorter : p.intake.buffer.tail.length < 2 := by simp [buffer]
  cases c with
  | header n k x =>
    have joined := later { p.intake.dropHead with staging := some (headerStaging r n k x) } p.arbiter rfl shorter
    rw [p.dealWith_header, Part.dealWith_header, admitted]
    refine Eq.trans ?_ joined.symm
    simp [Intake.dropHead, buffer]
  | entry e owed =>
    obtain ⟨f, inHand⟩ := Option.ne_none_iff_exists'.mp fun none => by simpa using header none
    have joined := later { p.intake with staging := some { f.counted r false with owed := owed } }
      { p.arbiter with intake := some (.stageEntry e f.number) } rfl short
    rw [p.dealWith_entry r f inHand, Part.dealWith_entry _ r f (by rw [admitted]; exact inHand), admitted]
    refine Eq.trans ?_ joined.symm
    simp
  | pass q =>
    obtain ⟨f, inHand⟩ := Option.ne_none_iff_exists'.mp fun none => by simpa using header none
    have joined := later { p.intake with staging := some (f.counted r false) }
      { p.arbiter with intake := some (.stagePass f.restoreEntry q) } rfl short
    rw [p.dealWith_pass r f inHand, Part.dealWith_pass _ r f (by rw [admitted]; exact inHand), admitted]
    refine Eq.trans ?_ joined.symm
    simp
  | effect e =>
    obtain ⟨f, inHand⟩ := Option.ne_none_iff_exists'.mp fun none => by simpa using header none
    have joined := later { p.intake.dropHead with
      staging := some { f.counted r false with effects := f.effects ++ [e] } } p.arbiter rfl shorter
    rw [p.dealWith_effect r f inHand, Part.dealWith_effect _ r f (by rw [admitted]; exact inHand), admitted]
    refine Eq.trans ?_ joined.symm
    simp [Intake.dropHead, buffer]
  | trailer =>
    obtain ⟨f, inHand⟩ := Option.ne_none_iff_exists'.mp fun none => by simpa using header none
    have joined := later { p.intake with staging := some (f.counted r true), trailerBuffered := true }
      { p.arbiter with intake := some (.commit ⟨f.number, f.kind, f.effects⟩) } rfl short
    rw [p.dealWith_trailer r f inHand, Part.dealWith_trailer _ r f (by rw [admitted]; exact inHand), admitted]
    refine Eq.trans ?_ joined.symm
    simp

/-- R36, R37: a record taken and the held one admitted come to the same in either order. -/
theorem Part.takeHead_admitHeld_comm (p : Part) (r h : FileRecord) (buffer : p.intake.buffer = [r])
    (held : p.intake.held = some h) (free : ¬ p.intakeBlocked) :
    p.admitHeld.takeHead = p.takeHead.admitHeld := by
  have room : p.intake.buffer.length < 2 := by simp [buffer]
  have admitted := p.admitHeld_of_room h held room
  have free' : ¬ p.admitHeld.intakeBlocked := by
    refine fun blocked => free (Part.intakeBlocked_of_sameClaims blocked (Part.sameClaims_of_arbiter ?_) ?_)
    · exact p.admitHeld_arbiter.symm
    · rw [admitted]
  have buffer' : p.admitHeld.intake.buffer = r :: [h] := by
    rw [admitted, buffer]
    rfl
  have same : checkRecord p.admitHeld.fileNumber p.admitHeld.path.fileWindow p.admitHeld.intake.staging r
      = checkRecord p.fileNumber p.path.fileWindow p.intake.staging r := by
    have window : p.admitHeld.path.fileWindow = p.path.fileWindow := by
      rw [admitted]
      exact p.releaseHeldWrite_fileWindow
    have staging : p.admitHeld.intake.staging = p.intake.staging := by rw [admitted]
    rw [window, staging, show p.admitHeld.fileNumber = p.fileNumber by simp]
  cases check : checkRecord p.fileNumber p.path.fileWindow p.intake.staging r with
  | error reason =>
    rw [p.takeHead_bad r [] buffer free reason check, Part.takeHead_bad _ r [h] buffer' free' reason (same.trans check),
      p.refuse_admitHeld reason h held room (p.intakeRunning_of_free free)]
    exact (Part.admitHeld_of_none _ (p.refuse_buffers reason).2).symm
  | ok c =>
    rw [p.takeHead_good r [] buffer free c check, Part.takeHead_good _ r [h] buffer' free' c (same.trans check)]
    refine p.dealWith_admitHeld r h c buffer held fun none => ?_
    exact checkRecord_ok_without_staging p.fileNumber p.path.fileWindow r c (none ▸ check)

/-- With one record taken and the held one in its place, intake waits or has one record left. -/
theorem Part.takeHead_admitHeld_of_one (p : Part) (r : FileRecord) (buffer : p.intake.buffer = [r])
    (free : ¬ p.intakeBlocked) :
    p.takeHead.admitHeld.intake.held = none
      ∧ (p.takeHead.admitHeld.intake.buffer.length ≤ 1 ∨ p.takeHead.admitHeld.intakeBlocked) := by
  have room : p.takeHead.intake.buffer.length ≤ 1 ∧ (p.takeHead.intake.buffer = [] ∨ p.takeHead.intakeBlocked) := by
    obtain ⟨-, empty | blocked⟩ | ⟨empty, -⟩ | ⟨-, -, shorter | ⟨same, blocked⟩⟩ := p.takeHead_buffers
    · simp [buffer] at empty
    · exact absurd blocked free
    · exact ⟨by simp [empty], .inl empty⟩
    · exact ⟨by simp [shorter, buffer], .inl (by rw [shorter, buffer]; rfl)⟩
    · exact ⟨by simp [same, buffer], .inr blocked⟩
  obtain ⟨few, left⟩ := room
  obtain ⟨same, none | full⟩ | ⟨-, longer, held, -⟩ := p.takeHead.admitHeld_cases
  · rw [same]
    exact ⟨none, .inl few⟩
  · omega
  · refine ⟨held, ?_⟩
    obtain empty | blocked := left
    · exact .inl (by simp [longer, empty])
    · exact .inr (Part.admitHeld_blocked blocked)

/-- Once a record is taken, the work left is the work anew: the held one has its place in time. -/
theorem Part.intakeWork_resumed (p : Part) (h : p.intake.buffer.length ≤ 1 ∨ p.intakeBlocked) :
    p.admitHeld.takeHead.admitHeld.takeHead.admitHeld = p.intakeWork := by
  rw [Part.intakeWork]
  by_cases blocked : p.intakeBlocked
  · have admitted := Part.admitHeld_blocked blocked
    rw [p.takeHead_of_waiting (.inr blocked), p.admitHeld.takeHead_of_waiting (.inr admitted),
      p.admitHeld.admitHeld.takeHead_of_waiting (.inr (Part.admitHeld_blocked admitted))]
  have few := h.resolve_right blocked
  cases held : p.intake.held with
  | none =>
    obtain ⟨again, -⟩ := p.intakeWork_of_one held few
    have admitted := p.takeHead.admitHeld_of_none (p.takeHead_held_none held)
    rw [p.admitHeld_of_none held, admitted, again, admitted, again, admitted]
  | some x =>
    match buffer : p.intake.buffer with
    | [] => rw [p.takeHead_of_waiting (.inl buffer)]
    | [r] =>
      obtain ⟨taken, left⟩ := p.takeHead_admitHeld_of_one r buffer blocked
      rw [p.takeHead_admitHeld_comm r x buffer held blocked, Part.admitHeld_of_none _ taken]
      obtain one | waits := left
      · obtain ⟨again, -⟩ := p.takeHead.admitHeld.intakeWork_of_one taken one
        rw [Part.admitHeld_of_none _ (Part.takeHead_held_none _ taken), again,
          Part.admitHeld_of_none _ (Part.takeHead_held_none _ taken)]
      · rw [Part.takeHead_of_waiting _ (.inr waits), Part.admitHeld_of_none _ taken,
          Part.takeHead_of_waiting _ (.inr waits), Part.admitHeld_of_none _ taken]
    | _ :: _ :: _ => simp [buffer] at few

theorem Part.intakeWork_of_takeHead (p q : Part) (took : p.takeHead = q)
    (h : q.intake.buffer.length ≤ 1 ∨ q.intakeBlocked) : p.intakeWork = q.intakeWork := by
  rw [← q.intakeWork_resumed h, Part.intakeWork, took]

/-! ## The obligation -/

/-- R36: the held record in the buffer, its write in memory. -/
def Part.heldJoined (p q : Part) (w : BitVec 23) (b : LaneBytes) (r : FileRecord) : Prop :=
  p.memoryTakes q w b
    ∧ q = { p with
        path := p.path.carrying ⟨w, .fileIntake, .write b .pass⟩ none ⟨none, none⟩, memory := q.memory
        intake := { p.intake with buffer := p.intake.buffer ++ [r], held := none } }

theorem Part.admitHeld_joined (p : Part) (w : BitVec 23) (b : LaneBytes) (r : FileRecord)
    (cycle : p.path.cycle = some ⟨w, .fileIntake, .write b .hold⟩) (held : p.intake.held = some r)
    (room : p.intake.buffer.length < 2) : p.heldJoined p.admitHeld w b r := by
  rw [p.admitHeld_of_room r held room, p.releaseHeldWrite_of_held w b cycle]
  exact ⟨p.memoryTakes_carryWrite_pass _ w b .fileIntake rfl rfl, rfl⟩

/-- R36: while intake waits, a held record that finds a place is all the work. -/
theorem Part.intakeWork_admits (p : Part) (r : FileRecord) (blocked : p.intakeBlocked) (held : p.intake.held = some r)
    (room : p.intake.buffer.length < 2) : p.intakeWork = p.admitHeld := by
  have none : p.admitHeld.intake.held = none := by rw [p.admitHeld_of_room r held room]
  have took := p.admitHeld.takeHead_of_waiting (.inr (Part.admitHeld_blocked blocked))
  have again := p.admitHeld.admitHeld_of_none none
  rw [Part.intakeWork, p.takeHead_of_waiting (.inr blocked), took, again, took, again]

/-- R41: what a refusal makes of a held write. -/
theorem Part.heldWriteReleased_release (p q : Part) (path : q.path = p.releaseHeldWrite.path)
    (memory : q.memory = p.releaseHeldWrite.memory) (epoch : q.memoryEpoch = p.memoryEpoch) : p.heldWriteReleased q := by
  refine ⟨fun w b cycle => ?_, fun other => ?_⟩
  · rw [p.releaseHeldWrite_of_held w b cycle] at path memory
    refine ⟨fun a => ?_, path⟩
    have carried := p.memoryTakes_carryWrite_pass p w b .fileIntake rfl rfl a
    rwa [Part.memoryByte, memory, epoch]
  · rw [p.releaseHeldWrite_of_other other] at path memory
    exact ⟨memory, path⟩

/-- R41: a bad head record refuses the file, and that is all the work. -/
theorem Part.intakeWork_bad (p : Part) (r : FileRecord) (rest : List FileRecord) (buffer : p.intake.buffer = r :: rest)
    (free : ¬ p.intakeBlocked) (reason : FileRefusal)
    (bad : checkRecord p.fileNumber p.path.fileWindow p.intake.staging r = .error reason) :
    p.intakeWork = p.refuse reason := by
  obtain ⟨empty, held⟩ := p.refuse_buffers reason
  rw [p.intakeWork_of_takeHead _ (p.takeHead_bad r rest buffer free reason bad) (.inl (by simp [empty])),
    Part.intakeWork_of_waiting _ held (.inl empty)]

/-- R37 to R45: a good head record is dealt with, and intake goes on. -/
theorem Part.intakeWork_good (p q : Part) (r : FileRecord) (rest : List FileRecord)
    (buffer : p.intake.buffer = r :: rest) (free : ¬ p.intakeBlocked) (c : Checked)
    (good : checkRecord p.fileNumber p.path.fileWindow p.intake.staging r = .ok c) (dealt : p.dealWith r c = q)
    (h : q.intake.buffer.length ≤ 1 ∨ q.intakeBlocked) : p.intakeWork = q.intakeWork :=
  p.intakeWork_of_takeHead q ((p.takeHead_good r rest buffer free c good).trans dealt) h

theorem Part.refuse_eq_fileRefused (p : Part) (reason : FileRefusal) (free : ¬ p.intakeBlocked) :
    p.refuse reason =
      { p.fileRefused reason with path := p.releaseHeldWrite.path, memory := p.releaseHeldWrite.memory } := by
  have owed : p.intake.discardOwed = false := by simpa using (not_or.mp free).2
  rw [p.refuse_of_notRunning reason (p.intakeRunning_of_free free)]
  simp [Part.fileRefused, Intake.ended, Counters.refusal, owed]

/-- Settles O15: the record taken, the held record admitted, and the work resumed. -/
theorem intakeGoesOn : Obligations.IntakeGoesOn := by
  intro p busy
  refine ⟨p.intakeWork_of_waiting, fun blocked full => ?_, fun w b r cycle held => ?_, fun r rest buffer short free =>
    ⟨fun reason bad => ?_, fun number kind expected good => ?_, fun f inHand => ?_⟩⟩
  · have took := p.takeHead_of_waiting (.inr blocked)
    have admitted := p.admitHeld_of_full full
    rw [Part.intakeWork, took, admitted, took, admitted, took, admitted]
  · have joined := p.admitHeld_joined w b r cycle held
    refine ⟨fun blocked room => ?_, fun free empty => ⟨p.admitHeld, joined (by simp [empty]), ?_⟩⟩
    · rw [p.intakeWork_admits r blocked held room]
      exact joined room
    · have admitted := p.admitHeld_of_room r held (by simp [empty])
      have none : p.admitHeld.intake.held = none := by rw [admitted]
      rw [← p.admitHeld.intakeWork_resumed (.inl (by simp [admitted, empty])), Part.admitHeld_of_none _ none,
        Part.intakeWork, p.takeHead_of_waiting (.inl empty)]
  · have refused := (p.intakeWork_bad r rest buffer free reason bad).trans (p.refuse_eq_fileRefused reason free)
    rw [refused]
    exact ⟨p.heldWriteReleased_release _ rfl rfl rfl, rfl⟩
  · refine p.intakeWork_good _ r rest buffer free _ good ?_ (.inl (Nat.le_of_lt_succ short))
    rw [p.dealWith_header, Intake.dropHead, buffer]
    rfl
  · have claimed (i : Intake) (c : IntakeClaim) :
        ({ p with intake := i, arbiter := { p.arbiter with intake := some c } } : Part).intakeBlocked := .inl rfl
    intro check counted
    have checked (c : Checked) (good : check = .ok c) :
        checkRecord p.fileNumber p.path.fileWindow p.intake.staging r = .ok c := by
      rw [inHand]
      exact good
    refine ⟨fun e owed good => ?_, fun q good => ?_, fun x good => ?_, fun good => ?_⟩
    · exact p.intakeWork_good _ r rest buffer free _ (checked _ good) (p.dealWith_entry r f inHand e owed) (.inr (claimed _ _))
    · exact p.intakeWork_good _ r rest buffer free _ (checked _ good) (p.dealWith_pass r f inHand q) (.inr (claimed _ _))
    · refine p.intakeWork_good _ r rest buffer free _ (checked _ good) ?_ (.inl (Nat.le_of_lt_succ short))
      rw [p.dealWith_effect r f inHand, Intake.dropHead, buffer]
      rfl
    · exact p.intakeWork_good _ r rest buffer free _ (checked _ good) (p.dealWith_trailer r f inHand) (.inr (claimed _ _))

end Sys2Proof.Machine

/-! PROOFS. The write that completes a record (R32, R35 to R42, R45, R193), and the answer that frees a held one. -/

namespace Sys2Proof.Machine

/-! ## The record completed -/

/-- R32, R35: intake once a record is complete, before it is put anywhere. -/
def Intake.recordEntered (i : Intake) (r : FileRecord) (word : Nat) : Intake :=
  { i with
    assembly := []
    cursor := if (highByte (wordAt r 0)).toNat = 11 then .closed else .onWord (word + 1) ⟨none, none⟩ }

theorem Part.acceptWord_last (p : Part) (word : Nat) (written b : LaneBytes) (u l : Byte)
    (whole : overlaid written b = ⟨some u, some l⟩) (last : word % 16 = 15) :
    p.acceptWord word written b = p.completeRecord word (p.intake.assembly ++ [joinBytes u l]) := by
  simp only [Part.acceptWord, whole, wholeWord, if_pos last]

theorem Part.completeRecord_of_room (p : Part) (word : Nat) (r : FileRecord) (room : p.intake.buffer.length < 2) :
    p.completeRecord word r = { p with
      intake := { p.intake.recordEntered r word with buffer := p.intake.buffer ++ [r] } } := by
  rw [Part.completeRecord]
  exact if_pos room

theorem Part.completeRecord_of_full (p : Part) (word : Nat) (r : FileRecord) (full : 2 ≤ p.intake.buffer.length) :
    p.completeRecord word r = { p with intake := { p.intake.recordEntered r word with held := some r } } := by
  rw [Part.completeRecord]
  exact if_neg (Nat.not_lt.mpr full)

/-- What the write of the last word of a record comes to at the cursor. -/
theorem Part.followWrite_last (p : Part) (word : Nat) (written b : LaneBytes) (u l : Byte)
    (state : p.intake.state = .receiving) (cursor : p.intake.cursor = .onWord word written) (last : word % 16 = 15)
    (whole : overlaid written b = ⟨some u, some l⟩) :
    p.followWrite word b = p.completeRecord word (p.intake.assembly ++ [joinBytes u l]) := by
  rw [p.followWrite_at_cursor word written b state cursor, p.acceptWord_last word written b u l whole last]

/-- R36: with the buffer full the write is held with its record. -/
theorem fileWrite_holds (s : State) (w : BitVec 23) (b : LaneBytes) (k : Nat) (q : Part) (atOnce : s.takesAtOnce)
    (region : s.region w = .file k) (driven : b.upper.isSome ∨ b.lower.isSome) (wrote : s.toPart.fileWrite k b = q)
    (r : FileRecord) (held : q.intake.held = some r) (arbiter : q.arbiter = s.arbiter) :
    commandEffect (.fileWindowWrite w b) s.toPart = q.carryWrite w b .fileIntake .hold := by
  have effect : commandEffect (.fileWindowWrite w b) s.toPart = s.toPart.finishCold.arrive w (.write b) := rfl
  have taken : s.toPart.takeWrite w b = q.carryWrite w b .fileIntake .hold := by
    rw [Part.takeWrite, region]
    simp only [wrote, held]
    rfl
  have granted : (q.carryWrite w b .fileIntake .hold).claimsGranted :=
    s.toPart.claimsGranted_of_arbiter _ (by simp [arbiter]) atOnce.2.2
  rw [effect, s.toPart.finishCold_of_accepts atOnce.1, s.toPart.arrive_write_of_takesAtOnce w b atOnce driven, taken, granted]

/-- R35: the completed record alone in the buffer. -/
def Part.recordBuffered (p : Part) (r : FileRecord) (word : Nat) : Part :=
  { p with intake := { p.intake.recordEntered r word with buffer := [r] } }

/-- R37: with nothing in hand the completed record is taken at once. -/
theorem Part.fileWrite_takes (p q : Part) (k : Nat) (b : LaneBytes) (r : FileRecord)
    (followed : p.followWrite k b = p.recordBuffered r k) (held : p.intake.held = none)
    (took : (p.recordBuffered r k).takeHead = q) :
    p.fileWrite k b = q := by
  obtain ⟨-, all⟩ := (p.recordBuffered r k).intakeWork_of_one held (Nat.le_refl 1)
  rw [Part.fileWrite, followed, all, took]

theorem Part.intakeBlocked_of_idle (p : Part) (idle : p.intakeOutstanding = false) (notOwed : p.intake.discardOwed = false) :
    ¬ p.intakeBlocked := by
  simp [Part.intakeBlocked, idle, notOwed]

/-- R35, R37 to R42, R45: the write that completes a record with nothing in hand: what the record's checks make of it,
the claim it brings granted where it falls to be. -/
theorem recordCompleted_taken (s : State) (w : BitVec 23) (b : LaneBytes) (k : Nat) (r : FileRecord) (a : Arbiter)
    (i : Intake) (c : Counters) (atOnce : s.takesAtOnce) (region : s.region w = .file k)
    (driven : b.upper.isSome ∨ b.lower.isSome) (held : s.intake.held = none)
    (followed : s.toPart.followWrite k b = s.toPart.recordBuffered r k)
    (took : (s.toPart.recordBuffered r k).takeHead = { s.toPart with arbiter := a, intake := i, counters := c })
    (stays : i.held = none) :
    ∃ t, exec (.fileWindowWrite w b) s = .next t
      ∧ s.memoryTakes t.toPart w b
      ∧ t = { s with toPart := Part.grant { s.toPart with
          path := s.path.carrying ⟨w, .fileIntake, .write b .pass⟩ none ⟨none, none⟩, memory := t.memory
          arbiter := a, intake := i, counters := c } } := by
  have effect := fileWrite_passes s w b k _ atOnce region driven (s.toPart.fileWrite_takes _ k b r followed held took) stays
  refine ⟨_, exec_of_effect _ s _ effect,
    Part.memoryTakes_grant (s.toPart.memoryTakes_carryWrite_pass _ w b _ rfl rfl), ?_⟩
  dsimp only
  rw [Part.grant_memory]
  rfl

/-! ## The answer of a stage-pass -/

/-- R11: with a pass record free, a stage-pass for a named entry is stored. -/
theorem Store.stagePass_of_pool (st : Store) (n : Nat) (q : PassRecord) (pool : 0 < st.freePasses) :
    ∃ st', st.stagePass (some n) q = some st' := by
  have none : ¬ st.freePasses = 0 := by omega
  have room : st.makePassRoom = st := by rw [Store.makePassRoom, if_neg none]
  exact ⟨_, by rw [Store.stagePass, room]; exact if_neg none⟩

theorem Part.completeStagePass_of_stored (p : Part) (entry : Option Nat) (q : PassRecord) (st : Store)
    (op : p.arbiter.op = some (.intake (.stagePass entry q))) (stored : p.store.stagePass entry q = some st) :
    p.completeStagePass = (({ p with store := st } : Part).tableFree.intakeAnswered Part.passStaged).grant := by
  simp only [Part.completeStagePass, op, stored]

/-- R41: an answer that is not to be ignored is taken. -/
theorem Part.intakeAnswered_of_taken (p : Part) (f : Part → Part) (h : p.intake.answerIgnored = false) :
    p.intakeAnswered f = (f p).claimOwedDiscard.intakeWork := by
  rw [Part.intakeAnswered, if_neg (by simp [h])]

theorem Part.claimOwedDiscard_of_notOwed (p : Part) (h : p.intake.discardOwed = false) : p.claimOwedDiscard = p := by
  rw [Part.claimOwedDiscard, if_neg (by simp [h])]

/-- R40: the pass stored, one fewer owed, and its record out of the buffer. -/
def Part.withPassStored (p : Part) (st : Store) (rest : List FileRecord) (f : StagingFile) : Part :=
  { p with
    store := st, arbiter := { p.arbiter with op := none }
    intake := { p.intake with buffer := rest, staging := some { f with owed := f.owed - 1 } } }

theorem Part.completeStagePass_taken (p : Part) (n : Nat) (q : PassRecord) (st : Store) (first next : FileRecord)
    (rest : List FileRecord) (f : StagingFile) (op : p.arbiter.op = some (.intake (.stagePass (some n) q)))
    (stored : p.store.stagePass (some n) q = some st) (taken : p.intake.answerIgnored = false)
    (notOwed : p.intake.discardOwed = false) (buffer : p.intake.buffer = first :: next :: rest)
    (inHand : p.intake.staging = some f) :
    p.completeStagePass = (p.withPassStored st (next :: rest) f).intakeWork.grant := by
  have passed : ({ p with store := st } : Part).tableFree.passStaged = p.withPassStored st (next :: rest) f := by
    simp [Part.withPassStored, Part.passStaged, Part.tableFree, Intake.dropHead, buffer, inHand]
  rw [p.completeStagePass_of_stored (some n) q st op stored,
    ({ p with store := st } : Part).tableFree.intakeAnswered_of_taken _ taken, passed,
    Part.claimOwedDiscard_of_notOwed (p.withPassStored st (next :: rest) f) notOwed]

/-- R36, R40: the pass staged, the next record taken and claimed for, the held one admitted. -/
theorem stagePass_frees_held (s : State) (w : BitVec 23) (b : LaneBytes) (n : Nat) (q : PassRecord)
    (first next held : FileRecord) (f : StagingFile) (e : EntryRecord) (owed : Nat) (pool : 0 < s.store.freePasses)
    (cycle : s.path.cycle = some ⟨w, .fileIntake, .write b .hold⟩)
    (op : s.arbiter.op = some (.intake (.stagePass (some n) q))) (waiting : s.arbiter.intake = none)
    (taken : s.intake.answerIgnored = false) (notOwed : s.intake.discardOwed = false)
    (buffer : s.intake.buffer = [first, next]) (isHeld : s.intake.held = some held) (inHand : s.intake.staging = some f)
    (check : checkRecord s.fileNumber s.path.fileWindow (some { f with owed := f.owed - 1 }) next = .ok (.entry e owed)) :
    ∃ t, exec .stagePass s = .next t
      ∧ s.memoryTakes t.toPart w b
      ∧ t = { s with
          toPart := Part.grant { s.toPart with
            path := s.path.carrying ⟨w, .fileIntake, .write b .pass⟩ none ⟨none, none⟩
            memory := t.memory, store := t.store
            arbiter := { s.arbiter with op := none, intake := some (.stageEntry e f.number) }
            intake := { s.intake with
              buffer := [next, held], held := none
              staging := some
                { f with taken := f.taken + 1, crc := crc32Run f.crc next, owed := owed } } } } := by
  obtain ⟨st, stored⟩ := s.store.stagePass_of_pool n q pool
  have answered : commandEffect .stagePass s.toPart = _ := s.toPart.completeStagePass_taken n q st first next [] f op stored
    taken notOwed buffer inHand
  have free : ¬ (s.toPart.withPassStored st [next] f).intakeBlocked :=
    Part.intakeBlocked_of_idle _ (by simp [Part.withPassStored, Part.intakeOutstanding, Part.intakeRunning, waiting]) notOwed
  have claimed := (s.toPart.withPassStored st [next] f).dealWith_entry next { f with owed := f.owed - 1 } rfl e owed
  have blocked : ((s.toPart.withPassStored st [next] f).dealWith next (.entry e owed)).intakeBlocked := by
    rw [claimed]
    exact .inl rfl
  have stays : ((s.toPart.withPassStored st [next] f).dealWith next (.entry e owed)).intake.held = some held := by
    rw [claimed]
    exact isHeld
  have room : ((s.toPart.withPassStored st [next] f).dealWith next (.entry e owed)).intake.buffer.length < 2 := by
    rw [claimed]
    exact Nat.lt_succ_self 1
  have waits : ((s.toPart.withPassStored st [next] f).dealWith next (.entry e owed)).path.cycle = s.path.cycle := by
    rw [claimed]
    rfl
  rw [Part.intakeWork_good _ _ next [] rfl free _ check rfl (.inr blocked), Part.intakeWork_admits _ held blocked stays room,
    Part.admitHeld_of_room _ held stays room, Part.releaseHeldWrite_of_held _ w b (waits.trans cycle), claimed] at answered
  refine ⟨_, exec_of_effect _ s _ answered,
    Part.memoryTakes_grant (s.toPart.memoryTakes_carryWrite_pass _ w b .fileIntake rfl rfl), ?_⟩
  dsimp only
  rw [Part.grant_memory]
  have store (p : Part) : p.grant.store = p.store := by simp
  rw [store]
  rfl

/-- Settles O14: the record held, buffered or taken at once; and a held one freed. -/
theorem recordCompleted : Obligations.RecordCompleted := by
  refine ⟨fun s w b written k u l atOnce region driven state cursor last whole held => ?_, fun s w b n q first next held f =>
    stagePass_frees_held s w b n q first next held f⟩
  intro r entered passed
  have followed := s.toPart.followWrite_last k written b u l state cursor last whole
  refine ⟨fun outstanding full => ?_, fun outstanding room => ?_, fun idle notOwed empty => ?_⟩
  · have wrote : s.toPart.fileWrite k b = { s.toPart with intake := { s.intake.recordEntered r k with held := some r } } := by
      have waits : ({ s.toPart with intake := { s.intake.recordEntered r k with held := some r } } : Part).intakeBlocked :=
        .inl outstanding
      have took := Part.takeHead_of_waiting _ (.inr waits)
      have admitted := Part.admitHeld_of_full
        { s.toPart with intake := { s.intake.recordEntered r k with held := some r } } full
      rw [Part.fileWrite, followed, s.toPart.completeRecord_of_full k r full, Part.intakeWork, took, admitted, took,
        admitted, took, admitted]
    exact exec_of_effect _ s _ (fileWrite_holds s w b k _ atOnce region driven wrote r rfl rfl)
  · have wrote : s.toPart.fileWrite k b =
        { s.toPart with intake := { s.intake.recordEntered r k with buffer := s.intake.buffer ++ [r] } } := by
      rw [Part.fileWrite, followed, s.toPart.completeRecord_of_room k r room]
      exact Part.intakeWork_of_waiting _ held (.inr (.inl outstanding))
    have effect := fileWrite_passes_unclaimed s w b k _ atOnce region driven wrote held rfl
    exact ⟨_, exec_of_effect _ s _ effect, s.toPart.memoryTakes_carryWrite_pass _ w b _ rfl rfl, rfl⟩
  · rw [s.toPart.completeRecord_of_room k r (by simp [empty]), empty] at followed
    have taken (a : Arbiter) (i : Intake) (c : Counters) := recordCompleted_taken s w b k r a i c atOnce region driven held
      followed
    have free : ¬ (s.toPart.recordBuffered r k).intakeBlocked := s.toPart.intakeBlocked_of_idle idle notOwed
    have good (c : Checked) (checked : checkRecord s.fileNumber s.path.fileWindow s.intake.staging r = .ok c) :=
      (s.toPart.recordBuffered r k).takeHead_good r [] rfl free c checked
    intro comesTo
    refine ⟨fun reason bad => ?_, fun number kind expected header => ?_, fun f inHand => ?_⟩
    · refine taken { s.arbiter with intake := some .discard } _ (s.counters.refusal reason) ?_ rfl
      rw [Part.takeHead_bad _ r [] rfl free reason bad, Part.refuse_of_notRunning _ reason (Part.intakeRunning_of_free _ free),
        (s.toPart.recordBuffered r k).releaseHeldWrite_of_noCycle atOnce.noCycle]
      rfl
    · refine taken s.arbiter { s.intake.recordEntered r k with staging := some (headerStaging r number kind expected) }
        s.counters ?_ held
      rw [good _ header, Part.dealWith_header]
      simp [Part.recordBuffered, Intake.dropHead, Intake.recordEntered, empty]
    · have checked (c : Checked) (ok : checkRecord s.fileNumber s.path.fileWindow (some f) r = .ok c) :=
        good c (inHand ▸ ok)
      have hand : (s.toPart.recordBuffered r k).intake.staging = some f := inHand
      refine ⟨fun e owed entry => ?_, fun q pass => ?_, fun x effect => ?_, fun trailer => ?_⟩
      · exact taken { s.arbiter with intake := some (.stageEntry e f.number) } _ s.counters
          ((checked _ entry).trans (Part.dealWith_entry _ r f hand e owed)) held
      · exact taken { s.arbiter with intake := some (.stagePass f.restoreEntry q) } _ s.counters
          ((checked _ pass).trans (Part.dealWith_pass _ r f hand q)) held
      · refine taken s.arbiter { s.intake.recordEntered r k with
          staging := some { f.counted r false with effects := f.effects ++ [x] } } s.counters ?_ held
        rw [checked _ effect, Part.dealWith_effect _ r f hand]
        simp [Part.recordBuffered, Intake.dropHead, Intake.recordEntered, empty]
      · exact taken { s.arbiter with intake := some (.commit ⟨f.number, f.kind, f.effects⟩) } _ s.counters
          ((checked _ trailer).trans (Part.dealWith_trailer _ r f hand)) held

end Sys2Proof.Machine

/-! PROOFS. The cycles of the image windows (R53 to R60, R65 to R71, R163, R164): writes followed, the image closed, a
presentation overtaken, reads answered, overlay words written. -/

namespace Sys2Proof.Machine

/-! ## A write into an image window -/

/-- R55, R162: a write into an image window, carried as its context answers, where no claim is left to grant. -/
theorem imageWrite_carried (s : State) (w : BitVec 23) (b : LaneBytes) (n : Fin 4) (k : Nat) (q : Part) (a : WriteAnswer)
    (atOnce : s.takesAtOnce) (region : s.region w = .image n k) (driven : b.upper.isSome ∨ b.lower.isSome)
    (wrote : s.toPart.contextWrite n k b = (q, a)) :
    commandEffect (.imageWindowWrite w b) s.toPart = (q.carryWrite w b (.context n) a).grant := by
  have effect : commandEffect (.imageWindowWrite w b) s.toPart = s.toPart.finishCold.arrive w (.write b) := rfl
  have taken : s.toPart.takeWrite w b = q.carryWrite w b (.context n) a := by
    rw [Part.takeWrite, region]
    simp only [wrote]
  rw [effect, s.toPart.finishCold_of_accepts atOnce.1, s.toPart.arrive_write_of_takesAtOnce w b atOnce driven, taken]

theorem imageWrite_carried_granted (s : State) (w : BitVec 23) (b : LaneBytes) (n : Fin 4) (k : Nat) (q : Part)
    (a : WriteAnswer) (atOnce : s.takesAtOnce) (region : s.region w = .image n k)
    (driven : b.upper.isSome ∨ b.lower.isSome) (wrote : s.toPart.contextWrite n k b = (q, a)) (granted : q.claimsGranted) :
    commandEffect (.imageWindowWrite w b) s.toPart = q.carryWrite w b (.context n) a := by
  have carried : (q.carryWrite w b (.context n) a).claimsGranted := q.claimsGranted_of_arbiter _ (by simp) granted
  rw [imageWrite_carried s w b n k q a atOnce region driven wrote, carried]

/-! ## Contexts -/

theorem fourWith_fourAt {α : Type} (f : Four α) (n : Fin 4) : fourWith f n (fourAt f n) = f := by
  fin_cases n <;> rfl

theorem fourWith_fourWith {α : Type} (f : Four α) (n : Fin 4) (x y : α) : fourWith (fourWith f n x) n y = fourWith f n y := by
  fin_cases n <;> rfl

theorem Part.withContext_withContext (p : Part) (n : Fin 4) (c d : Context) :
    (p.withContext n c).withContext n d = p.withContext n d := by
  rw [Part.withContext, Part.withContext, fourWith_fourWith]
  rfl

theorem Part.withContext_same (p : Part) (n : Fin 4) (c : Context) (h : p.context n = c) : p.withContext n c = p := by
  rw [← h, Part.withContext, Part.context, fourWith_fourAt]

/-- R56: exactly one lane is written, and the write is of the other alone. -/
theorem completesOther_iff (x b : LaneBytes) : completesOther x b = true ↔
    x.upper.isSome ≠ x.lower.isSome ∧ b.upper.isSome = x.lower.isSome ∧ b.lower.isSome = x.upper.isSome := by
  rw [completesOther]
  generalize x.upper.isSome = xu
  generalize x.lower.isSome = xl
  generalize b.upper.isSome = bu
  generalize b.lower.isSome = bl
  revert xu xl bu bl
  decide

theorem lanesAt_set (copy : List LaneBytes) (k : Nat) (b : LaneBytes) :
    lanesAt (copy.set k b) k = if k < copy.length then b else noBytes := by
  rw [lanesAt, List.getD_eq_getElem?_getD, List.getElem?_set]
  simp only [if_true]
  split <;> rfl

/-! ## Writes followed -/

section Follow

variable (p : Part) (n : Fin 4) (k : Nat) (b : LaneBytes)

theorem Part.contextWrite_empty (h : p.context n = .empty) :
    p.contextWrite n k b = (if k = 0 then p.beginPresentation n b else p, .pass) := by
  rw [Part.contextWrite, h]

theorem Part.contextWrite_filling (copy : List LaneBytes) (h : p.context n = .filling copy) :
    p.contextWrite n k b = (if k = 0 ∧ ¬ completesOther (lanesAt copy 0) b then p.beginPresentation n b
      else p.captureWrite n copy k b, .pass) := by
  rw [Part.contextWrite, h]

theorem Part.contextWrite_lookup (snapshot : List Word) (written : List Lanes) (h : p.context n = .lookup snapshot written)
    (notFirst : k ≠ 0) : p.contextWrite n k b = (p.withContext n
      (.lookup snapshot (written.set k (markLanes (written.getD k ⟨false, false⟩) b))), .pass) := by
  rw [Part.contextWrite, h]
  simp only [if_neg notFirst]

/-- R57: a write that does not complete word 31 enters the copy. -/
theorem Part.captureWrite_of_open (copy : List LaneBytes)
    (h : k = 31 → complete (overlaid (lanesAt copy 31) b) = false) :
    p.captureWrite n copy k b = p.withContext n (.filling (copy.set k (overlaid (lanesAt copy k) b))) := by
  refine if_neg ?_
  rintro ⟨rfl, whole⟩
  rw [lanesAt_set] at whole
  split at whole
  · exact absurd (whole.symm.trans (h rfl)) (by simp)
  · exact absurd whole (by simp [complete, noBytes])

end Follow

/-- Settles O16: each of the five writes changes its context as `contextWrite` says, and no claim arises. -/
theorem imageWritesFollowed : Obligations.ImageWritesFollowed := by
  intro s w b n k c atOnce region driven afresh drivesOtherLane cases
  have wrote : s.toPart.contextWrite n k b = (s.toPart.withContext n c, .pass) := by
    obtain ⟨empty, first, rfl⟩ | ⟨empty, notFirst, rfl⟩ | ⟨copy, filling, first, other, rfl⟩
      | ⟨copy, filling, other, notClosed, rfl⟩ | ⟨snapshot, written, lookup, notFirst, rfl⟩ := cases
    · rw [s.toPart.contextWrite_empty n k b empty, if_pos first]
      rfl
    · rw [s.toPart.contextWrite_empty n k b empty, if_neg notFirst, s.toPart.withContext_same n .empty empty]
    · rw [s.toPart.contextWrite_filling n k b copy filling,
        if_pos ⟨first, by rw [completesOther_iff]; exact other⟩]
      rfl
    · rw [s.toPart.contextWrite_filling n k b copy filling, if_neg ?_, s.toPart.captureWrite_of_open n k b copy notClosed]
      rintro ⟨first, not⟩
      exact not ((completesOther_iff _ b).mpr (other first))
    · exact s.toPart.contextWrite_lookup n k b snapshot written lookup notFirst
  have effect := imageWrite_carried_granted s w b n k _ .pass atOnce region driven wrote
    (s.toPart.claimsGranted_of_arbiter _ rfl atOnce.2.2)
  exact ⟨_, exec_of_effect _ s _ effect, s.toPart.memoryTakes_carryWrite_pass _ w b _ rfl rfl, rfl⟩

/-! ## The image closed -/

theorem joinBytes_of_wholeWord (b : LaneBytes) (h : complete b = true) :
    (wholeWord b).getD 0 = joinBytes (b.upper.getD 0) (b.lower.getD 0) := by
  obtain ⟨_ | u, _ | l⟩ := b
  case some.some => rfl
  all_goals simp [complete] at h

theorem complete_iff_of_all (copy : List LaneBytes) (length : copy.length = 32) (v : LaneBytes) (whole : complete v = true) :
    (copy.set 31 v).all complete = true ↔ ∀ k < 31, complete (lanesAt copy k) = true := by
  rw [List.all_eq_true]
  constructor
  · intro all k before
    refine all _ ?_
    rw [lanesAt, List.getD_eq_getElem _ _ (by omega)]
    refine List.mem_iff_getElem.mpr ⟨k, by simp [length]; omega, ?_⟩
    rw [List.getElem_set_ne (by omega)]
  · intro all x mem
    obtain ⟨k, inside, rfl⟩ := List.mem_iff_getElem.mp mem
    rw [List.getElem_set]
    split
    · exact whole
    next other =>
      rw [List.length_set, length] at inside
      have before := all k (by omega)
      rwa [lanesAt, List.getD_eq_getElem _ _ (by omega)] at before

/-- Settles O17: a whole, good image brings a lookup claim; any other leaves the context EMPTY. -/
theorem imageCloses : Obligations.ImageCloses := by
  intro s w b n copy image atOnce region driven filling whole length spelt good passed
  have at31 : lanesAt (copy.set 31 (overlaid (lanesAt copy 31) b)) 31 = overlaid (lanesAt copy 31) b := by
    rw [lanesAt_set, if_pos (by omega)]
  have wrote : s.toPart.contextWrite n 31 b
      = (s.toPart.closeImage n (copy.set 31 (overlaid (lanesAt copy 31) b)), .pass) := by
    rw [s.toPart.contextWrite_filling n 31 b copy filling, if_neg (by simp), Part.captureWrite, at31]
    simp only [if_true, whole, and_self]
  have takes {q : Part} (memory : q.memory = s.memory) (epoch : q.memoryEpoch = s.memoryEpoch) :
      s.memoryTakes (q.carryWrite w b (.context n) .pass) w b := s.toPart.memoryTakes_carryWrite_pass q w b _ memory epoch
  have all := complete_iff_of_all copy length _ whole
  have words (all : (copy.set 31 (overlaid (lanesAt copy 31) b)).all complete = true) :
      copyWords (copy.set 31 (overlaid (lanesAt copy 31) b)) = image := by
    rw [spelt, copyWords]
    exact List.map_congr_left fun x mem => joinBytes_of_wholeWord x (List.all_eq_true.mp all x mem)
  refine ⟨fun isGood => ?_, fun isBad => ?_⟩
  · obtain ⟨complete, check, serial⟩ := isGood
    have closed : s.toPart.closeImage n (copy.set 31 (overlaid (lanesAt copy 31) b)) =
        (s.toPart.withContext n (.lookup image (List.replicate 32 ⟨false, false⟩))).claimLookup n (imageSerial image) := by
      rw [Part.closeImage, words (all.mpr complete)]
      exact if_pos ⟨all.mpr complete, check, serial⟩
    have effect := imageWrite_carried s w b n 31 _ .pass atOnce region driven wrote
    rw [closed] at effect
    refine ⟨_, exec_of_effect _ s _ effect, Part.memoryTakes_grant (takes rfl rfl), ?_⟩
    dsimp only
    rw [Part.grant_memory]
    rfl
  · have closed : s.toPart.closeImage n (copy.set 31 (overlaid (lanesAt copy 31) b)) = s.toPart.withContext n .empty := by
      rw [Part.closeImage]
      refine if_neg ?_
      rintro ⟨complete, check, serial⟩
      rw [words complete] at check serial
      exact isBad ⟨all.mp complete, check, serial⟩
    rw [closed] at wrote
    have effect := imageWrite_carried_granted s w b n 31 _ .pass atOnce region driven wrote
      (s.toPart.claimsGranted_of_arbiter _ rfl atOnce.2.2)
    exact ⟨_, exec_of_effect _ s _ effect, takes rfl rfl, rfl⟩

end Sys2Proof.Machine

/-! PROOFS. A presentation overtaken (R69 to R71), reads of an image window (R60, R65, R164), and writes of overlay words (R67,
R68, R163). -/

namespace Sys2Proof.Machine

/-! ## A presentation given up -/

theorem Part.disownSettle_of_none (p : Part) (n : Fin 4) (h : p.path.settleWrite = none) : p.disownSettle n = p := by
  rw [Part.disownSettle, h, Option.map_none, ← h]

theorem Part.claimsGranted.withdrawLookup {p : Part} (h : p.claimsGranted) (n : Fin 4) :
    (p.withdrawLookup n).claimsGranted := by
  obtain running | releases | ⟨marks, lookups, intake, sweep⟩ := p.claimsGranted_iff.mp h
  · exact (Part.claimsGranted_iff _).mpr (.inl (by simpa [Part.withdrawLookup] using running))
  · exact (Part.claimsGranted_iff _).mpr (.inr (.inl releases))
  · exact (Part.claimsGranted_iff _).mpr (.inr (.inr ⟨marks, by simp [Part.withdrawLookup, lookups], intake, sweep⟩))

/-- R69: a presentation given up while no settle write is on the M-port. -/
theorem Part.dropPresentation_eq (p : Part) (n : Fin 4) (pr : Presentation) (h : p.path.settleWrite = none) :
    p.dropPresentation n pr = { p.releasePin pr.entry with
      queue := { p.queue with
        checkFault := 0, outcomes := p.queue.outcomes.filter fun o => o.state != .reserved n }
      counters := if pr.confirmed = false ∧ pr.await ≠ .expired
        then { p.counters with unconfirmed := raised p.counters.unconfirmed } else p.counters } := by
  have unconfirmed : pr.countsUnconfirmed = true ↔ pr.confirmed = false ∧ pr.await ≠ .expired := by
    simp [Presentation.countsUnconfirmed]
  have queue : (p.releasePin pr.entry).queue = p.queue := by simp
  have counters : (p.releasePin pr.entry).counters = p.counters := by simp
  rw [Part.dropPresentation, p.disownSettle_of_none n h]
  dsimp only
  by_cases counts : pr.countsUnconfirmed = true
  · rw [if_pos counts, if_pos (unconfirmed.mp counts), Part.releaseOutcome, Part.withOutcomes, queue]
    simp [Part.count, Counters.unconfirmedOne, Outcome.heldBy, bne]
  · rw [if_neg counts, if_neg (mt unconfirmed.mpr counts), Part.releaseOutcome, Part.withOutcomes, queue]
    simp [Outcome.heldBy, bne]

theorem Part.abandon_of_holds (p : Part) (n : Fin 4) (pr : Presentation) (h : (p.context n).holds pr) :
    p.abandon n = (p.dropPresentation n pr).withContext n .empty := by
  obtain amended | settled := h
  · rw [Part.abandon, amended]
  · rw [Part.abandon, settled]

theorem Part.abandon_of_lookup (p : Part) (n : Fin 4) (snapshot : List Word) (written : List Lanes)
    (h : p.context n = .lookup snapshot written) : p.abandon n = (p.withdrawLookup n).withContext n .empty := by
  rw [Part.abandon, h]

theorem Part.beginPresentation_withContext (p : Part) (n : Fin 4) (c : Context) (b : LaneBytes) :
    (p.withContext n c).beginPresentation n b = p.beginPresentation n b := p.withContext_withContext n c _

theorem Part.contextWrite_overtakes_lookup (p : Part) (n : Fin 4) (b : LaneBytes) (snapshot : List Word)
    (written : List Lanes) (h : p.context n = .lookup snapshot written) :
    p.contextWrite n 0 b = ((p.withdrawLookup n).beginPresentation n b, .pass) := by
  rw [Part.contextWrite, h]
  simp only [if_true]
  rw [p.abandon_of_lookup n snapshot written h, Part.beginPresentation_withContext]

theorem Part.contextWrite_overtakes (p : Part) (n : Fin 4) (b : LaneBytes) (pr : Presentation)
    (h : (p.context n).holds pr) :
    p.contextWrite n 0 b = ((p.dropPresentation n pr).beginPresentation n b, .pass) := by
  have given : (p.abandon n).beginPresentation n b = (p.dropPresentation n pr).beginPresentation n b := by
    rw [p.abandon_of_holds n pr h, Part.beginPresentation_withContext]
  obtain amended | settled := h
  · rw [Part.contextWrite, amended]
    simp only [if_true, given]
  · rw [Part.contextWrite, settled]
    simp only [if_true, given]

/-- Settles O18: the lookup withdrawn, or the presentation dropped, and the next begun. -/
theorem presentationOvertaken : Obligations.PresentationOvertaken := by
  intro s w b n atOnce region driven passed begun
  have takes {q : Part} (memory : q.memory = s.memory) (epoch : q.memoryEpoch = s.memoryEpoch) :
      s.memoryTakes (q.carryWrite w b (.context n) .pass) w b := s.toPart.memoryTakes_carryWrite_pass q w b _ memory epoch
  refine ⟨fun snapshot written lookup => ?_, fun pr holds => ?_⟩
  · have wrote := s.toPart.contextWrite_overtakes_lookup n b snapshot written lookup
    have effect := imageWrite_carried_granted s w b n 0 _ .pass atOnce region driven wrote
      ((s.toPart.withdrawLookup n).claimsGranted_of_arbiter _ rfl (Part.claimsGranted.withdrawLookup atOnce.2.2 n))
    refine ⟨_, exec_of_effect _ s _ effect, takes rfl rfl, ?_⟩
    rw [Part.withdrawLookup]
    cases s.arbiter.op with
    | none => rfl
    | some o => cases o <;> rfl
  · have wrote := s.toPart.contextWrite_overtakes n b pr holds
    rw [s.toPart.dropPresentation_eq n pr atOnce.2.1, Part.releasePin_eq] at wrote
    have effect := imageWrite_carried_granted s w b n 0 _ .pass atOnce region driven wrote
      ((s.toPart.releasePin pr.entry).claimsGranted_of_arbiter _ (by rw [Part.releasePin_eq]; rfl)
        (Part.claimsGranted.releasePin atOnce.2.2 pr.entry))
    exact ⟨_, exec_of_effect _ s _ effect, takes rfl rfl, rfl⟩

/-! ## Reads -/

theorem imageRead_carried (s : State) (w : BitVec 23) (l : Lanes) (n : Fin 4) (k : Nat) (atOnce : s.takesAtOnce)
    (region : s.region w = .image n k) (selected : l.upper = true ∨ l.lower = true) :
    commandEffect (.imageWindowRead w l) s.toPart = s.toPart.carryRead w l (.context n) ((s.context n).readAnswer k) := by
  have taken : s.toPart.takeCycle w (.read l) = s.toPart.carryRead w l (.context n) ((s.context n).readAnswer k) := by
    have lanes : anyLane (.read l) = true := (anyLane_read l).mpr selected
    have read : s.toPart.takeCycle w (.read l) = s.toPart.takeRead w l := by
      rw [Part.takeCycle.eq_def, lanes]
    rw [read, Part.takeRead, region]
  have effect : commandEffect (.imageWindowRead w l) s.toPart = s.toPart.finishCold.arrive w (.read l) := rfl
  rw [effect, s.toPart.arrive_of_arbiter w (.read l) atOnce (by rw [taken]; simp), taken]

theorem Context.readAnswer_of_pending (c : Context) (k : Nat) (pr : Presentation) (o : OverlayWord)
    (amended : c = .amended pr) (word : pr.overlayWord k = some o) (pending : o.pending = true) :
    c.readAnswer k = .serve o.value := by
  rw [amended, Context.readAnswer]
  simp only [word, pending, if_true]

/-- R65: a read outside LOOKUP, of no PENDING word, passes. -/
theorem Context.readAnswer_of_other (c : Context) (k : Nat) (notLookup : ∀ snapshot written, c ≠ .lookup snapshot written)
    (notPending : ∀ pr o, c = .amended pr → pr.overlayWord k = some o → o.pending = false) : c.readAnswer k = .pass := by
  cases c with
  | lookup snapshot written => exact absurd rfl (notLookup snapshot written)
  | amended pr =>
    rw [Context.readAnswer]
    cases word : pr.overlayWord k with
    | none => rfl
    | some o =>
      simp only [notPending pr o rfl word]
      rfl
  | _ => rfl

/-- Settles O19: the three answers of a context to a read. -/
theorem imageReadAnswered : Obligations.ImageReadAnswered := by
  intro s w l n k atOnce region selected
  have effect := imageRead_carried s w l n k atOnce region selected
  refine ⟨fun snapshot written lookup => ?_, fun pr o amended word pending => ?_, fun notLookup notPending => ?_⟩
  · rw [lookup] at effect
    exact exec_of_effect _ s _ effect
  · rw [(s.context n).readAnswer_of_pending k pr o amended word pending] at effect
    exact exec_of_effect _ s _ effect
  · rw [(s.context n).readAnswer_of_other k notLookup notPending] at effect
    exact exec_of_effect _ s _ effect

/-! ## Writes of overlay words -/

theorem Part.claimsGranted.withContext {p : Part} (h : p.claimsGranted) (n : Fin 4) (c : Context) :
    (p.withContext n c).claimsGranted := p.claimsGranted_of_arbiter _ rfl h

/-- R162, R163: a write that is not held stands as the cycle in progress, and memory takes it. -/
theorem Part.carryWrite_unheld (p : Part) (w : BitVec 23) (b : LaneBytes) (o : Owner) (a : WriteAnswer) (h : a ≠ .hold) :
    p.carryWrite w b o a = { p with
      path := p.path.carrying ⟨w, o, .write b a⟩ none ⟨none, none⟩, memory := (p.carryWrite w b o a).memory } := by
  cases a with
  | hold => exact absurd rfl h
  | _ => rfl

/-- A write that passes, or is widened to the bytes given. -/
def WriteAnswer.takes (a : WriteAnswer) (b taken : LaneBytes) : Prop := a = .pass ∧ taken = b ∨ a = .substitute taken

theorem Part.memoryTakes_carryWrite (p q : Part) (w : BitVec 23) (b taken : LaneBytes) (o : Owner) (a : WriteAnswer)
    (h : a.takes b taken) (memory : q.memory = p.memory) (epoch : q.memoryEpoch = p.memoryEpoch) :
    p.memoryTakes (q.carryWrite w b o a) w taken := by
  obtain ⟨rfl, rfl⟩ | rfl := h
  · exact p.memoryTakes_carryWrite_pass q w taken o memory epoch
  · exact p.memoryTakes_carryWrite_pass q w taken o memory epoch

/-- R55, R66 to R68: what a write that leaves a context `c` comes to, its entry reference released or not. -/
theorem overlayWrite_comesTo (s : State) (w : BitVec 23) (b taken : LaneBytes) (n : Fin 4) (k entry : Nat)
    (a : WriteAnswer) (c : Context) (released : Bool) (atOnce : s.takesAtOnce) (region : s.region w = .image n k)
    (driven : b.upper.isSome ∨ b.lower.isSome) (takes : a.takes b taken)
    (wrote : s.toPart.contextWrite n k b =
      ((if released then s.toPart.releasePin entry else s.toPart).withContext n c, a)) :
    ∃ t, exec (.imageWindowWrite w b) s = .next t
      ∧ s.memoryTakes t.toPart w taken
      ∧ t = { s with
          path := s.path.carrying ⟨w, .context n, .write b a⟩ none ⟨none, none⟩
          memory := t.memory
          contexts := fourWith s.contexts n c
          store := if released = true ∧ s.arbiter.op = none then s.store.unpin entry else s.store
          arbiter := if released = true ∧ s.arbiter.op ≠ none
            then { s.arbiter with releases := s.arbiter.releases ++ [entry] } else s.arbiter } := by
  have unheld : a ≠ .hold := by
    obtain ⟨rfl, -⟩ | rfl := takes <;> simp
  have pins : (if released then s.toPart.releasePin entry else s.toPart) = { s.toPart with
      store := if released = true ∧ s.arbiter.op = none then s.store.unpin entry else s.store
      arbiter := if released = true ∧ s.arbiter.op ≠ none
        then { s.arbiter with releases := s.arbiter.releases ++ [entry] } else s.arbiter } := by
    cases released with
    | false => simp
    | true =>
      by_cases free : s.arbiter.op = none
      · simp [Part.releasePin, free]
      · simp [Part.releasePin, free]
  have granted : ((if released then s.toPart.releasePin entry else s.toPart).withContext n c).claimsGranted := by
    refine Part.claimsGranted.withContext ?_ n c
    cases released with
    | false => exact atOnce.2.2
    | true => exact Part.claimsGranted.releasePin atOnce.2.2 entry
  rw [pins] at wrote granted
  have effect := imageWrite_carried_granted s w b n k _ a atOnce region driven wrote granted
  refine ⟨_, exec_of_effect _ s _ effect, s.toPart.memoryTakes_carryWrite _ w b taken _ a takes rfl rfl, ?_⟩
  dsimp only
  rw [Part.carryWrite_unheld _ w b _ a unheld]
  rfl

section Overlay

variable (p : Part) (n : Fin 4) (k : Nat) (b : LaneBytes) (pr : Presentation) (notFirst : k ≠ 0)
include notFirst

theorem Part.contextWrite_amended_other (amended : p.context n = .amended pr) (word : pr.overlayWord k = none) :
    p.contextWrite n k b = (p.withContext n (.amended (pr.noteWrite k b)), .pass) := by
  rw [Part.contextWrite, amended]
  simp only [if_neg notFirst, word]

theorem Part.contextWrite_settled_other (settled : p.context n = .settled pr) (word : pr.overlayWord k = none) :
    p.contextWrite n k b = (p.withContext n (.settled (pr.noteWrite k b)), .pass) := by
  rw [Part.contextWrite, settled]
  simp only [if_neg notFirst, word]

theorem Part.contextWrite_amended_word (o : OverlayWord) (amended : p.context n = .amended pr)
    (word : pr.overlayWord k = some o) :
    p.contextWrite n k b = (p.amendedWith n ((pr.noteWrite k b).dropWord k), pr.writeAnswer k b) := by
  rw [Part.contextWrite, amended]
  simp only [if_neg notFirst, word]

theorem Part.contextWrite_settled_word (o : OverlayWord) (settled : p.context n = .settled pr)
    (word : pr.overlayWord k = some o) :
    p.contextWrite n k b = (p.withContext n (.settled ((pr.noteWrite k b).dropWord k)), pr.writeAnswer k b) := by
  rw [Part.contextWrite, settled]
  simp only [if_neg notFirst, word]

end Overlay

/-- R68, R163: a one-lane write keeps the overlay's byte in the other lane. -/
theorem widened_eq (value : Word) (b : LaneBytes) :
    widened value b = ⟨some (b.upper.getD (highByte value)), some (b.lower.getD (lowByte value))⟩ := by
  obtain ⟨_ | _, _ | _⟩ := b <;> rfl

/-- R68: a write of an overlay word passes, but for one lane of a PENDING word, which is widened. -/
theorem Presentation.writeAnswer_takes (pr : Presentation) (k : Nat) (b : LaneBytes) (o : OverlayWord)
    (word : pr.overlayWord k = some o) (taken : LaneBytes)
    (isTaken : taken = if o.pending
      then ⟨some (b.upper.getD (highByte o.value)), some (b.lower.getD (lowByte o.value))⟩ else b) :
    pr.writeAnswer k b =
        (if o.pending = true ∧ ¬ (b.upper.isSome ∧ b.lower.isSome) then .substitute taken else .pass)
      ∧ (pr.writeAnswer k b).takes b taken := by
  have answered : pr.writeAnswer k b = if o.pending && !complete b then .substitute (widened o.value b) else .pass := by
    rw [Presentation.writeAnswer, word]
  rw [answered, isTaken]
  obtain ⟨_ | u, _ | l⟩ := b <;> cases o.pending
  all_goals simp [complete, widened_eq, WriteAnswer.takes]

/-- Settles O20: the write noted, the overlay word dropped, and what that leaves of the settling. -/
theorem overlayWordWritten : Obligations.OverlayWordWritten := by
  intro s w b n k pr atOnce region notFirst driven noted dropped comesTo
  refine ⟨fun word => ⟨fun amended => ?_, fun settled => ?_⟩, fun o word => ?_⟩
  · exact overlayWrite_comesTo s w b b n k pr.entry .pass _ false atOnce region driven (.inl ⟨rfl, rfl⟩)
      (s.toPart.contextWrite_amended_other n k b pr notFirst amended word)
  · exact overlayWrite_comesTo s w b b n k pr.entry .pass _ false atOnce region driven (.inl ⟨rfl, rfl⟩)
      (s.toPart.contextWrite_settled_other n k b pr notFirst settled word)
  intro taken answer
  obtain ⟨answered, takes⟩ := pr.writeAnswer_takes k b o word taken rfl
  rw [answered] at takes
  have written (c : Context) (released : Bool) := overlayWrite_comesTo s w b taken n k pr.entry _ c released atOnce region
    driven takes
  have amending (amended : s.context n = .amended pr) := s.toPart.contextWrite_amended_word n k b pr notFirst o amended word
  refine ⟨fun settled => written _ false ?_, fun amended pending => written _ false ?_, fun amended ended =>
    ⟨fun unconfirmed limit await => written _ false ?_, fun done => written _ true ?_⟩⟩
  · rw [s.toPart.contextWrite_settled_word n k b pr notFirst o settled word, answered]
    rfl
  · rw [amending amended, answered, s.toPart.amendedWith_of_pending n ((pr.noteWrite k b).dropWord k) pending]
    rfl
  · rw [amending amended, answered, s.toPart.amendedWith_of_awaiting n ((pr.noteWrite k b).dropWord k) ended unconfirmed limit await]
    rfl
  · rw [amending amended, answered, s.toPart.amendedWith_of_done n ((pr.noteWrite k b).dropWord k) ended done]
    rfl

end Sys2Proof.Machine

/-! PROOFS. The journal watcher's writes (R106, R108 to R112, R117, R131): a write carried, a record begun. -/

namespace Sys2Proof.Machine

/-! ## A write into the journal window -/

section Carried

variable (s : State) (w : BitVec 23) (b : LaneBytes) (r k : Nat) (q : Part) (a : WriteAnswer)
  (atOnce : s.takesAtOnce) (region : s.region w = .journal r k) (driven : b.upper.isSome ∨ b.lower.isSome)
  (wrote : s.toPart.journalWrite r k b = (q, a))
include atOnce region driven wrote

/-- R106, R162: a write into the journal window, carried as the watcher answers. -/
theorem journalWrite_carried :
    commandEffect (.journalWrite w b) s.toPart = (q.carryWrite w b .journalWatcher a).grant := by
  have effect : commandEffect (.journalWrite w b) s.toPart = s.toPart.finishCold.arrive w (.write b) := rfl
  have taken : s.toPart.takeWrite w b = q.carryWrite w b .journalWatcher a := by
    rw [Part.takeWrite, region]
    simp only [wrote]
  rw [effect, s.toPart.finishCold_of_accepts atOnce.1, s.toPart.arrive_write_of_takesAtOnce w b atOnce driven, taken]

/-- R106: what a journal write comes to that the watcher answers without a claim. -/
theorem journalWrite_comesTo (taken : LaneBytes) (takes : a.takes b taken) (arbiter : q.arbiter = s.arbiter)
    (path : q.path = s.path) (memory : q.memory = s.memory) (epoch : q.memoryEpoch = s.memoryEpoch) :
    ∃ t, exec (.journalWrite w b) s = .next t
      ∧ s.memoryTakes t.toPart w taken
      ∧ t = { s with toPart := { q with
          path := s.path.carrying ⟨w, .journalWatcher, .write b a⟩ none ⟨none, none⟩, memory := t.memory } } := by
  have unheld : a ≠ .hold := by
    obtain ⟨rfl, -⟩ | rfl := takes <;> simp
  have granted : (q.carryWrite w b .journalWatcher a).claimsGranted :=
    s.toPart.claimsGranted_of_arbiter _ (by simp [arbiter]) atOnce.2.2
  have effect := journalWrite_carried s w b r k q a atOnce region driven wrote
  rw [granted] at effect
  refine ⟨_, exec_of_effect _ s _ effect, s.toPart.memoryTakes_carryWrite q w b taken _ a takes memory epoch, ?_⟩
  dsimp only
  rw [Part.carryWrite_unheld _ w b _ a unheld, path]

end Carried

/-! ## The assembly before a new one -/

/-- R121: the queue once an assembly has been abandoned. -/
def Part.queueAbandoned (p : Part) : OutcomeQueue :=
  match p.journal with
  | none => p.queue
  | some a => match a.role.annex with
    | some _ => { p.queue with checkFault := 0, outcomes := p.queue.outcomes.map Outcome.detached }
    | none => p.queue

theorem Part.abandonAssembly_eq (p : Part) :
    p.abandonAssembly = { p with queue := p.queueAbandoned, journal := none } := by
  cases journal : p.journal with
  | none =>
    rw [Part.abandonAssembly, Part.queueAbandoned, journal]
    exact congrArg (fun j => { p with journal := j }) journal
  | some a =>
    rw [Part.abandonAssembly, Part.queueAbandoned, journal]
    cases annex : a.role.annex with
    | none => simp only [annex]
    | some _ =>
      simp only [annex]
      rfl

theorem AssemblyRole.annex_eq_none (role : AssemblyRole) (h : ∀ offered o q c, role ≠ .tap offered (.outcome o q c) false) :
    role.annex = Option.none := by
  obtain _ | _ | ⟨offered, _ | _ | _ | ⟨o, q, c⟩, _ | _⟩ | _ := role
  case tap.outcome.false => exact absurd rfl (h offered o q c)
  all_goals rfl

theorem Part.queueAbandoned_of_other (p : Part)
    (h : ∀ a offered o q c, p.journal = some a → a.role ≠ .tap offered (.outcome o q c) false) :
    p.queueAbandoned = p.queue := by
  cases journal : p.journal with
  | none => rw [Part.queueAbandoned, journal]
  | some a =>
    have none := a.role.annex_eq_none fun offered o q c => h a offered o q c journal
    rw [Part.queueAbandoned, journal]
    simp only [none]

theorem Part.queueAbandoned_of_annex (p : Part) (a : Assembly) (offered : Bool) (o : Outcome) (q : Word) (c : ClockState)
    (journal : p.journal = some a) (role : a.role = .tap offered (.outcome o q c) false) :
    p.queueAbandoned = { p.queue with checkFault := 0, outcomes := p.queue.outcomes.map Outcome.detached } := by
  have some : a.role.annex = some (annexWords o q c) := by rw [role]; rfl
  rw [Part.queueAbandoned, journal]
  simp only [some]

/-- R121: a queue that meets the two conditions is the queue abandoned. -/
theorem Part.queueAbandoned_unique (p : Part) (queue : OutcomeQueue)
    (other : (∀ a offered o q c, p.journal = some a → a.role ≠ .tap offered (.outcome o q c) false) → queue = p.queue)
    (annex : ∀ a offered o q c, p.journal = some a → a.role = .tap offered (.outcome o q c) false →
      queue = { p.queue with checkFault := 0, outcomes := p.queue.outcomes.map Outcome.detached }) :
    queue = p.queueAbandoned := by
  by_cases h : ∀ a offered o q c, p.journal = some a → a.role ≠ .tap offered (.outcome o q c) false
  · rw [other h, p.queueAbandoned_of_other h]
  · push Not at h
    obtain ⟨a, offered, o, q, c, journal, role⟩ := h
    rw [annex a offered o q c journal role, p.queueAbandoned_of_annex a offered o q c journal role]

/-! ## The role of word 0 -/

/-- R117, R131: the counters once a kind byte has settled a role. -/
def Part.countersSettled (p : Part) (kind : Byte) : Counters :=
  match roleOf p.setup.keys kind with
  | .none => p.counters
  | .tap => p.counters
  | .heartbeat => p.counters.unmarked

/-- R108: the role that a kind byte settles. -/
def Part.roleSettled (p : Part) (kind : Byte) : AssemblyRole :=
  match roleOf p.setup.keys kind with
  | .none => .none
  | .tap => .tap false .notAsked false
  | .heartbeat => .heartbeat p.report

theorem Part.settleRole_eq (p : Part) (kind : Byte) :
    p.settleRole kind = ({ p with counters := p.countersSettled kind }, p.roleSettled kind) := by
  rw [Part.settleRole, Part.countersSettled, Part.roleSettled]
  cases roleOf p.setup.keys kind <;> rfl

theorem highByte_joinBytes (u l : Byte) : highByte (joinBytes u l) = u := by
  rw [highByte, joinBytes]
  exact BitVec.extractLsb'_append_eq_left

theorem Part.enterWordZero_of_settled (p : Part) (a : Assembly) (b : LaneBytes) (kind sub : Byte)
    (pending : a.role = .pending) (whole : lanesAt (a.enter 0 b).copy 0 = ⟨some kind, some sub⟩) :
    p.enterWordZero a b = { p with
      counters := p.countersSettled kind, journal := some { a.enter 0 b with role := p.roleSettled kind } } := by
  have word : wholeWord (lanesAt (a.enter 0 b).copy 0) = some (joinBytes kind sub) := by rw [whole]; rfl
  rw [Part.enterWordZero]
  simp only [pending, word]
  rw [highByte_joinBytes, Part.settleRole_eq]

theorem Part.enterWordZero_of_other (p : Part) (a : Assembly) (b : LaneBytes)
    (other : a.role ≠ .pending ∨ wholeWord (lanesAt (a.enter 0 b).copy 0) = none) :
    p.enterWordZero a b = { p with journal := some (a.enter 0 b) } := by
  rw [Part.enterWordZero]
  obtain notPending | open_ := other
  · cases role : a.role with
    | pending => exact absurd role notPending
    | _ => rfl
  · simp only [open_]
    cases a.role <;> rfl

theorem wholeWord_eq_none (b : LaneBytes) (h : b.upper = none ∨ b.lower = none) : wholeWord b = none := by
  obtain ⟨_ | u, _ | l⟩ := b
  case some.some => simp at h
  all_goals rfl

/-! ## A record begun -/

theorem lanesAt_blank (b : LaneBytes) : (blankCopy.set 0 (overlaid (lanesAt blankCopy 0) b)) = blankCopy.set 0 b := by
  obtain ⟨_ | u, _ | l⟩ := b <;> rfl

theorem Part.journalWrite_begins (p : Part) (r : Nat) (b : LaneBytes)
    (fresh : p.journal = none ∨ ∃ a, p.journal = some a ∧ ¬ (a.record = r ∧ completesOther (lanesAt a.copy 0) b = true)) :
    p.journalWrite r 0 b = (p.beginAssembly r b, .pass) := by
  rw [Part.journalWrite, if_pos rfl, Part.journalWordZero]
  obtain journal | ⟨a, journal, not⟩ := fresh
  · rw [journal]
  · rw [journal]
    simp only [if_neg not]

theorem Part.journalWrite_continues (p : Part) (r : Nat) (b : LaneBytes) (a : Assembly) (journal : p.journal = some a)
    (record : a.record = r) (other : completesOther (lanesAt a.copy 0) b = true) :
    p.journalWrite r 0 b = (p.enterWordZero a b, .pass) := by
  rw [Part.journalWrite, if_pos rfl, Part.journalWordZero, journal]
  simp only [if_pos (And.intro record other)]

theorem lanesAt_enter_of_touched (a : Assembly) (b : LaneBytes)
    (h : (lanesAt a.copy 0).upper.isSome ≠ (lanesAt a.copy 0).lower.isSome) :
    lanesAt (a.enter 0 b).copy 0 = overlaid (lanesAt a.copy 0) b := by
  have inside : 0 < a.copy.length := by
    refine Nat.pos_of_ne_zero fun empty => h ?_
    rw [List.length_eq_zero_iff.mp empty]
    rfl
  rw [Assembly.enter, lanesAt_set, if_pos inside]

/-- Settles O22: the assembly before abandoned and a new one begun, or word 0 of the one in hand completed. -/
theorem journalRecordBegins : Obligations.JournalRecordBegins := by
  intro s w b r atOnce region driven drivesOtherLane passed marks role
  have completes (x : LaneBytes) : drivesOtherLane x ↔ completesOther x b = true := (completesOther_iff x b).symm
  have settledCounters (p : Part) (kind : Byte) (setup : p.setup = s.setup) (counters : p.counters = s.counters) :
      p.countersSettled kind = marks kind := by
    rw [Part.countersSettled, setup, counters] <;> rfl
  have settledRole (p : Part) (kind : Byte) (setup : p.setup = s.setup) : p.roleSettled kind = role kind p.report := by
    rw [Part.roleSettled, setup] <;> rfl
  refine ⟨fun queue fresh other annex => ?_, fun a kind sub journal record drives whole => ?_⟩
  · have queueIs : queue = s.toPart.queueAbandoned := s.toPart.queueAbandoned_unique queue other annex
    have begins := s.toPart.journalWrite_begins r b (by simpa only [completes] using fresh)
    rw [Part.beginAssembly, Part.abandonAssembly_eq, ← queueIs] at begins
    have copied : (Assembly.enter ⟨r, .pending, blankCopy, none⟩ 0 b).copy = blankCopy.set 0 b := lanesAt_blank b
    have first : lanesAt (Assembly.enter ⟨r, .pending, blankCopy, none⟩ 0 b).copy 0 = b := by
      rw [copied, lanesAt_set]
      rfl
    refine ⟨fun kind sub both => ?_, fun oneLane => ?_⟩
    · rw [Part.enterWordZero_of_settled _ _ b kind sub rfl (first.trans both),
        settledCounters { s.toPart with queue := queue, journal := none } kind rfl rfl,
        settledRole { s.toPart with queue := queue, journal := none } kind rfl, Assembly.enter, lanesAt_blank] at begins
      exact journalWrite_comesTo s w b r 0 _ .pass atOnce region driven begins b (.inl ⟨rfl, rfl⟩) rfl rfl rfl rfl
    · rw [Part.enterWordZero_of_other _ _ b (.inr (by rw [first]; exact wholeWord_eq_none b oneLane)), Assembly.enter,
        lanesAt_blank] at begins
      exact journalWrite_comesTo s w b r 0 _ .pass atOnce region driven begins b (.inl ⟨rfl, rfl⟩) rfl rfl rfl rfl
  · have wrote := s.toPart.journalWrite_continues r b a journal record ((completes _).mp drives)
    have entered := lanesAt_enter_of_touched a b drives.1
    have copied : a.enter 0 b = { a with copy := a.copy.set 0 ⟨some kind, some sub⟩ } := by rw [Assembly.enter, whole]
    by_cases pending : a.role = .pending
    · rw [Part.enterWordZero_of_settled _ a b kind sub pending (entered.trans whole), settledCounters _ kind rfl rfl,
        settledRole _ kind rfl, copied] at wrote
      rw [if_pos pending, if_pos pending]
      exact journalWrite_comesTo s w b r 0 _ .pass atOnce region driven wrote b (.inl ⟨rfl, rfl⟩) rfl rfl rfl rfl
    · rw [Part.enterWordZero_of_other _ a b (.inl pending), copied] at wrote
      rw [if_neg pending, if_neg pending]
      exact journalWrite_comesTo s w b r 0 _ .pass atOnce region driven wrote b (.inl ⟨rfl, rfl⟩) rfl rfl rfl rfl

end Sys2Proof.Machine

/-! PROOFS. The status report (R131 to R134): its page, its figures, its words and its codes. -/

namespace Sys2Proof.Machine

theorem Part.choosePage_outcome (p : Part) (before after : List Outcome) (o : Outcome) (previous : p.previousPage = .counters)
    (outcomes : p.queue.outcomes = before ++ o :: after) (reported : ∀ x ∈ before, x.isUnreported = false)
    (unreported : o.isUnreported = true) : p.choosePage = .outcome o := by
  have none : before.find? (·.isUnreported) = none := List.find?_eq_none.mpr fun x mem => by simp [reported x mem]
  have oldest : p.oldestUnreported = some o := by
    rw [Part.oldestUnreported, outcomes, List.find?_append, none, List.find?_cons_of_pos unreported]
    rfl
  rw [Part.choosePage, previous, oldest]

theorem Part.choosePage_counters (p : Part)
    (h : p.previousPage = .outcome ∨ ∀ x ∈ p.queue.outcomes, x.isUnreported = false) :
    p.choosePage = .counters p.counters := by
  rw [Part.choosePage]
  obtain previous | reported := h
  · rw [previous]
  · have none : p.oldestUnreported = none := List.find?_eq_none.mpr fun x mem => by simp [reported x mem]
    rw [none]
    cases p.previousPage <;> rfl

theorem Page.words_length (page : Page) : page.words.length = 12 := by cases page <;> rfl

theorem Report.words_take (x : Report) : x.words.take 12 = x.page.words := by
  rw [Report.words, List.take_left' x.page.words_length]

theorem Report.words_drop (x : Report) : x.words.drop 12 =
    [joinBytes x.supply.code x.mode.code, highWord x.fileNumber, lowWord x.fileNumber,
      BitVec.ofNat 16 x.visible, BitVec.ofNat 16 x.available, BitVec.ofNat 16 x.freePasses,
      joinBytes (BitVec.ofNat 8 x.unreported) (BitVec.ofNat 8 x.reservedOrAttached),
      highWord x.shownSeconds, lowWord x.shownSeconds, x.flagsWord, x.ordinal] := by
  rw [Report.words, List.drop_left' x.page.words_length]

/-- R132: the seconds shown, 0 while the clock is UNSET. -/
theorem Report.shownSeconds_eq (x : Report) :
    x.shownSeconds = if x.clockState = .unset then 0 else x.seconds := by
  rw [Report.shownSeconds]
  cases x.clockState <;> rfl

/-- R189: the flags stand above the two bits of the clock's code. -/
theorem flagsWord_sum (c : ClockState) (locked lost ignored running : Bool) :
    (BitVec.zeroExtend 16 c.code) ||| flagAt locked 2 ||| flagAt lost 3 ||| flagAt ignored 4 ||| flagAt running 5
      = BitVec.ofNat 16 (c.code.toNat + (if locked then 4 else 0) + (if lost then 8 else 0) + (if ignored then 16 else 0)
          + (if running then 32 else 0)) := by
  revert locked lost ignored running
  cases c <;> decide

theorem reasonCode_eq {α : Type} (code : α → Byte) (r : Option α) : reasonCode code r = (r.map code).getD 0 := by
  cases r <;> rfl

theorem Report.words_take_outcome (x : Report) (o : Outcome) (q : Word) (page : x.page = .outcome o)
    (unreported : o.state = .unreported q) : x.words.take 12 =
      [1, serialWord o.serial 0, serialWord o.serial 1, serialWord o.serial 2, serialWord o.serial 3,
        highWord o.action, lowWord o.action, highWord o.value, lowWord o.value, joinBytes o.kind.code 0,
        joinBytes (BitVec.ofNat 8 o.passes) (BitVec.ofNat 8 o.passesDropped), q] := by
  rw [x.words_take, page, Page.words, unreported]
  rfl

theorem Report.words_take_counters (x : Report) (c : Counters) (page : x.page = .counters c) : x.words.take 12 =
    [2, c.presentations, c.restoresConfirmed, c.blocksConfirmed, c.observed, c.deferrals, c.unconfirmed,
      c.holdExpiries, c.filesCommitted, c.filesRefused,
      joinBytes ((c.lastRefusal.map FileRefusal.code).getD 0) ((c.lastDeferral.map DeferReason.code).getD 0),
      c.observedDropped] := by
  rw [x.words_take, page, Page.words, reasonCode_eq, reasonCode_eq]

theorem Report.words_drop_figures (x : Report) : x.words.drop 12 =
    [joinBytes x.supply.code x.mode.code, highWord x.fileNumber, lowWord x.fileNumber,
      BitVec.ofNat 16 x.visible, BitVec.ofNat 16 x.available, BitVec.ofNat 16 x.freePasses,
      joinBytes (BitVec.ofNat 8 x.unreported) (BitVec.ofNat 8 x.reservedOrAttached),
      if x.clockState = .unset then 0 else highWord x.seconds,
      if x.clockState = .unset then 0 else lowWord x.seconds,
      BitVec.ofNat 16 (x.clockState.code.toNat + (if x.locked then 4 else 0) + (if x.tableLost then 8 else 0)
        + (if x.setupIgnored then 16 else 0) + (if x.sweepRunning then 32 else 0)), x.ordinal] := by
  rw [x.words_drop, Report.flagsWord, flagsWord_sum, x.shownSeconds_eq]
  by_cases unset : x.clockState = .unset
  · simp only [if_pos unset]
    rfl
  · simp only [if_neg unset]

theorem Entry.visible_iff (e : Entry) : e.visible = true ↔ e.state = .live ∨ ∃ d, e.state = .applied d := by
  rw [Entry.visible]
  cases e.state <;> simp

/-- Settles O23: the page, the figures and the words of the report, and the codes in them. -/
theorem reportFreezesFigures : Obligations.ReportFreezesFigures := by
  refine ⟨fun s => ⟨s.toPart.choosePage_outcome, s.toPart.choosePage_counters, rfl⟩,
    fun x => ⟨x.words_take_outcome, x.words_take_counters, x.words_drop_figures⟩, Entry.visible_iff,
    rfl, rfl, rfl, rfl, rfl, rfl⟩

end Sys2Proof.Machine

/-! PROOFS. A serial offered to the image contexts (R72, R73, R113, R129). -/

namespace Sys2Proof.Machine

/-! ## The context that matches -/

/-- R72: a context open to confirmation that carries a serial. -/
def Part.opens (p : Part) (serial : BitVec 64) (n : Fin 4) : Prop :=
  ∃ pr limit, (p.context n).holds pr ∧ pr.confirmed = false ∧ pr.await = .running limit ∧ imageSerial pr.snapshot = serial

theorem Context.openPresentation_of_holds (c : Context) (pr : Presentation) (limit : Nat) (holds : c.holds pr)
    (unconfirmed : pr.confirmed = false) (await : pr.await = .running limit) :
    c.openPresentation = some (pr, decide (c = .settled pr)) := by
  obtain rfl | rfl := holds
  · simp [Context.openPresentation, unconfirmed, await]
  · simp [Context.openPresentation, unconfirmed, await]

theorem Context.holds_of_openPresentation (c : Context) (pr : Presentation) (isSettled : Bool)
    (h : c.openPresentation = some (pr, isSettled)) :
    c.holds pr ∧ pr.confirmed = false ∧ ∃ limit, pr.await = .running limit := by
  obtain _ | _ | _ | x | x := c
  case amended | settled =>
    cases await : x.await with
    | running limit =>
      simp only [Context.openPresentation, await, Bool.and_true, Bool.not_eq_true', Option.ite_none_right_eq_some,
        Option.some.injEq, Prod.mk.injEq] at h
      obtain ⟨unconfirmed, rfl, -⟩ := h
      exact ⟨by simp [Context.holds], unconfirmed, limit, await⟩
    | _ => simp [Context.openPresentation, await] at h
  all_goals simp [Context.openPresentation] at h

theorem Part.opensTo_iff (p : Part) (serial : BitVec 64) (n : Fin 4) :
    p.opensTo serial n = true ↔ p.opens serial n := by
  rw [Part.opensTo, Option.any_eq_true_iff_get]
  constructor
  · rintro ⟨isSome, carries⟩
    obtain ⟨⟨pr, isSettled⟩, isOpen⟩ := Option.isSome_iff_exists.mp isSome
    obtain ⟨holds, unconfirmed, limit, await⟩ := Context.holds_of_openPresentation _ pr isSettled isOpen
    simp only [isOpen, Option.get_some, beq_iff_eq] at carries
    exact ⟨pr, limit, holds, unconfirmed, await, carries⟩
  · rintro ⟨pr, limit, holds, unconfirmed, await, carries⟩
    have isOpen := Context.openPresentation_of_holds _ pr limit holds unconfirmed await
    exact ⟨by simp [isOpen], by simp [isOpen, carries]⟩

theorem Part.matching_eq_some_iff (p : Part) (serial : BitVec 64) (n : Fin 4) : p.matching serial = some n ↔
    ∃ before after, p.awaitOrder = before ++ n :: after ∧ p.opens serial n ∧ ∀ m ∈ before, ¬ p.opens serial m := by
  rw [Part.matching, List.find?_eq_some_iff_append]
  simp only [← p.opensTo_iff serial, Bool.not_eq_true, Bool.not_eq_true']
  exact ⟨fun ⟨opens, before, after, order, closed⟩ => ⟨before, after, order, opens, closed⟩,
    fun ⟨before, after, order, opens, closed⟩ => ⟨opens, before, after, order, closed⟩⟩

theorem Part.matching_eq_none_iff (p : Part) (serial : BitVec 64) : p.matching serial = none ↔
    ∀ m ∈ p.awaitOrder, ¬ p.opens serial m := by
  rw [Part.matching, List.find?_eq_none]
  simp only [← p.opensTo_iff serial]

/-! ## The serial of the record -/

theorem Assembly.offers_iff (a : Assembly) (b : LaneBytes) : a.offers b = true ↔
    complete (lanesAt a.copy 4) = false ∧ complete (overlaid (lanesAt a.copy 4) b) = true
      ∧ ∀ k < 4, complete (lanesAt a.copy k) = true := by
  simp only [Assembly.offers, Bool.and_eq_true, Bool.not_eq_true']
  constructor
  · rintro ⟨⟨⟨⟨⟨open_, closes⟩, zero⟩, one⟩, two⟩, three⟩
    refine ⟨open_, closes, fun k before => ?_⟩
    interval_cases k
    · exact zero
    · exact one
    · exact two
    · exact three
  · rintro ⟨open_, closes, whole⟩
    exact ⟨⟨⟨⟨⟨open_, closes⟩, whole 0 (by omega)⟩, whole 1 (by omega)⟩, whole 2 (by omega)⟩, whole 3 (by omega)⟩

theorem joinBytes_highByte_lowByte (x : Word) : joinBytes (highByte x) (lowByte x) = x := by
  rw [joinBytes, highByte, lowByte, BitVec.extractLsb'_append_extractLsb'_eq_extractLsb' (by rfl : 8 = 0 + 8)]
  exact BitVec.extractLsb'_eq_self

theorem lanesAt_set_ne (copy : List LaneBytes) (j k : Nat) (b : LaneBytes) (h : j ≠ k) :
    lanesAt (copy.set j b) k = lanesAt copy k := by
  rw [lanesAt, lanesAt, List.getD_eq_getElem?_getD, List.getD_eq_getElem?_getD, List.getElem?_set_ne h]

theorem wholeWord_of_bytes (x : Word) : wholeWord ⟨some (highByte x), some (lowByte x)⟩ = some x :=
  congrArg some (joinBytes_highByte_lowByte x)

theorem Assembly.serial_enter (a : Assembly) (b : LaneBytes) (length : a.copy.length = 32) (x1 x2 x3 x4 : Word)
    (one : lanesAt a.copy 1 = ⟨some (highByte x1), some (lowByte x1)⟩)
    (two : lanesAt a.copy 2 = ⟨some (highByte x2), some (lowByte x2)⟩)
    (three : lanesAt a.copy 3 = ⟨some (highByte x3), some (lowByte x3)⟩)
    (four : overlaid (lanesAt a.copy 4) b = ⟨some (highByte x4), some (lowByte x4)⟩) :
    (a.enter 4 b).serial = joinSerial x1 x2 x3 x4 := by
  rw [Assembly.serial, Assembly.enter]
  dsimp only
  rw [lanesAt_set, if_pos (by omega), lanesAt_set_ne _ _ _ _ (by omega), lanesAt_set_ne _ _ _ _ (by omega),
    lanesAt_set_ne _ _ _ _ (by omega), one, two, three, four]
  simp only [wholeWord_of_bytes, Option.getD_some]

/-! ## The confirmation -/

/-- R129: the queue once the outcome a context holds has been confirmed. -/
def Part.queueConfirmed (p : Part) (n : Fin 4) (early : Bool) : OutcomeQueue :=
  match p.outcomeHeld n with
  | none => p.queue
  | some _ => { p.queue with
      checkFault := 0, nextSequence := p.queue.nextSequence + 1
      outcomes := p.queue.outcomes.map fun x => if x.state = .reserved n then
        { x with state := if early then .unreported p.queue.nextSequence else .attached p.queue.nextSequence } else x }

theorem Part.confirmOutcome_queue (p : Part) (n : Fin 4) (early : Bool) :
    p.confirmOutcome n (!early) = { p with queue := { p.queue with
      checkFault := 0, nextSequence := p.queue.nextSequence + 1
      outcomes := p.queue.outcomes.map fun x => if x.state = .reserved n then
        { x with state := if early then .unreported p.queue.nextSequence else .attached p.queue.nextSequence } else x } } := by
  have same : (fun o : Outcome => if o.heldBy n = true then
      { o with state := if (!early) = true then .attached p.queue.nextSequence else .unreported p.queue.nextSequence } else o)
      = fun x => if x.state = .reserved n then
        { x with state := if early then .unreported p.queue.nextSequence else .attached p.queue.nextSequence } else x := by
    funext o
    cases early <;> simp [Outcome.heldBy]
  rw [Part.confirmOutcome, same]
  rfl

/-- R73: the arbiter once a presentation has been confirmed: a mark claimed, the entry reference released. -/
def Arbiter.confirming (a : Arbiter) (pr : Presentation) (settled : Prop) [Decidable settled] : Arbiter :=
  { a with
    marks := if pr.decision = .restore then a.marks ++ [⟨pr.entry, imageSerial pr.snapshot, pr.action⟩] else a.marks
    releases := if settled ∧ a.op ≠ none then a.releases ++ [pr.entry] else a.releases }

theorem Part.claimMarkFor_eq (p : Part) (pr : Presentation) : p.claimMarkFor pr = { p with arbiter := { p.arbiter with
    marks := if pr.decision = .restore
      then p.arbiter.marks ++ [⟨pr.entry, imageSerial pr.snapshot, pr.action⟩] else p.arbiter.marks } } := by
  rw [Part.claimMarkFor]
  cases pr.decision <;> rfl

theorem Part.afterConfirmation_eq (p : Part) (n : Fin 4) (pr : Presentation) (settled : Prop) [Decidable settled] :
    p.afterConfirmation n pr (decide settled) = { p with
      store := if settled ∧ p.arbiter.op = none then p.store.unpin pr.entry else p.store
      arbiter := { p.arbiter with
        releases := if settled ∧ p.arbiter.op ≠ none then p.arbiter.releases ++ [pr.entry] else p.arbiter.releases }
      contexts := fourWith p.contexts n
        (if settled then .empty else .amended { pr with confirmed := true, await := .stopped }) } := by
  rw [Part.afterConfirmation]
  by_cases isSettled : settled
  · by_cases free : p.arbiter.op = none
    · have notHeld : ¬ (settled ∧ p.arbiter.op ≠ none) := fun held => held.2 free
      rw [decide_eq_true isSettled, if_pos (And.intro isSettled free), if_neg notHeld, if_pos isSettled, if_pos rfl,
        Part.releasePin, if_pos free]
      rfl
    · simp [Part.releasePin, Part.withContext, free, isSettled]
  · simp [Part.withContext, Presentation.confirm, isSettled]

theorem Part.offerSerial_noMatch (p : Part) (serial : BitVec 64) (amendable : Bool)
    (h : serial = 0 ∨ p.matching serial = none) : p.offerSerial serial amendable = (p, .noMatch) := by
  rw [Part.offerSerial]
  obtain zero | none := h
  · rw [if_pos zero]
  · simp only [none, ite_self]

/-- R73, R113, R129: the part once an offered serial has matched the presentation of a context. -/
def Part.confirmed (p : Part) (n : Fin 4) (pr : Presentation) (early : Bool) (settled : Prop)
    [Decidable settled] : Part :=
  { p with
    queue := p.queueConfirmed n early
    counters := p.counters.confirmation pr.decision
    arbiter := p.arbiter.confirming pr settled
    store := if settled ∧ p.arbiter.op = none then p.store.unpin pr.entry else p.store
    contexts := fourWith p.contexts n
      (if settled then .empty else .amended { pr with confirmed := true, await := .stopped }) }

theorem Part.offerSerial_matched (p : Part) (serial : BitVec 64) (early : Bool) (n : Fin 4) (pr : Presentation)
    (settled : Prop) [Decidable settled] (notZero : serial ≠ 0) (found : p.matching serial = some n)
    (isOpen : (p.context n).openPresentation = some (pr, decide settled)) :
    p.offerSerial serial (!early) = (p.confirmed n pr early settled, p.matchOf n) := by
  rw [Part.offerSerial, if_neg notZero]
  simp only [found, isOpen]
  rw [Part.claimMarkFor_eq, Part.afterConfirmation_eq, Part.confirmed, Part.queueConfirmed]
  cases held : p.outcomeHeld n with
  | none =>
    have answer : p.matchOf n = .matchOnly := by rw [Part.matchOf, held]
    rw [answer]
    rfl
  | some o =>
    have answer : p.matchOf n = .outcome o p.queue.nextSequence p.clock.state := by rw [Part.matchOf, held]
    rw [answer]
    dsimp only
    rw [Part.confirmOutcome_queue]
    rfl

theorem Part.journalWrite_offers (p : Part) (b : LaneBytes) (r : Nat) (a : Assembly) (early : Bool)
    (journal : p.journal = some a) (record : a.record = r) (role : a.role = .tap false .notAsked early)
    (offers : a.offers b = true) :
    p.journalWrite r 4 b = ({ (p.offerSerial (a.enter 4 b).serial (!early)).1 with
      journal := some { a.enter 4 b with role := .tap true (p.offerSerial (a.enter 4 b).serial (!early)).2 early } }, .pass) := by
  rw [Part.journalWrite, if_neg (by omega), journal]
  simp only [if_pos record]
  rw [Part.recordWrite, role]
  exact if_pos ⟨rfl, offers⟩

/-- R113: a write that offers a serial drives a lane. -/
theorem Assembly.driven_of_offers (a : Assembly) (b : LaneBytes) (offers : a.offers b = true) :
    b.upper.isSome ∨ b.lower.isSome := by
  obtain ⟨open_, closes, -⟩ := (a.offers_iff b).mp offers
  obtain ⟨_ | u, _ | l⟩ := b
  case none.none =>
    have same : overlaid (lanesAt a.copy 4) ⟨none, none⟩ = lanesAt a.copy 4 := rfl
    rw [same, open_] at closes
    exact absurd closes (by simp)
  all_goals simp

/-- R72: what a context that matches holds. -/
theorem Part.openPresentation_of_matching (p : Part) (serial : BitVec 64) (n : Fin 4) (pr : Presentation)
    (found : p.matching serial = some n) (holds : (p.context n).holds pr) :
    (p.context n).openPresentation = some (pr, decide (p.context n = .settled pr)) := by
  obtain ⟨-, -, -, ⟨pr', limit, holds', unconfirmed, await, -⟩, -⟩ := (p.matching_eq_some_iff serial n).mp found
  have same : pr' = pr := by
    obtain h | h := holds <;> obtain h' | h' := holds' <;> rw [h] at h' <;> simpa using h'.symm
  rw [same] at unconfirmed await
  exact Context.openPresentation_of_holds _ pr limit holds unconfirmed await

/-- R113: an offered serial that matches brings the confirmed part, with the match in the assembly. -/
theorem serialOffered_matched (s : State) (w : BitVec 23) (b : LaneBytes) (r : Nat) (a : Assembly) (early : Bool)
    (atOnce : s.takesAtOnce) (region : s.region w = .journal r 4) (journal : s.journal = some a) (record : a.record = r)
    (role : a.role = .tap false .notAsked early) (offers : a.offers b = true) (n : Fin 4) (pr : Presentation)
    (notZero : (a.enter 4 b).serial ≠ 0) (found : s.toPart.matching (a.enter 4 b).serial = some n)
    (holds : (s.context n).holds pr) :
    ∃ t, exec (.journalWrite w b) s = .next t
      ∧ s.memoryTakes t.toPart w b
      ∧ t = { s with
          toPart := Part.grant { s.toPart.confirmed n pr early (s.context n = .settled pr) with
            path := s.path.carrying ⟨w, .journalWatcher, .write b .pass⟩ none ⟨none, none⟩
            memory := t.memory
            journal := some { a with
              copy := a.copy.set 4 (overlaid (lanesAt a.copy 4) b), role := .tap true (s.toPart.matchOf n) early } } } := by
  have isOpen := s.toPart.openPresentation_of_matching _ n pr found holds
  have wrote := s.toPart.journalWrite_offers b r a early journal record role offers
  rw [s.toPart.offerSerial_matched _ early n pr _ notZero found isOpen] at wrote
  have effect := journalWrite_carried s w b r 4 _ .pass atOnce region (a.driven_of_offers b offers) wrote
  refine ⟨_, exec_of_effect _ s _ effect,
    Part.memoryTakes_grant (s.toPart.memoryTakes_carryWrite_pass _ w b _ rfl rfl), ?_⟩
  dsimp only
  rw [Part.grant_memory]
  rfl

/-- Settles O24: the serial matches, and with an operation in progress nothing is granted. -/
theorem serialConfirmsRestore : Obligations.SerialConfirmsRestore := by
  intro s w b r a n pr o limit atOnce running region journal record role offers notZero found amended unconfirmed await
    restore held
  obtain ⟨t, next, takes, is⟩ := serialOffered_matched s w b r a false atOnce region journal record role offers n pr notZero
    found (.inl amended)
  refine ⟨t, next, takes, is.trans ?_⟩
  have notSettled : ¬ s.context n = .settled pr := by simp [amended]
  have notReleased : ¬ (s.context n = .settled pr ∧ s.arbiter.op ≠ none) := fun released => notSettled released.1
  have notUnpinned : ¬ (s.context n = .settled pr ∧ s.arbiter.op = none) := fun released => notSettled released.1
  dsimp only
  rw [Part.grant_of_running, Part.confirmed, Part.queueConfirmed, Arbiter.confirming, if_neg notReleased,
    if_neg notUnpinned, if_neg notSettled, if_pos restore, Part.matchOf, held, restore]
  · rfl
  · exact running

/-- Settles O25: the context that matches, the serial in the record, and the two outcomes of the offer. -/
theorem serialOffered : Obligations.SerialOffered := by
  refine ⟨fun p serial => ⟨p.matching_eq_some_iff serial, p.matching_eq_none_iff serial⟩, fun a b length =>
    ⟨a.offers_iff b, a.serial_enter b length⟩, ?_⟩
  intro s w b r a early atOnce region journal record role offers serial passed kept
  refine ⟨fun noMatch => ?_, fun n pr notZero found holds => ?_⟩
  · have wrote := s.toPart.journalWrite_offers b r a early journal record role offers
    rw [s.toPart.offerSerial_noMatch _ _ noMatch] at wrote
    exact journalWrite_comesTo s w b r 4 _ .pass atOnce region (a.driven_of_offers b offers) wrote b (.inl ⟨rfl, rfl⟩) rfl rfl
      rfl rfl
  · intro own settled
    obtain ⟨t, next, takes, is⟩ := serialOffered_matched s w b r a early atOnce region journal record role offers n pr notZero
      found holds
    refine ⟨t, next, takes, is.trans ?_⟩
    rw [Part.confirmed, Part.queueConfirmed, Arbiter.confirming, Part.matchOf]
    have ownIs : own = s.toPart.outcomeHeld n := rfl
    rw [ownIs]
    cases s.toPart.outcomeHeld n <;> cases pr.decision <;> rfl

end Sys2Proof.Machine

/-! PROOFS. The words a record carries and how it ends (R109 to R120, R135). -/

namespace Sys2Proof.Machine

/-! ## Lanes -/

theorem overlaid_inLanesOf_complete (x b : LaneBytes) (v : Word) :
    complete (overlaid x (inLanesOf b v)) = complete (overlaid x b) := by
  obtain ⟨_ | u, _ | l⟩ := b <;> rfl

theorem lanesAt_enter_last (a : Assembly) (k : Nat) (b : LaneBytes) (h : k < 31) :
    lanesAt (a.enter k b).copy 31 = lanesAt a.copy 31 := lanesAt_set_ne a.copy k 31 _ (by omega)

theorem lanesAt_enter_closing (a : Assembly) (b : LaneBytes) (length : a.copy.length = 32) :
    lanesAt (a.enter 31 b).copy 31 = overlaid (lanesAt a.copy 31) b := by
  rw [Assembly.enter, lanesAt_set, if_pos (by omega)]

/-! ## The closing check -/

theorem Assembly.closingCheck_whole (a : Assembly) (v : Word)
    (h : a.closing = some (.whole v)
      ∨ a.closing = none ∧ (∀ k < 31, complete (lanesAt a.copy k) = true) ∧ v = crc16 (copyWords (a.copy.take 31))) :
    a.closingCheck = .whole v := by
  rw [Assembly.closingCheck]
  obtain fixed | ⟨open_, whole, rfl⟩ := h
  · rw [fixed]
  · rw [open_]
    exact if_pos (List.all_eq_true.mpr fun k mem => whole k (List.mem_range.mp mem))

theorem Assembly.closingCheck_broken (a : Assembly)
    (h : a.closing = some .broken ∨ a.closing = none ∧ ∃ k < 31, complete (lanesAt a.copy k) = false) :
    a.closingCheck = .broken := by
  rw [Assembly.closingCheck]
  obtain fixed | ⟨open_, k, before, missing⟩ := h
  · rw [fixed]
  · rw [open_]
    refine if_neg fun all => ?_
    have whole := List.all_eq_true.mp all k (List.mem_range.mpr before)
    exact absurd (whole.symm.trans missing) (by simp)

/-! ## Writes to a record in hand -/

/-- R116, R119: word 31 entered under a closing check. -/
def Assembly.closed (a : Assembly) (b : LaneBytes) (check : ClosingCheck) : Assembly :=
  { a.enter 31 b with closing := some check }

theorem lanesAt_closed (a : Assembly) (b : LaneBytes) (check : ClosingCheck) (length : a.copy.length = 32) :
    lanesAt (a.closed b check).copy 31 = overlaid (lanesAt a.copy 31) b := lanesAt_enter_closing a b length

section Writes

variable (p : Part) (a : Assembly) (k : Nat) (b : LaneBytes)

theorem Part.withAssembly_of_open (ended : Part → Part) (h : complete (lanesAt a.copy 31) = false) :
    p.withAssembly a ended = { p with journal := some a } := by
  rw [Part.withAssembly, h]
  rfl

theorem Part.withAssembly_of_whole (ended : Part → Part) (h : complete (lanesAt a.copy 31) = true) :
    p.withAssembly a ended = { ended p with journal := none } := by
  rw [Part.withAssembly, if_pos h]

theorem Part.passedWrite_of_open (h : complete (lanesAt (a.enter k b).copy 31) = false) :
    p.passedWrite a k b = ({ p with journal := some (a.enter k b) }, .pass) := by
  rw [Part.passedWrite, p.withAssembly_of_open _ _ h]

theorem Part.passedWrite_of_whole (h : complete (lanesAt (a.enter k b).copy 31) = true) :
    p.passedWrite a k b = ({ p with journal := none }, .pass) := by
  rw [Part.passedWrite, p.withAssembly_of_whole _ _ h]
  rfl

theorem Part.substitutedWrite_of_open (v : Word) (h : complete (lanesAt (a.enter k (inLanesOf b v)).copy 31) = false) :
    p.substitutedWrite a k b v =
      ({ p with journal := some (a.enter k (inLanesOf b v)) }, .substitute (inLanesOf b v)) := by
  rw [Part.substitutedWrite, p.withAssembly_of_open _ _ h]

theorem Part.journalWrite_inRecord (notFirst : k ≠ 0) (journal : p.journal = some a) :
    p.journalWrite a.record k b = p.recordWrite a k b := by
  rw [Part.journalWrite, if_neg notFirst, journal]
  exact if_pos rfl

theorem Part.tapWrite_of_early (offered : Bool) (answer : TapMatch) (early : Bool) (before : k < 24)
    (noOffer : ¬ (k = 4 ∧ a.offers b = true)) : p.tapWrite a offered answer early k b = p.passedWrite a k b := by
  rw [Part.tapWrite, if_neg noOffer, if_neg (by omega), if_neg (by omega)]

theorem Part.tapWrite_of_annex (offered : Bool) (answer : TapMatch) (early : Bool) (words : List Word) (from24 : 24 ≤ k)
    (to30 : k ≤ 30) (due : a.annexDue = some words) :
    p.tapWrite a offered answer early k b = p.substitutedWrite a k b (wordAt words (k - 24)) := by
  rw [Part.tapWrite, if_neg (by omega), if_pos ⟨from24, to30⟩, due]

theorem Part.tapWrite_of_noAnnex (offered : Bool) (answer : TapMatch) (early : Bool) (from24 : 24 ≤ k)
    (to30 : k ≤ 30) (due : a.annexDue = none) : p.tapWrite a offered answer early k b =
      p.passedWrite { a with role := .tap offered answer (early || !offered) } k b := by
  rw [Part.tapWrite, if_neg (by omega), if_pos ⟨from24, to30⟩, due]

theorem Part.tapWrite_closing_of_annex (offered : Bool) (answer : TapMatch) (early : Bool) (words : List Word)
    (annex : a.role.annex = some words) :
    p.tapWrite a offered answer early 31 b = p.closingWrite a b Part.removeAttached Part.detachOutcome := by
  rw [Part.tapWrite, if_neg (by omega), if_neg (by omega), if_pos rfl, annex]

theorem Part.tapWrite_closing_of_noAnnex (offered : Bool) (answer : TapMatch) (early : Bool) (annex : a.role.annex = none) :
    p.tapWrite a offered answer early 31 b = p.passedWrite { a with closing := some a.closingCheck } 31 b := by
  rw [Part.tapWrite, if_neg (by omega), if_neg (by omega), if_pos rfl, annex]

theorem Part.closingWrite_of_whole (carried broken : Part → Part) (v : Word) (h : a.closingCheck = .whole v) :
    p.closingWrite a b carried broken =
      (p.withAssembly (a.closed (inLanesOf b v) (.whole v)) carried,
        .substitute (inLanesOf b v)) := by
  rw [Part.closingWrite, h]
  rfl

theorem Part.closingWrite_of_broken (carried broken : Part → Part) (h : a.closingCheck = .broken) :
    p.closingWrite a b carried broken =
      (p.withAssembly (a.closed b .broken) broken, .pass) := by
  rw [Part.closingWrite, h]
  rfl

theorem Part.recordWrite_tap (offered : Bool) (answer : TapMatch) (early : Bool) (role : a.role = .tap offered answer early) :
    p.recordWrite a k b = p.tapWrite a offered answer early k b := by
  rw [Part.recordWrite, role]

theorem Part.recordWrite_heartbeat (x : Report) (role : a.role = .heartbeat x) :
    p.recordWrite a k b = p.heartbeatWrite a x k b := by
  rw [Part.recordWrite, role]

theorem Part.recordWrite_plain (role : a.role = .pending ∨ a.role = .none) :
    p.recordWrite a k b = p.passedWrite { a with role := .none } k b := by
  rw [Part.recordWrite]
  obtain pending | none := role
  · rw [pending]
  · rw [none]
    obtain ⟨record, role, copy, closing⟩ := a
    obtain rfl : role = .none := none
    rfl

theorem Part.heartbeatWrite_early (x : Report) (h : k < 8) : p.heartbeatWrite a x k b = p.passedWrite a k b := by
  rw [Part.heartbeatWrite, if_pos h]

theorem Part.heartbeatWrite_words (x : Report) (from8 : 8 ≤ k) (to30 : k ≤ 30) :
    p.heartbeatWrite a x k b = p.substitutedWrite a k b (wordAt x.words (k - 8)) := by
  rw [Part.heartbeatWrite, if_neg (by omega), if_pos to30]

theorem Part.heartbeatWrite_closing (x : Report) :
    p.heartbeatWrite a x 31 b = p.closingWrite a b (fun q => q.completeReport x) id := by
  rw [Part.heartbeatWrite, if_neg (by omega), if_neg (by omega)]

end Writes

theorem Assembly.annexDue_none (a : Assembly) (offered : Bool) (answer : TapMatch) (early : Bool)
    (role : a.role = .tap offered answer early)
    (h : a.closing ≠ none ∨ (∀ o q c, answer = .outcome o q c → early = true)) : a.annexDue = none := by
  rw [Assembly.annexDue]
  cases closing : a.closing with
  | some _ => rfl
  | none =>
    have unamendable := h.resolve_left (· closing)
    refine a.role.annex_eq_none fun offered' o q c is => ?_
    rw [role] at is
    obtain ⟨-, rfl, rfl⟩ := AssemblyRole.tap.inj is
    exact absurd (unamendable o q c rfl) (by simp)

theorem AssemblyRole.annex_none_of_tap (offered : Bool) (answer : TapMatch) (early : Bool)
    (h : ∀ o q c, answer = .outcome o q c → early = true) : (AssemblyRole.tap offered answer early).annex = Option.none := by
  refine AssemblyRole.annex_eq_none _ fun offered' o q c is => ?_
  obtain ⟨-, rfl, rfl⟩ := AssemblyRole.tap.inj is
  exact absurd (h o q c rfl) (by simp)

/-! ## What a journal write comes to -/

/-- R106: the write passes to memory, and the assembly is left as given. -/
def State.passesJournal (s : State) (w : BitVec 23) (b : LaneBytes) (journal : Option Assembly) : Prop :=
  ∃ t, exec (.journalWrite w b) s = .next t
    ∧ s.memoryTakes t.toPart w b
    ∧ t = { s with
        path := s.path.carrying ⟨w, .journalWatcher, .write b .pass⟩ none ⟨none, none⟩
        memory := t.memory, journal := journal }

section Carried

variable (s : State) (w : BitVec 23) (b : LaneBytes) (r k : Nat) (atOnce : s.takesAtOnce)
  (region : s.region w = .journal r k) (driven : b.upper.isSome ∨ b.lower.isSome)
include atOnce region driven

theorem State.passesJournal_of_wrote (journal : Option Assembly)
    (wrote : s.toPart.journalWrite r k b = ({ s.toPart with journal := journal }, .pass)) : s.passesJournal w b journal :=
  journalWrite_comesTo s w b r k _ .pass atOnce region driven wrote b (.inl ⟨rfl, rfl⟩) rfl rfl rfl rfl

/-- R111: a write of no record in hand changes no assembly. -/
theorem State.passesJournal_of_ignored (wrote : s.toPart.journalWrite r k b = (s.toPart, .pass)) :
    s.passesJournal w b s.journal := s.passesJournal_of_wrote w b r k atOnce region driven s.journal wrote

/-- R112: a passed write leaves the record as entered, or ends it where word 31 is complete. -/
theorem State.passesJournal_of_passed (a' : Assembly)
    (passed : s.toPart.journalWrite r k b = s.toPart.passedWrite a' k b) :
    (complete (lanesAt (a'.enter k b).copy 31) = false → s.passesJournal w b (some (a'.enter k b)))
      ∧ (complete (lanesAt (a'.enter k b).copy 31) = true → s.passesJournal w b none) :=
  ⟨fun open_ => s.passesJournal_of_wrote w b r k atOnce region driven _
      (passed.trans (s.toPart.passedWrite_of_open a' k b open_)),
    fun whole => s.passesJournal_of_wrote w b r k atOnce region driven _
      (passed.trans (s.toPart.passedWrite_of_whole a' k b whole))⟩

/-- R115, R118: a word of the part's, substituted. -/
theorem journalWord_substituted (a : Assembly) (v : Word) (open_ : complete (lanesAt a.copy 31) = false) (before : k < 31)
    (wrote : s.toPart.journalWrite r k b = s.toPart.substitutedWrite a k b v) :
    ∃ t, exec (.journalWrite w b) s = .next t
      ∧ s.memoryTakes t.toPart w (inLanesOf b v)
      ∧ t = { s with
          path := s.path.carrying ⟨w, .journalWatcher, .write b (.substitute (inLanesOf b v))⟩ none ⟨none, none⟩
          memory := t.memory
          journal := some { a with copy := a.copy.set k (overlaid (lanesAt a.copy k) (inLanesOf b v)) } } := by
  have stays : complete (lanesAt (a.enter k (inLanesOf b v)).copy 31) = false := by
    rw [lanesAt_enter_last a k _ before, open_]
  rw [s.toPart.substitutedWrite_of_open a k b v stays] at wrote
  exact journalWrite_comesTo s w b r k _ _ atOnce region driven wrote _ (.inr rfl) rfl rfl rfl rfl

end Carried

/-- Settles O26: the words the part carries, the annex, and the words of the firmware that pass. -/
theorem journalWordsCarried : Obligations.JournalWordsCarried := by
  refine ⟨?_, fun _ _ _ => rfl, ?_⟩
  · intro s w b r k a words first atOnce region driven journal record open_ to30 carried given
    subst record
    have notFirst : k ≠ 0 := by
      obtain ⟨_, _, _, _, _, _, _, from24⟩ | ⟨_, _, _, _, from8⟩ := carried <;> omega
    have inRecord := s.toPart.journalWrite_inRecord a k b notFirst journal
    refine journalWord_substituted s w b a.record k atOnce region driven a _ open_ (by omega) (inRecord.trans ?_)
    obtain ⟨o, q, c, role, unclosed, rfl, rfl, from24⟩ | ⟨x, role, rfl, rfl, from8⟩ := carried
    · have due : a.annexDue = some (annexWords o q c) := by
        rw [Assembly.annexDue, unclosed, role]
        rfl
      rw [s.toPart.recordWrite_tap a k b _ _ _ role, s.toPart.tapWrite_of_annex a k b _ _ _ _ from24 to30 due]
    · rw [s.toPart.recordWrite_heartbeat a k b x role, s.toPart.heartbeatWrite_words a k b x from8 to30]
  intro s w b r k atOnce region notFirst inside driven comesTo
  refine ⟨fun journal => ?_, fun a journal => ⟨fun other => ?_, fun record length open_ => ?_⟩⟩
  · have ignored := s.passesJournal_of_ignored w b r k atOnce region driven
      (by rw [Part.journalWrite, if_neg notFirst, journal])
    rwa [journal] at ignored
  · have ignored := s.passesJournal_of_ignored w b r k atOnce region driven
      (by rw [Part.journalWrite, if_neg notFirst, journal]; exact if_neg other)
    rwa [journal] at ignored
  subst record
  have inRecord := s.toPart.journalWrite_inRecord a k b notFirst journal
  have passes (a' : Assembly) (wrote : s.toPart.recordWrite a k b = s.toPart.passedWrite a' k b) :=
    s.passesJournal_of_passed w b a.record k atOnce region driven a' (inRecord.trans wrote)
  intro entered
  refine ⟨fun before => ?_, fun last role => ?_, fun last offered answer early role unamendable => ?_⟩
  · have stays (a' : Assembly) (same : a'.copy = a.copy) : complete (lanesAt (a'.enter k b).copy 31) = false := by
      rw [lanesAt_enter_last a' k b before, same, open_]
    refine ⟨fun plain => ?_, fun x role early => ?_, fun offered answer early role before24 noOffer => ?_,
      fun offered answer early role from24 unamendable => ?_⟩
    · exact (passes _ (s.toPart.recordWrite_plain a k b plain)).1 (stays _ rfl)
    · exact (passes a ((s.toPart.recordWrite_heartbeat a k b x role).trans
        (s.toPart.heartbeatWrite_early a k b x early))).1 (stays _ rfl)
    · exact (passes a ((s.toPart.recordWrite_tap a k b _ _ _ role).trans
        (s.toPart.tapWrite_of_early a k b offered answer early before24 noOffer))).1 (stays _ rfl)
    · exact (passes _ ((s.toPart.recordWrite_tap a k b _ _ _ role).trans
        (s.toPart.tapWrite_of_noAnnex a k b offered answer early from24 (by omega)
          (a.annexDue_none offered answer early role unamendable)))).1 (stays _ rfl)
  · subst last
    have closes := passes _ (s.toPart.recordWrite_plain a 31 b role)
    rw [lanesAt_enter_closing { a with role := .none } b length] at closes
    exact ⟨closes.2, closes.1⟩
  · subst last
    have closes := passes _ ((s.toPart.recordWrite_tap a 31 b _ _ _ role).trans
      (s.toPart.tapWrite_closing_of_noAnnex a b offered answer early
        (by rw [role]; exact AssemblyRole.annex_none_of_tap offered answer early unamendable)))
    rw [lanesAt_enter_closing { a with closing := some a.closingCheck } b length] at closes
    exact ⟨closes.2, closes.1⟩

end Sys2Proof.Machine

/-! PROOFS. The closing check of a tap record and of a heartbeat (R116, R119, R120, R130, R135). -/

namespace Sys2Proof.Machine

section Closing

variable (s : State) (w : BitVec 23) (b : LaneBytes) (a : Assembly) (carried broken : Part → Part)
  (atOnce : s.takesAtOnce) (region : s.region w = .journal a.record 31) (driven : b.upper.isSome ∨ b.lower.isSome)
  (journal : s.journal = some a) (length : a.copy.length = 32)
  (wrote : s.toPart.recordWrite a 31 b = s.toPart.closingWrite a b carried broken)
  (keepsCarried : (carried s.toPart).arbiter = s.arbiter ∧ (carried s.toPart).path = s.path
    ∧ (carried s.toPart).memory = s.memory ∧ (carried s.toPart).memoryEpoch = s.memoryEpoch)
  (keepsBroken : (broken s.toPart).arbiter = s.arbiter ∧ (broken s.toPart).path = s.path
    ∧ (broken s.toPart).memory = s.memory ∧ (broken s.toPart).memoryEpoch = s.memoryEpoch)
include atOnce region driven journal length wrote

include keepsCarried in
/-- R116, R119: a WHOLE closing check is substituted; with word 31 complete the record is carried. -/
theorem closing_whole (v : Word) (whole : a.closingCheck = .whole v) :
    ∃ t, exec (.journalWrite w b) s = .next t
      ∧ s.memoryTakes t.toPart w (inLanesOf b v)
      ∧ (complete (overlaid (lanesAt a.copy 31) b) = true → t = { s with toPart := { carried s.toPart with
          path := s.path.carrying ⟨w, .journalWatcher, .write b (.substitute (inLanesOf b v))⟩ none ⟨none, none⟩
          memory := t.memory, journal := none } })
      ∧ (¬ complete (overlaid (lanesAt a.copy 31) b) = true → t = { s with
          path := s.path.carrying ⟨w, .journalWatcher, .write b (.substitute (inLanesOf b v))⟩ none ⟨none, none⟩
          memory := t.memory
          journal := some { a with
            copy := a.copy.set 31 (overlaid (lanesAt a.copy 31) (inLanesOf b v)), closing := some (.whole v) } }) := by
  have entered : s.toPart.journalWrite a.record 31 b =
      (s.toPart.withAssembly (a.closed (inLanesOf b v) (.whole v)) carried,
        .substitute (inLanesOf b v)) :=
    (s.toPart.journalWrite_inRecord a 31 b (by omega) journal).trans (wrote.trans
      (s.toPart.closingWrite_of_whole a b carried broken v whole))
  have closes : complete (lanesAt (a.closed (inLanesOf b v) (.whole v)).copy 31) = complete (overlaid (lanesAt a.copy 31) b) := by
    rw [lanesAt_closed a _ _ length, overlaid_inLanesOf_complete]
  by_cases both : complete (overlaid (lanesAt a.copy 31) b) = true
  · rw [Part.withAssembly_of_whole _ _ _ (closes.trans both)] at entered
    obtain ⟨arbiter, path, memory, epoch⟩ := keepsCarried
    obtain ⟨t, next, takes, is⟩ := journalWrite_comesTo s w b a.record 31 _ _ atOnce region driven entered _ (.inr rfl) arbiter
      path memory epoch
    exact ⟨t, next, takes, fun _ => is, fun not => absurd both not⟩
  · rw [Part.withAssembly_of_open _ _ _ (closes.trans (by simpa using both))] at entered
    obtain ⟨t, next, takes, is⟩ := journalWrite_comesTo s w b a.record 31 _ _ atOnce region driven entered _ (.inr rfl) rfl rfl
      rfl rfl
    exact ⟨t, next, takes, fun is => absurd is both, fun _ => is⟩

include keepsBroken in
/-- R116, R120: under a BROKEN closing check the write passes; with word 31 complete the record ends. -/
theorem closing_broken (isBroken : a.closingCheck = .broken) :
    ∃ t, exec (.journalWrite w b) s = .next t
      ∧ s.memoryTakes t.toPart w b
      ∧ (complete (overlaid (lanesAt a.copy 31) b) = true → t = { s with toPart := { broken s.toPart with
          path := s.path.carrying ⟨w, .journalWatcher, .write b .pass⟩ none ⟨none, none⟩
          memory := t.memory, journal := none } })
      ∧ (¬ complete (overlaid (lanesAt a.copy 31) b) = true → t = { s with
          path := s.path.carrying ⟨w, .journalWatcher, .write b .pass⟩ none ⟨none, none⟩
          memory := t.memory
          journal := some { a with
            copy := a.copy.set 31 (overlaid (lanesAt a.copy 31) b), closing := some .broken } }) := by
  have entered : s.toPart.journalWrite a.record 31 b =
      (s.toPart.withAssembly (a.closed b .broken) broken, .pass) :=
    (s.toPart.journalWrite_inRecord a 31 b (by omega) journal).trans (wrote.trans
      (s.toPart.closingWrite_of_broken a b carried broken isBroken))
  have closes : complete (lanesAt (a.closed b .broken).copy 31) = complete (overlaid (lanesAt a.copy 31) b) := by
    rw [lanesAt_closed a _ _ length]
  by_cases both : complete (overlaid (lanesAt a.copy 31) b) = true
  · rw [Part.withAssembly_of_whole _ _ _ (closes.trans both)] at entered
    obtain ⟨arbiter, path, memory, epoch⟩ := keepsBroken
    obtain ⟨t, next, takes, is⟩ := journalWrite_comesTo s w b a.record 31 _ _ atOnce region driven entered b (.inl ⟨rfl, rfl⟩)
      arbiter path memory epoch
    exact ⟨t, next, takes, fun _ => is, fun not => absurd both not⟩
  · rw [Part.withAssembly_of_open _ _ _ (closes.trans (by simpa using both))] at entered
    obtain ⟨t, next, takes, is⟩ := journalWrite_comesTo s w b a.record 31 _ _ atOnce region driven entered b (.inl ⟨rfl, rfl⟩)
      rfl rfl rfl rfl
    exact ⟨t, next, takes, fun is => absurd is both, fun _ => is⟩

end Closing

/-- Settles O27: the attached outcome leaves the queue with a WHOLE record, and is UNREPORTED with a BROKEN one. -/
theorem tapRecordEnds : Obligations.TapRecordEnds := by
  intro s w b r a o q c atOnce region driven journal record length role both
  subst record
  have annex : a.role.annex = some (annexWords o q c) := by rw [role]; rfl
  have wrote := (s.toPart.recordWrite_tap a 31 b _ _ _ role).trans
    (s.toPart.tapWrite_closing_of_annex a b _ _ _ _ annex)
  refine ⟨fun v whole => ?_, fun broken => ?_⟩
  · exact closing_whole s w b a _ _ atOnce region driven journal length wrote ⟨rfl, rfl, rfl, rfl⟩ v
      (a.closingCheck_whole v whole)
  · exact closing_broken s w b a _ _ atOnce region driven journal length wrote ⟨rfl, rfl, rfl, rfl⟩
      (a.closingCheck_broken broken)

theorem Part.completeReport_outcome (p : Part) (x : Report) (o : Outcome) (page : x.page = .outcome o) :
    p.completeReport x = { p with
      previousPage := .outcome
      queue := { p.queue with checkFault := 0, ordinal := p.queue.ordinal + 1, outcomes := p.queue.outcomes.erase o }
      tableLost := p.tableLost && !x.tableLost
      setupIgnored := p.setupIgnored && !x.setupIgnored } := by
  rw [Part.completeReport, page]
  rfl

theorem Part.completeReport_counters (p : Part) (x : Report) (c : Counters) (page : x.page = .counters c) :
    p.completeReport x = { p with
      previousPage := .counters
      queue := { p.queue with ordinal := p.queue.ordinal + 1 }
      counters := p.counters.reducedBy c
      tableLost := p.tableLost && !x.tableLost
      setupIgnored := p.setupIgnored && !x.setupIgnored } := by
  rw [Part.completeReport, page]
  rfl

/-- Settles O28: a WHOLE heartbeat takes its page off the queue or the counters; a BROKEN one changes nothing else. -/
theorem heartbeatEnds : Obligations.HeartbeatEnds := by
  intro s w b r a x atOnce region driven journal record length role both
  subst record
  have wrote := (s.toPart.recordWrite_heartbeat a 31 b x role).trans (s.toPart.heartbeatWrite_closing a b x)
  refine ⟨fun v whole => ?_, fun broken => ?_⟩
  · intro given written carried
    obtain ⟨t, next, takes, carries, stays⟩ := closing_whole s w b a _ _ atOnce region driven journal length wrote
      (by simp) v (a.closingCheck_whole v whole)
    refine ⟨t, next, takes, stays, fun o ended page => ?_, fun c ended page => ?_⟩
    · have is := carries ended
      rwa [s.toPart.completeReport_outcome x o page] at is
    · have is := carries ended
      rwa [s.toPart.completeReport_counters x c page] at is
  · obtain ⟨t, next, takes, ends, stays⟩ := closing_broken s w b a _ _ atOnce region driven journal length wrote
      ⟨rfl, rfl, rfl, rfl⟩ (a.closingCheck_broken broken)
    refine ⟨t, next, takes, ?_⟩
    by_cases ended : both
    · rw [if_pos ended]
      exact ends ended
    · rw [if_neg ended]
      exact stays ended

end Sys2Proof.Machine

/-! PROOFS. The table arbiter's order, what a lookup answers, and the tests of a decision (R17, R19, R84 to R89). -/

namespace Sys2Proof.Machine

/-! ## The grant -/

theorem Part.grantNext_mark (p : Part) (m : MarkClaim) (ms : List MarkClaim) (marks : p.arbiter.marks = m :: ms)
    (first : 4 ≤ p.arbiter.marks.length ∨ p.arbiter.lookups = []) :
    p.grantNext = { p with arbiter := { p.arbiter with marks := ms, op := some (.mark m p.serviceDay) } } := by
  rw [marks] at first
  rw [Part.grantNext]
  obtain _ | ⟨m1, _ | ⟨m2, _ | ⟨m3, rest⟩⟩⟩ := ms
  case cons.cons.cons =>
    simp only [marks]
    rfl
  all_goals
    have lookups : p.arbiter.lookups = [] := first.resolve_left (by simp)
    simp only [marks, lookups]
    rfl

theorem Part.grantNext_lookup (p : Part) (n : Fin 4) (serial : BitVec 64) (ls : List (Fin 4 × BitVec 64))
    (lookups : p.arbiter.lookups = (n, serial) :: ls) (few : p.arbiter.marks.length < 4) :
    p.grantNext = { p with arbiter := { p.arbiter with lookups := ls, op := some (.lookup n serial true) } } := by
  rw [Part.grantNext]
  rcases marks : p.arbiter.marks with _ | ⟨m, _ | ⟨m1, _ | ⟨m2, _ | ⟨m3, rest⟩⟩⟩⟩
  case cons.cons.cons.cons =>
    rw [marks] at few
    simp only [List.length_cons] at few
    omega
  all_goals
    simp only [lookups]
    rw [Part.begin]
    simp only [marks]

theorem Part.grantNext_intake (p : Part) (marks : p.arbiter.marks = []) (lookups : p.arbiter.lookups = [])
    (c : IntakeClaim) (intake : p.arbiter.intake = some c) :
    p.grantNext = { p with arbiter := { p.arbiter with intake := none, op := some (.intake c) } } := by
  rw [Part.grantNext]
  simp only [marks, lookups, intake]
  rw [Part.begin]

theorem Part.grantNext_sweep (p : Part) (marks : p.arbiter.marks = []) (lookups : p.arbiter.lookups = [])
    (intake : p.arbiter.intake = none) (sweep : p.arbiter.sweep = true) :
    p.grantNext = { p with arbiter := { p.arbiter with sweep := false, op := some .sweep } } := by
  rw [Part.grantNext]
  simp only [marks, lookups, intake, sweep]
  rw [Part.begin]

theorem Part.grantNext_none (p : Part) (marks : p.arbiter.marks = []) (lookups : p.arbiter.lookups = [])
    (intake : p.arbiter.intake = none) (sweep : p.arbiter.sweep = false) : p.grantNext = p := by
  rw [Part.grantNext]
  simp only [marks, lookups, intake, sweep]

/-- Settles O30: the claim of the first class that has one waiting is granted. -/
theorem grantOrder : Obligations.GrantOrder := by
  intro p
  refine ⟨p.grant_of_running, fun held => p.claimsGranted_iff.mpr (.inr (.inl held)), fun free none => ?_⟩
  have granted : p.grant = p.grantNext := if_pos ⟨free, none⟩
  rw [granted]
  refine ⟨fun m ms marks first => p.grantNext_mark m ms marks first, fun n serial ls lookups few =>
    p.grantNext_lookup n serial ls lookups few, fun marks lookups => ⟨fun c intake => p.grantNext_intake marks lookups c intake,
    fun intake sweep => p.grantNext_sweep marks lookups intake sweep, fun intake sweep =>
    p.grantNext_none marks lookups intake sweep⟩⟩

/-! ## The answer of a lookup -/

/-- R17: an entry answers a lookup where it is visible and carries the serial. -/
theorem Store.answers_eq_none_iff (st : Store) (serial : BitVec 64) (n : Nat) :
    (match st.entry n with
      | none => none
      | some e => if e.visible && e.serial == serial then some (n, e) else none) = none
    ↔ ∀ x, st.entry n = some x → ¬ (x.visible = true ∧ x.serial = serial) := by
  cases st.entry n with
  | none => simp
  | some e => simp

/-- Settles O31: the first entry of the bucket that is visible and carries the serial. -/
theorem lookupAnswersVisible : Obligations.LookupAnswersVisible := by
  intro st serial
  refine ⟨fun n e found => ?_, fun none m mem x entry => ?_⟩
  · obtain ⟨before, m, after, chain, answer, silent⟩ := List.findSome?_eq_some_iff.mp found
    cases entry : st.entry m with
    | none => simp [entry] at answer
    | some x =>
      simp only [entry, Option.ite_none_right_eq_some, Bool.and_eq_true, beq_iff_eq, Option.some.injEq,
        Prod.mk.injEq] at answer
      obtain ⟨⟨visible, carries⟩, rfl, rfl⟩ := answer
      exact ⟨entry, visible, carries, before, after, chain, fun j mem =>
        (st.answers_eq_none_iff serial j).mp (silent j mem)⟩
  · exact (st.answers_eq_none_iff serial m).mp (List.findSome?_eq_none_iff.mp none m mem) x entry

/-! ## The tests of a decision -/

theorem expiryPassed_iff (expiry : Word) (day : Nat) :
    expiryPassed expiry day = true ↔ expiry ≠ 0xFFFF ∧ expiry.toNat < day := by
  simp [expiryPassed]

theorem cardCarries_iff (image : List Word) (number : BitVec 32) :
    cardCarries image number = true ↔ number.toNat ≤ (imageApplied image).toNat := by
  simp [cardCarries]

theorem notYetDue_iff (notBefore : Word) (day : Nat) : notYetDue notBefore day = true ↔ day < notBefore.toNat := by
  simp [notYetDue]

theorem decideFor_restore (i : DecisionInputs) (e : Entry) (r : RestorePart) (part : e.part = .restore r)
    (live : e.state = .live) : decideFor i (some e) = decideRestore i e r := by
  simp only [decideFor, part, live]

theorem decideFor_block (i : DecisionInputs) (e : Entry) (flag : Bool) (part : e.part = .block flag) :
    decideFor i (some e) = decideBlock i e := by
  simp only [decideFor, part]

theorem decideFor_applied (i : DecisionInputs) (e : Entry) (r : RestorePart) (day : Nat) (part : e.part = .restore r)
    (applied : e.state = .applied day) : decideFor i (some e) = .skipApplied := by
  rw [decideFor, part, applied]

theorem decideRestore_set (i : DecisionInputs) (e : Entry) (r : RestorePart) (d : Nat) (day : i.day = some d) :
    decideRestore i e r =
      if expiryPassed e.expiry d then .expired
      else if notYetDue r.notBefore d then .defer .notYet
      else if cardCarries i.snapshot r.precondition then .skipLive (decide (1 ≤ i.free))
      else if i.free < 5 then .defer .backlog
      else match restoreFit i d r with
        | none => .defer .noRoom
        | some w => .restore (restoredImage i.snapshot r.amount e.action w.slots) w.placed w.dropped := by
  rw [decideRestore, day]
  rfl

theorem decideBlock_eq (i : DecisionInputs) (e : Entry) : decideBlock i e =
    if (∃ d, i.day = some d ∧ e.expiry ≠ 0xFFFF ∧ e.expiry.toNat < d) then .expired
    else if e.action.toNat ≤ (imageApplied i.snapshot).toNat then .skipBlock
    else if 1 ≤ i.free then .block (blockedImage i.snapshot e.action) (clearedCount i.snapshot)
    else .blockOnly (blockOnlyImage i.snapshot) := by
  have expired : i.day.any (fun day => expiryPassed e.expiry day) = true ↔
      ∃ d, i.day = some d ∧ e.expiry ≠ 0xFFFF ∧ e.expiry.toNat < d := by
    cases day : i.day with
    | none => simp
    | some d => simpa using expiryPassed_iff e.expiry d
  rw [decideBlock]
  simp only [expired, cardCarries_iff]

/-- Settles O36: each test decides where the tests before it have not. -/
theorem decisionTestsInOrder : Obligations.DecisionTestsInOrder := by
  intro i e
  refine ⟨fun r part live => ?_, fun flag part live => ?_, fun r day part applied => decideFor_applied i e r day part applied,
    rfl⟩
  · rw [decideFor_restore i e r part live]
    refine ⟨fun unset => by rw [decideRestore, unset], fun d day => ?_⟩
    rw [decideRestore_set i e r d day]
    simp only [expiryPassed_iff, notYetDue_iff, cardCarries_iff]
    refine ⟨fun expired => if_pos expired, fun current => ?_⟩
    rw [if_neg current]
    refine ⟨fun early => if_pos early, fun due => ?_⟩
    rw [if_neg (by omega)]
    refine ⟨fun carried => if_pos carried, fun notCarried => ?_⟩
    rw [if_neg (by omega)]
    refine ⟨fun backlog => if_pos backlog, fun room noFit => ?_, fun w room fit => ?_⟩
    · rw [if_neg (by omega), noFit]
    · rw [if_neg (by omega), fit]
      exact ⟨_, rfl⟩
  · rw [decideFor_block i e flag part, decideBlock_eq]
    refine ⟨fun expired => if_pos expired, fun current => ?_⟩
    rw [if_neg current]
    refine ⟨fun carried => if_pos carried, fun notCarried => ?_⟩
    rw [if_neg (by omega)]
    refine ⟨fun room => ⟨_, _, if_pos room⟩, fun full => ⟨_, if_neg (by omega)⟩⟩

/-! ## The fit of a restore -/

theorem placeWhere_of_first (c : PassSlot → Bool) (p : PassRecord) (before after : List PassSlot) (x : PassSlot)
    (none : ∀ y ∈ before, c y = false) (first : c x = true) :
    placeWhere c p (before ++ x :: after) = some (before ++ p.toSlot :: after) := by
  induction before with
  | nil => rw [List.nil_append, placeWhere, if_pos first, List.nil_append]
  | cons y ys ih =>
    obtain ⟨head, tail⟩ := List.forall_mem_cons.mp none
    rw [List.cons_append, placeWhere, if_neg (by simp [head]), ih tail]
    rfl

theorem placeWhere_of_none (c : PassSlot → Bool) (p : PassRecord) (slots : List PassSlot)
    (none : ∀ y ∈ slots, c y = false) : placeWhere c p slots = Option.none := by
  induction slots with
  | nil => rfl
  | cons y ys ih =>
    obtain ⟨head, tail⟩ := List.forall_mem_cons.mp none
    rw [placeWhere, if_neg (by simp [head]), ih tail]
    rfl

/-- R88: a REPLACE pass takes the first slot of its own product. -/
theorem placePass_own (p : PassRecord) (before after : List PassSlot) (x : PassSlot) (replace : p.placement = .replace)
    (none : ∀ y ∈ before, y.product ≠ p.product) (own : x.product = p.product) :
    placePass p (before ++ x :: after) = some (before ++ p.toSlot :: after) := by
  rw [placePass, replace]
  simp only [placeWhere_of_first (fun s => s.product == p.product) p before after x
    (fun y mem => by simpa using none y mem) (by simpa using own)]

/-- R88: a FILL pass, and a REPLACE pass with no slot of its product, looks for product code 0. -/
theorem placePass_fill (p : PassRecord) (slots : List PassSlot)
    (fill : p.placement = .fill ∨ ∀ y ∈ slots, y.product ≠ p.product) :
    placePass p slots = placeWhere (fun s => s.product == 0) p slots := by
  rw [placePass]
  cases placement : p.placement with
  | fill => rfl
  | replace =>
    have none := fill.resolve_left (by simp [placement])
    simp only [placeWhere_of_none (fun s => s.product == p.product) p slots (fun y mem => by simpa using none y mem)]

theorem placeAll_dropped (day : Nat) (p : PassRecord) (rest : List PassRecord) (w : Placed) (passed : p.endDay.toNat < day) :
    placeAll day (p :: rest) w = placeAll day rest { w with dropped := w.dropped + 1 } := by
  rw [placeAll, if_pos passed]

theorem placeAll_unplaced (day : Nat) (p : PassRecord) (rest : List PassRecord) (w : Placed) (live : day ≤ p.endDay.toNat)
    (unplaced : placePass p w.slots = none) : placeAll day (p :: rest) w = none := by
  rw [placeAll, if_neg (by omega), unplaced]

theorem placeAll_placed (day : Nat) (p : PassRecord) (rest : List PassRecord) (w : Placed) (live : day ≤ p.endDay.toNat)
    (slots : List PassSlot) (placed : placePass p w.slots = some slots) :
    placeAll day (p :: rest) w = placeAll day rest { w with slots := slots, placed := w.placed + 1 } := by
  rw [placeAll, if_neg (by omega), placed]

theorem purseFits_iff (image : List Word) (amount : BitVec 32) (ceiling : Nat) :
    purseFits image amount ceiling = true ↔ imagePurse image + (amount.toNat : Int) ≤ (ceiling : Int) := by
  simp [purseFits]

/-- Settles O37: the purse test, the passes in their order, and the slot each pass takes. -/
theorem restoreFit_obligation : Obligations.RestoreFit := by
  refine ⟨fun i day r => ⟨fun fits => ?_, fun exceeds => ?_⟩, fun image => ⟨rfl, rfl, rfl, rfl⟩, fun _ _ => rfl,
    fun day p rest w => ⟨placeAll_dropped day p rest w, fun live => ⟨placeAll_unplaced day p rest w live,
      placeAll_placed day p rest w live⟩⟩, fun p slots => ?_⟩
  · exact if_pos ((purseFits_iff _ _ _).mpr fits)
  · exact if_neg fun fits => absurd ((purseFits_iff _ _ _).mp fits) (by omega)
  intro written none0 noneOwn
  refine ⟨?_, fun fill none => ?_⟩
  · rintro before x after rfl
    refine ⟨placePass_own p before after x, fun fill none empty => ?_⟩
    rw [placePass_fill p _ fill]
    exact placeWhere_of_first _ p before after x (fun y mem => by simpa using none y mem) (by simpa using empty)
  · rw [placePass_fill p slots fill]
    exact placeWhere_of_none _ p slots fun y mem => by simpa using none y mem

end Sys2Proof.Machine

/-! PROOFS. Lookups completed (R17, R18, R61 to R64, R98 to R101): the decision carried out, and a held read answered. -/

namespace Sys2Proof.Machine

/-! ## The answer and the decision -/

/-- R17, R18, R61: a lookup's decision carried out, a held read not yet answered. -/
def Part.decided (p : Part) (n : Fin 4) (snapshot : List Word) (written : List Lanes) : Part :=
  match p.store.lookup (imageSerial snapshot) with
  | none => (p.count Counters.presentation).withContext n .empty
  | some (number, e) => p.carryDecision n snapshot written number e (decideFor (p.inputs snapshot) (some e))

theorem Part.decideLookup_eq (p : Part) (n : Fin 4) (snapshot : List Word) (written : List Lanes) :
    p.decideLookup n snapshot written = (p.decided n snapshot written).answerHeldRead n := rfl

theorem lookup_effect (s : State) (n : Fin 4) (serial : BitVec 64) (snapshot : List Word) (written : List Lanes)
    (op : s.arbiter.op = some (.lookup n serial true)) (context : s.context n = .lookup snapshot written) :
    commandEffect .lookup s.toPart = ((s.toPart.tableFree.decided n snapshot written).answerHeldRead n).grant := by
  have effect : commandEffect .lookup s.toPart = s.toPart.completeLookup := rfl
  rw [effect, Part.completeLookup, op]
  simp only [context]
  rw [Part.decideLookup_eq]

theorem lookup_effect_unwanted (s : State) (n : Fin 4) (serial : BitVec 64)
    (op : s.arbiter.op = some (.lookup n serial false)) :
    commandEffect .lookup s.toPart = s.toPart.tableFree.grant := by
  have effect : commandEffect .lookup s.toPart = s.toPart.completeLookup := rfl
  rw [effect, Part.completeLookup, op]

theorem Part.decided_of_none (p : Part) (n : Fin 4) (snapshot : List Word) (written : List Lanes)
    (none : p.store.lookup (imageSerial snapshot) = none) :
    p.decided n snapshot written = (p.count Counters.presentation).withContext n .empty := by
  rw [Part.decided, none]

theorem Part.decided_of_some (p : Part) (n : Fin 4) (snapshot : List Word) (written : List Lanes) (k : Nat) (e : Entry)
    (found : p.store.lookup (imageSerial snapshot) = some (k, e)) : p.decided n snapshot written =
      p.carryDecision n snapshot written k e (decideFor (p.inputs snapshot) (some e)) := by
  rw [Part.decided, found]

/-! ## Attention, observed outcomes -/

/-- R138: the attention monitor once an entry has been found, flagged or not. -/
def Part.monitorTold (p : Part) (flagged : Bool) : Monitor :=
  match flagged, p.setup.policy.attentionMode with
  | true, .single => { p.monitor with asserted := true, timer := some p.setup.policy.attentionHold }
  | true, .repeated => { p.monitor with mark0 := true }
  | _, _ => p.monitor

theorem Part.attentionIf_eq (p : Part) (flagged : Bool) : p.attentionIf flagged = { p with monitor := p.monitorTold flagged } := by
  rw [Part.attentionIf, Part.monitorTold.eq_def]
  cases flagged with
  | false => rfl
  | true =>
    rw [if_pos rfl, Part.attentionEvent]
    cases p.setup.policy.attentionMode <;> rfl

theorem Part.applyFound_set (p : Part) (k day : Nat) (h : p.serviceDay = some day) :
    p.applyFound k = { p with store := p.store.update k fun e => e.become (.applied day) } := by
  rw [Part.applyFound, h]

theorem Part.insertObserved_true (p : Part) (serial : BitVec 64) (e : Entry) : p.insertObserved serial e true = { p with
    counters := { p.counters with observed := raised p.counters.observed }
    queue := { p.queue with
      checkFault := 0, nextSequence := p.queue.nextSequence + 1
      outcomes := p.queue.outcomes ++
        [⟨.observed, serial, e.action, e.amount, e.passes.length, 0, .unreported p.queue.nextSequence⟩] } } := rfl

theorem Part.insertObserved_false (p : Part) (serial : BitVec 64) (e : Entry) : p.insertObserved serial e false = { p with
    counters := { p.counters with
      observed := raised p.counters.observed, observedDropped := raised p.counters.observedDropped } } := rfl

/-! ## A held read -/

theorem Part.answerHeldRead_of_none (p : Part) (n : Fin 4)
    (h : ∀ c, p.path.cycle = some c → ∀ l, c.kind ≠ .read l .hold) : p.answerHeldRead n = p := by
  rw [Part.answerHeldRead]
  split
  next w m l cycle => exact absurd rfl (h _ cycle l)
  next => rfl

theorem Part.answerHeldRead_of_held (p : Part) (n m : Fin 4) (w : BitVec 23) (l : Lanes)
    (held : p.path.cycle = some ⟨w, .context m, .read l .hold⟩) : p.answerHeldRead n =
      if m = n then p.carryRead w l (.context m) ((p.context n).readAnswer (w.toNat % 32)) else p := by
  rw [Part.answerHeldRead, held]

theorem Part.decided_path (p : Part) (n : Fin 4) (snapshot : List Word) (written : List Lanes) :
    (p.decided n snapshot written).path = p.path := by
  rw [Part.decided]
  split <;> simp

/-- R61: with no read held, a lookup comes to its decision. -/
theorem lookup_decided (s : State) (n : Fin 4) (serial : BitVec 64) (snapshot : List Word) (written : List Lanes)
    (op : s.arbiter.op = some (.lookup n serial true)) (context : s.context n = .lookup snapshot written)
    (noRead : ∀ c, s.path.cycle = some c → ∀ l, c.kind ≠ .read l .hold) :
    exec .lookup s = .next { s with toPart := (s.toPart.tableFree.decided n snapshot written).grant } := by
  have effect := lookup_effect s n serial snapshot written op context
  rw [Part.answerHeldRead_of_none _ n (by rw [Part.decided_path]; exact noRead)] at effect
  exact exec_of_effect _ s _ effect

theorem lookup_carried (s : State) (n : Fin 4) (serial : BitVec 64) (snapshot : List Word) (written : List Lanes)
    (op : s.arbiter.op = some (.lookup n serial true)) (context : s.context n = .lookup snapshot written)
    (noRead : ∀ c, s.path.cycle = some c → ∀ l, c.kind ≠ .read l .hold) (k : Nat) (e : Entry)
    (found : s.store.lookup (imageSerial snapshot) = some (k, e)) (d : Decision)
    (decides : decideFor (s.toPart.inputs snapshot) (some e) = d) :
    exec .lookup s = .next { s with toPart := (s.toPart.tableFree.carryDecision n snapshot written k e d).grant } := by
  rw [lookup_decided s n serial snapshot written op context noRead,
    s.toPart.tableFree.decided_of_some n snapshot written k e found]
  have same : s.toPart.tableFree.inputs snapshot = s.toPart.inputs snapshot := rfl
  rw [same, decides]

/-! ## A restore -/

theorem mem_overlayOf (snapshot image : List Word) (written : List Lanes) (o : OverlayWord) :
    o ∈ overlayOf snapshot image written ↔ o.word < 32 ∧ wordAt image o.word ≠ wordAt snapshot o.word
      ∧ written.getD o.word ⟨false, false⟩ = ⟨false, false⟩ ∧ o.value = wordAt image o.word ∧ o.pending = true := by
  have unwritten (l : Lanes) : (l.upper || l.lower) = false ↔ l = ⟨false, false⟩ := by
    obtain ⟨_ | _, _ | _⟩ := l <;> simp
  rw [overlayOf, List.mem_filterMap]
  simp only [List.mem_range, Option.ite_none_right_eq_some, Bool.and_eq_true, bne_iff_ne, Bool.not_eq_true',
    unwritten, Option.some.injEq]
  constructor
  · rintro ⟨k, inside, ⟨differs, notWritten⟩, rfl⟩
    exact ⟨inside, differs, notWritten, rfl, rfl⟩
  · rintro ⟨inside, differs, notWritten, value, pending⟩
    obtain ⟨word, value', pending'⟩ := o
    obtain rfl : value' = wordAt image word := value
    obtain rfl : pending' = true := pending
    exact ⟨word, inside, ⟨differs, notWritten⟩, rfl⟩

theorem overlayOf_pairwise (snapshot image : List Word) (written : List Lanes) :
    (overlayOf snapshot image written).Pairwise (fun a b => a.word < b.word) := by
  rw [overlayOf]
  refine List.Pairwise.filterMap _ ?_ List.pairwise_lt_range
  intro a a' less b mem b' mem'
  simp only [Option.ite_none_right_eq_some, Option.some.injEq] at mem mem'
  obtain ⟨-, rfl⟩ := mem
  obtain ⟨-, rfl⟩ := mem'
  exact less

theorem Entry.restore_fields (e : Entry) (r : RestorePart) (part : e.part = .restore r) :
    e.amount = r.amount ∧ e.passes = r.passes := by
  rw [Entry.amount, Entry.passes, part]
  exact ⟨rfl, rfl⟩

theorem Entry.flagged_iff (e : Entry) : e.flagged = true ↔ e.part = .block true := by
  rw [Entry.flagged]
  cases e.part <;> simp

/-- Settles O32: the RESTORE carried out, the inputs of a decision, the overlay, and pins. -/
theorem restoreTaken : Obligations.RestoreTaken := by
  refine ⟨?_, fun _ _ => rfl, fun e => ⟨e.restore_fields, e.flagged_iff⟩, fun snapshot image written =>
    ⟨overlayOf_pairwise snapshot image written, mem_overlayOf snapshot image written⟩, ?_⟩
  · intro s n serial snapshot image written k e placed dropped op context noRead found decides
    exact lookup_carried s n serial snapshot written op context noRead k e found _ decides
  · intro st n e entry
    refine ⟨?_, ?_, fun k other => ⟨?_, ?_⟩, ?_, ?_⟩
    · simp [Store.pin, Store.entry_update, entry]
    · simp [Store.unpin, Store.entry_update, entry]
    · simp [Store.pin, Store.entry_update, other]
    · simp [Store.unpin, Store.entry_update, other]
    · simp [Store.pin, Store.update, entry, Store.withSlot]
    · simp [Store.unpin, Store.update, entry, Store.withSlot]

/-! ## The other decisions -/

/-- Settles O33: the outcome of a BLOCK, none of a BLOCK-ONLY, and the attention event of a flagged entry. -/
theorem blockTaken : Obligations.BlockTaken := by
  intro s n serial snapshot image written k e cleared only op context noRead found decides
  rw [lookup_carried s n serial snapshot written op context noRead k e found _ decides]
  cases only with
  | false =>
    simp only [Bool.false_eq_true, if_false, Part.carryDecision, Part.attentionIf_eq]
    rfl
  | true =>
    simp only [if_true, Part.carryDecision, Part.attentionIf_eq]
    rfl

/-- Settles O34: the context EMPTY, and what each of the other decisions adds. -/
theorem otherDecisionsTaken : Obligations.OtherDecisionsTaken := by
  intro s n serial snapshot written
  refine ⟨fun op => exec_of_effect _ s _ (lookup_effect_unwanted s n serial op), fun op context noRead => ?_⟩
  intro q
  refine ⟨fun none => ?_, fun k e found => ?_⟩
  · rw [lookup_decided s n serial snapshot written op context noRead, s.toPart.tableFree.decided_of_none n snapshot written none]
    rfl
  intro d
  have carried (d' : Decision) (decides : d = d') :=
    lookup_carried s n serial snapshot written op context noRead k e found d' decides
  refine ⟨fun decides => carried _ decides, fun r decides => carried _ decides, fun decides => carried _ decides,
    fun decides => ?_, fun day decides set => ?_, fun day decides set => ?_⟩
  · rw [carried _ decides]
    simp only [Part.carryDecision, Part.attentionIf_eq]
    rfl
  · rw [carried _ decides]
    have set' : (s.toPart.tableFree.count Counters.presentation).serviceDay = some day := set
    simp only [Part.carryDecision, Part.applyFound_set _ k day set', Part.insertObserved_true]
    rfl
  · rw [carried _ decides]
    have set' : (s.toPart.tableFree.count Counters.presentation).serviceDay = some day := set
    simp only [Part.carryDecision, Part.applyFound_set _ k day set', Part.insertObserved_false]
    rfl

/-! ## A held read answered -/

theorem Part.applyFound_withPath (p : Part) (k : Nat) (x : MemoryPath) :
    ({ p with path := x } : Part).applyFound k = { p.applyFound k with path := x } := by
  have same : ({ p with path := x } : Part).serviceDay = p.serviceDay := rfl
  simp only [Part.applyFound, same]
  cases p.serviceDay <;> rfl

theorem Part.insertObserved_withPath (p : Part) (serial : BitVec 64) (e : Entry) (inserted : Bool) (x : MemoryPath) :
    ({ p with path := x } : Part).insertObserved serial e inserted = { p.insertObserved serial e inserted with path := x } := by
  cases inserted <;> rfl

/-- The decision carried out knows nothing of the memory path. -/
theorem Part.decided_withPath (p : Part) (n : Fin 4) (snapshot : List Word) (written : List Lanes) (x : MemoryPath) :
    ({ p with path := x } : Part).decided n snapshot written = { p.decided n snapshot written with path := x } := by
  cases found : p.store.lookup (imageSerial snapshot) with
  | none =>
    rw [p.decided_of_none n snapshot written found, Part.decided_of_none { p with path := x } n snapshot written found]
    rfl
  | some answer =>
    obtain ⟨k, e⟩ := answer
    rw [p.decided_of_some n snapshot written k e found, Part.decided_of_some { p with path := x } n snapshot written k e found]
    have same : ({ p with path := x } : Part).inputs snapshot = p.inputs snapshot := rfl
    rw [same]
    cases decideFor (p.inputs snapshot) (some e) with
    | block image cleared =>
      simp only [Part.carryDecision, Part.attentionIf_eq]
      rfl
    | blockOnly image =>
      simp only [Part.carryDecision, Part.attentionIf_eq]
      rfl
    | skipBlock =>
      simp only [Part.carryDecision, Part.attentionIf_eq]
      rfl
    | skipLive inserted =>
      have counted : ({ p with path := x } : Part).count Counters.presentation
          = { p.count Counters.presentation with path := x } := rfl
      simp only [Part.carryDecision, counted, Part.applyFound_withPath, Part.insertObserved_withPath]
      rfl
    | _ => rfl

theorem Part.grantNext_withPath (p : Part) (x : MemoryPath) :
    ({ p with path := x } : Part).grantNext = { p.grantNext with path := x } := by
  let q : Part := { p with path := x }
  rcases marks : p.arbiter.marks with _ | ⟨m, ms⟩
  · rcases lookups : p.arbiter.lookups with _ | ⟨⟨k, serial⟩, ls⟩
    · cases intake : p.arbiter.intake with
      | some c => rw [p.grantNext_intake marks lookups c intake, q.grantNext_intake marks lookups c intake]
      | none =>
        cases sweep : p.arbiter.sweep with
        | true => rw [p.grantNext_sweep marks lookups intake sweep, q.grantNext_sweep marks lookups intake sweep]
        | false => rw [p.grantNext_none marks lookups intake sweep, q.grantNext_none marks lookups intake sweep]
    · have few : p.arbiter.marks.length < 4 := by simp [marks]
      rw [p.grantNext_lookup k serial ls lookups few, q.grantNext_lookup k serial ls lookups few]
  · by_cases first : 4 ≤ p.arbiter.marks.length ∨ p.arbiter.lookups = []
    · rw [p.grantNext_mark m ms marks first, q.grantNext_mark m ms marks first]
      rfl
    · obtain ⟨few, waiting⟩ := not_or.mp first
      obtain ⟨⟨k, serial⟩, ls, lookups⟩ := List.exists_cons_of_ne_nil waiting
      have few : p.arbiter.marks.length < 4 := Nat.lt_of_not_le few
      rw [p.grantNext_lookup k serial ls lookups few, q.grantNext_lookup k serial ls lookups few]

theorem Part.grant_withPath (p : Part) (x : MemoryPath) :
    ({ p with path := x } : Part).grant = { p.grant with path := x } := by
  have next := p.grantNext_withPath x
  by_cases free : p.arbiter.op = none ∧ p.arbiter.releases = []
  · rw [Part.grant, Part.grant, if_pos free, if_pos free, next]
  · rw [Part.grant, Part.grant, if_neg free, if_neg free]

theorem Part.takeAmending_context (p : Part) (n : Fin 4) (snapshot : List Word) (written : List Lanes) (d : Amending)
    (entry : Nat) (action : BitVec 32) (image : List Word) :
    ∃ pr, ((p.takeAmending n snapshot written d entry action image).context n).holds pr := by
  rw [Part.takeAmending, Part.context_withContext, if_pos rfl]
  split
  · exact ⟨_, .inr rfl⟩
  · exact ⟨_, .inl rfl⟩

/-- R61: after its decision a context is EMPTY or holds a presentation. -/
theorem Part.decided_context (p : Part) (n : Fin 4) (snapshot : List Word) (written : List Lanes) :
    (p.decided n snapshot written).context n = .empty ∨ ∃ pr, ((p.decided n snapshot written).context n).holds pr := by
  have emptied (q : Part) : (q.withContext n .empty).context n = .empty := by
    rw [Part.context_withContext, if_pos rfl]
  cases found : p.store.lookup (imageSerial snapshot) with
  | none =>
    rw [p.decided_of_none n snapshot written found]
    exact .inl (emptied _)
  | some answer =>
    obtain ⟨k, e⟩ := answer
    rw [p.decided_of_some n snapshot written k e found]
    cases decideFor (p.inputs snapshot) (some e) with
    | restore image placed dropped => exact .inr (Part.takeAmending_context _ n snapshot written _ _ _ _)
    | block image cleared =>
      rw [Part.carryDecision, Part.attentionIf_eq]
      exact .inr (Part.takeAmending_context _ n snapshot written _ _ _ _)
    | blockOnly image =>
      rw [Part.carryDecision, Part.attentionIf_eq]
      exact .inr (Part.takeAmending_context _ n snapshot written _ _ _ _)
    | _ => exact .inl (emptied _)

theorem Part.decided_notLookup (p : Part) (n : Fin 4) (snapshot : List Word) (written : List Lanes) (snapshot' : List Word)
    (written' : List Lanes) : (p.decided n snapshot written).context n ≠ .lookup snapshot' written' := by
  obtain empty | ⟨pr, amended | settled⟩ := p.decided_context n snapshot written
  · simp [empty]
  · simp [amended]
  · simp [settled]

theorem Part.decided_memory (p : Part) (n : Fin 4) (snapshot : List Word) (written : List Lanes) :
    (p.decided n snapshot written).memory = p.memory ∧ (p.decided n snapshot written).memoryEpoch = p.memoryEpoch := by
  rw [Part.decided]
  split <;> simp

/-- R61, R62: where a lookup completes, the path a held read is left on. -/
theorem lookup_answers (s : State) (n : Fin 4) (serial : BitVec 64) (snapshot : List Word) (written : List Lanes)
    (op : s.arbiter.op = some (.lookup n serial true)) (context : s.context n = .lookup snapshot written) (x : MemoryPath)
    (answered : (s.toPart.tableFree.decided n snapshot written).answerHeldRead n =
      { s.toPart.tableFree.decided n snapshot written with path := x }) :
    exec .lookup s = .next { s with toPart := { (s.toPart.tableFree.decided n snapshot written).grant with path := x } } := by
  have effect := lookup_effect s n serial snapshot written op context
  rw [answered, Part.grant_withPath] at effect
  exact exec_of_effect _ s _ effect

theorem Part.carryRead_eq_withPath (p : Part) (w : BitVec 23) (l : Lanes) (o : Owner) (a : ReadAnswer) :
    p.carryRead w l o a = { p with path := (p.carryRead w l o a).path } := by
  cases a <;> rfl

/-- R162: memory's data for a read that passes. -/
theorem Part.carryRead_pass_path (p : Part) (w : BitVec 23) (l : Lanes) (o : Owner) :
    (p.carryRead w l o .pass).path = p.path.carrying ⟨w, o, .read l .pass⟩ none
      ⟨if l.upper then some (p.memoryByte (2 * w.toNat)) else none,
        if l.lower then some (p.memoryByte (2 * w.toNat + 1)) else none⟩ := rfl

theorem Part.memoryByte_congr (p q : Part) (memory : p.memory = q.memory) (epoch : p.memoryEpoch = q.memoryEpoch) (a : Nat) :
    p.memoryByte a = q.memoryByte a := by
  rw [Part.memoryByte, Part.memoryByte, memory, epoch]

/-- Settles O35: a read held for its own context is answered as that context now stands. -/
theorem heldReadAnswered : Obligations.HeldReadAnswered := by
  intro s n m serial snapshot written w l op context held
  have path : (s.toPart.tableFree.decided n snapshot written).path = s.path := Part.decided_path _ n snapshot written
  obtain ⟨memory, epoch⟩ := Part.decided_memory s.toPart.tableFree n snapshot written
  have notLookup := Part.decided_notLookup s.toPart.tableFree n snapshot written
  have answer := (s.toPart.tableFree.decided n snapshot written).answerHeldRead_of_held n m w l (by rw [path]; exact held)
  have without := lookup_decided { s with path := { s.path with cycle := none, hold := none } } n serial snapshot written op
    context (fun c cycle => by simp at cycle)
  have same : ({ s.toPart with path := { s.path with cycle := none, hold := none } } : Part).tableFree.decided n snapshot written
      = { s.toPart.tableFree.decided n snapshot written with path := { s.path with cycle := none, hold := none } } :=
    s.toPart.tableFree.decided_withPath n snapshot written _
  rw [same, Part.grant_withPath] at without
  have answers (x : MemoryPath) := lookup_answers s n serial snapshot written op context x
  generalize s.toPart.tableFree.decided n snapshot written = decided at *
  have granted : decided.grant.memory = s.memory := decided.grant_memory.trans memory
  by_cases own : m = n
  · subst own
    rw [if_pos rfl, Part.carryRead_eq_withPath] at answer
    have contexts : fourAt decided.grant.contexts m = decided.context m := by
      rw [Part.context]
      simp
    refine ⟨_, _, answers _ answer, without, rfl, granted, fun other => absurd rfl other,
      fun _ pr o amended word pending => ?_, fun _ notPending => ?_⟩
    · have serves := (decided.context m).readAnswer_of_pending (w.toNat % 32) pr o (contexts.symm.trans amended) word pending
      dsimp only
      rw [serves, ← path]
      rfl
    · have passes := (decided.context m).readAnswer_of_other (w.toNat % 32) notLookup
        fun pr o amended => notPending pr o (contexts.trans amended)
      dsimp only
      rw [passes, Part.carryRead_pass_path, decided.memoryByte_congr s.toPart memory epoch,
        decided.memoryByte_congr s.toPart memory epoch, path]
  · rw [if_neg own] at answer
    have kept : decided.answerHeldRead n = { decided with path := s.path } := by rw [answer, ← path]
    exact ⟨_, _, answers _ kept, without, rfl, granted, fun _ => rfl, fun is => absurd is own, fun is => absurd is own⟩

end Sys2Proof.Machine

/-! PROOFS. The amended images (R87 to R90, R92, R93, R95, R96). -/

namespace Sys2Proof.Machine

/-! ## Words replaced -/

theorem length_withWords (image : List Word) (k : Nat) (ws : List Word) : (withWords image k ws).length = image.length := by
  induction ws generalizing image k with
  | nil => rfl
  | cons w ws ih => rw [withWords, ih, List.length_set]

theorem wordAt_set (image : List Word) (k j : Nat) (w : Word) (inside : k < image.length) :
    wordAt (image.set k w) j = if j = k then w else wordAt image j := by
  rw [wordAt, wordAt, List.getD_eq_getElem?_getD, List.getD_eq_getElem?_getD, List.getElem?_set]
  by_cases same : k = j
  · subst same
    simp [inside]
  · rw [if_neg same, if_neg (Ne.symm same)]

theorem wordAt_withWords (image : List Word) (k : Nat) (ws : List Word) (j : Nat) (inside : k + ws.length ≤ image.length) :
    wordAt (withWords image k ws) j = if k ≤ j ∧ j < k + ws.length then wordAt ws (j - k) else wordAt image j := by
  induction ws generalizing image k with
  | nil => rw [withWords, if_neg (by simp)]
  | cons w ws ih =>
    rw [List.length_cons] at inside ⊢
    rw [withWords, ih _ _ (by rw [List.length_set]; omega), wordAt_set image k j w (by omega)]
    obtain before | rfl | after := Nat.lt_trichotomy j k
    · rw [if_neg (by omega), if_neg (by omega), if_neg (by omega)]
    · rw [if_neg (by omega), if_pos rfl, if_pos (by omega), Nat.sub_self]
      rfl
    · obtain ⟨d, rfl⟩ := Nat.exists_eq_add_of_lt after
      have shift : k + d + 1 - k = (k + d + 1 - (k + 1)) + 1 := by omega
      rw [shift]
      by_cases within : d < ws.length
      · rw [if_pos (by omega), if_pos (by omega)]
        rfl
      · rw [if_neg (by omega), if_neg (by omega), if_neg (by omega)]

theorem joinWords_highWord_lowWord (v : BitVec 32) : joinWords (highWord v) (lowWord v) = v := by
  rw [joinWords, highWord, lowWord, BitVec.extractLsb'_append_extractLsb'_eq_extractLsb' (by rfl : 16 = 0 + 16)]
  exact BitVec.extractLsb'_eq_self

theorem length_withField32 (image : List Word) (k : Nat) (v : BitVec 32) :
    (withField32 image k v).length = image.length := length_withWords image k _

theorem wordAt_withField32 (image : List Word) (k : Nat) (v : BitVec 32) (j : Nat) (inside : k + 2 ≤ image.length) :
    wordAt (withField32 image k v) j =
      if j = k then highWord v else if j = k + 1 then lowWord v else wordAt image j := by
  rw [withField32, wordAt_withWords image k [highWord v, lowWord v] j inside]
  obtain rfl | first := eq_or_ne j k
  · rw [if_pos (by simp), if_pos rfl, Nat.sub_self]
    rfl
  · rw [if_neg first]
    obtain rfl | second := eq_or_ne j (k + 1)
    · rw [if_pos (by simp), if_pos rfl, Nat.add_sub_cancel_left]
      rfl
    · rw [if_neg second, if_neg (by simp only [List.length_cons, List.length_nil]; omega)]

theorem length_withCheckWord (image : List Word) : (withCheckWord image).length = image.length := List.length_set

theorem wordAt_withCheckWord (image : List Word) (j : Nat) (length : image.length = 32) (before : j ≠ 31) :
    wordAt (withCheckWord image) j = wordAt image j := by
  rw [withCheckWord, wordAt_set image 31 j _ (by omega), if_neg before]

/-- R95: the check word of an amended image is good. -/
theorem withCheckWord_good (image : List Word) (length : image.length = 32) :
    wordAt (withCheckWord image) 31 = crc16 ((withCheckWord image).take 31) := by
  rw [withCheckWord, wordAt_set image 31 31 _ (by omega), if_pos rfl, List.take_set_of_le (Nat.le_refl 31)]

/-! ## The passes placed -/

theorem placeWhere_length (c : PassSlot → Bool) (p : PassRecord) (slots placed : List PassSlot)
    (h : placeWhere c p slots = some placed) : placed.length = slots.length := by
  induction slots generalizing placed with
  | nil => simp [placeWhere] at h
  | cons s rest ih =>
    rw [placeWhere] at h
    split at h
    · obtain rfl := Option.some.inj h
      rfl
    · obtain ⟨r, found, rfl⟩ := Option.map_eq_some_iff.mp h
      rw [List.length_cons, List.length_cons, ih r found]

theorem placePass_length (p : PassRecord) (slots placed : List PassSlot) (h : placePass p slots = some placed) :
    placed.length = slots.length := by
  rw [placePass] at h
  split at h
  · exact placeWhere_length _ p slots placed h
  · split at h
    next r own =>
      obtain rfl := Option.some.inj h
      exact placeWhere_length _ p slots _ own
    next => exact placeWhere_length _ p slots placed h

/-- R88: every pass is placed or dropped, and the slots stay as many. -/
theorem placeAll_counts (day : Nat) (passes : List PassRecord) (w w' : Placed) (h : placeAll day passes w = some w') :
    w'.placed + w'.dropped = w.placed + w.dropped + passes.length ∧ w'.slots.length = w.slots.length := by
  induction passes generalizing w with
  | nil =>
    obtain rfl := Option.some.inj h
    exact ⟨rfl, rfl⟩
  | cons p rest ih =>
    rw [List.length_cons]
    obtain passed | live := Nat.lt_or_ge p.endDay.toNat day
    · rw [placeAll_dropped day p rest w passed] at h
      obtain ⟨counts, slots⟩ := ih _ h
      dsimp only at counts slots
      exact ⟨by omega, slots⟩
    · cases placed : placePass p w.slots with
      | none => simp [placeAll_unplaced day p rest w live placed] at h
      | some slots =>
        rw [placeAll_placed day p rest w live slots placed] at h
        obtain ⟨counts, same⟩ := ih _ h
        dsimp only at counts same
        exact ⟨by omega, same.trans (placePass_length p w.slots slots placed)⟩

theorem restoreFit_eq_some (i : DecisionInputs) (day : Nat) (r : RestorePart) (w : Placed) (h : restoreFit i day r = some w) :
    imagePurse i.snapshot + (r.amount.toNat : Int) ≤ (i.ceiling : Int)
      ∧ w.placed + w.dropped = r.passes.length ∧ w.slots.length = 4 := by
  rw [restoreFit, Option.ite_none_right_eq_some, purseFits_iff] at h
  obtain ⟨fits, placed⟩ := h
  obtain ⟨counts, slots⟩ := placeAll_counts day r.passes _ w placed
  exact ⟨fits, by simpa using counts, slots⟩

/-! ## What an amending decision says -/

theorem decideFor_eq_restore (i : DecisionInputs) (e : Entry) (image : List Word) (placed dropped : Nat)
    (h : decideFor i (some e) = .restore image placed dropped) :
    ∃ r day w, e.part = .restore r ∧ i.day = some day ∧ restoreFit i day r = some w
      ∧ image = restoredImage i.snapshot r.amount e.action w.slots ∧ placed = w.placed ∧ dropped = w.dropped := by
  rw [decideFor] at h
  split at h
  · cases h
  next r part _ =>
    rw [decideRestore] at h
    split at h
    · cases h
    next day set =>
      split at h
      · cases h
      split at h
      · cases h
      split at h
      · cases h
      split at h
      · cases h
      split at h
      · cases h
      next w fit =>
        obtain ⟨rfl, rfl, rfl⟩ := Decision.restore.inj h
        exact ⟨r, day, w, part, set, fit, rfl, rfl, rfl⟩
  · rw [decideBlock_eq] at h
    split at h
    · cases h
    split at h
    · cases h
    split at h <;> cases h

/-- R80: the decisions that only a BLOCK entry brings. -/
def Decision.isOfBlock : Decision → Bool
  | .block _ _ => true
  | .blockOnly _ => true
  | .none => false
  | .restore _ _ _ => false
  | .skipApplied => false
  | .skipLive _ => false
  | .skipBlock => false
  | .defer _ => false
  | .expired => false

theorem decideRestore_notOfBlock (i : DecisionInputs) (e : Entry) (r : RestorePart) :
    (decideRestore i e r).isOfBlock = false := by
  rw [decideRestore]
  cases i.day with
  | none => rfl
  | some day =>
    dsimp only
    split_ifs
    · rfl
    · rfl
    · rfl
    · rfl
    · cases restoreFit i day r <;> rfl

theorem decideFor_of_isOfBlock (i : DecisionInputs) (e : Entry) (h : (decideFor i (some e)).isOfBlock = true) :
    decideFor i (some e) = decideBlock i e := by
  rw [decideFor] at h ⊢
  split at h
  · cases h
  · rw [decideRestore_notOfBlock] at h
    cases h
  · rfl

theorem decideFor_eq_block (i : DecisionInputs) (e : Entry) (image : List Word) (cleared : Nat)
    (h : decideFor i (some e) = .block image cleared) :
    image = blockedImage i.snapshot e.action ∧ cleared = clearedCount i.snapshot := by
  rw [decideFor_of_isOfBlock i e (by rw [h]; rfl), decideBlock_eq] at h
  split_ifs at h
  exact ⟨(Decision.block.inj h).1.symm, (Decision.block.inj h).2.symm⟩

theorem decideFor_eq_blockOnly (i : DecisionInputs) (e : Entry) (image : List Word)
    (h : decideFor i (some e) = .blockOnly image) : image = blockOnlyImage i.snapshot := by
  rw [decideFor_of_isOfBlock i e (by rw [h]; rfl), decideBlock_eq] at h
  split_ifs at h
  exact (Decision.blockOnly.inj h).symm

/-! ## The words of the amended images -/

theorem imageApplied_of_words (v : BitVec 32) (amended : List Word) (high : wordAt amended 8 = highWord v)
    (low : wordAt amended 9 = lowWord v) : imageApplied amended = v := by
  rw [imageApplied, high, low, joinWords_highWord_lowWord]

section Images

variable (image : List Word) (length : image.length = 32)
include length

/-- R90: every word of a restored image but its check. -/
theorem wordAt_restoredImage (amount action : BitVec 32) (slots : List PassSlot) (four : (slotWords slots).length = 16) (j : Nat)
    (before : j ≠ 31) : wordAt (restoredImage image amount action slots) j =
      if 10 ≤ j ∧ j < 26 then wordAt (slotWords slots) (j - 10)
      else if j = 8 then highWord action else if j = 9 then lowWord action
      else if j = 5 then highWord (BitVec.ofInt 32 (imagePurse image + (amount.toNat : Int)))
      else if j = 6 then lowWord (BitVec.ofInt 32 (imagePurse image + (amount.toNat : Int)))
      else wordAt image j := by
  rw [restoredImage, wordAt_withCheckWord _ j (by simp only [length_withWords, length_withField32, length]) before,
    wordAt_withWords _ 10 _ j (by simp only [four, length_withField32, length]; omega), four,
    wordAt_withField32 _ 8 action j (by simp only [length_withField32, length]; omega),
    wordAt_withField32 image 5 _ j (by omega)]

/-- R92: every word of a blocked image but its check. -/
theorem wordAt_blockedImage (action : BitVec 32) (j : Nat) (before : j ≠ 31) : wordAt (blockedImage image action) j =
    if 10 ≤ j ∧ j < 26 then 0
    else if j = 8 then highWord action else if j = 9 then lowWord action
    else if j = 5 then 0 else if j = 6 then 0
    else if j = 4 then blockedStatus (wordAt image 4) else wordAt image j := by
  have zeros (k : Nat) : wordAt (List.replicate 16 0) k = 0 := by
    rw [wordAt, List.getD_eq_getElem?_getD, List.getElem?_replicate]
    split <;> rfl
  rw [blockedImage, wordAt_withCheckWord _ j (by simp only [length_withWords, length_withField32, List.length_set, length])
      before,
    wordAt_withWords _ 10 _ j (by simp only [List.length_replicate, length_withField32, List.length_set, length]; omega),
    List.length_replicate, zeros,
    wordAt_withField32 _ 8 action j (by simp only [length_withField32, List.length_set, length]; omega),
    wordAt_withField32 _ 5 0 j (by rw [List.length_set]; omega), wordAt_set image 4 j _ (by omega)]
  rfl

/-- R93: every word of a block-only image but its check. -/
theorem wordAt_blockOnlyImage (j : Nat) (before : j ≠ 31) : wordAt (blockOnlyImage image) j =
    if j = 4 then blockedStatus (wordAt image 4) else wordAt image j := by
  rw [blockOnlyImage, wordAt_withCheckWord _ j (by rw [List.length_set]; exact length) before,
    wordAt_set image 4 j _ (by omega)]

end Images

theorem highByte_blockedStatus (w : Word) : highByte (blockedStatus w) = 2 := highByte_joinBytes 2 (lowByte w)

theorem lowByte_joinBytes (u l : Byte) : lowByte (joinBytes u l) = l := by
  rw [lowByte, joinBytes]
  exact BitVec.extractLsb'_append_eq_right

/-- R187: a purse that stays in range is the sum formed exactly. -/
theorem toInt_ofInt_of_purse (x : Int) (low : -2147483648 ≤ x) (high : x < 2147483648) : (BitVec.ofInt 32 x).toInt = x :=
  BitVec.toInt_ofInt_eq_self (by omega) low high

theorem imagePurse_ge (image : List Word) : -2147483648 ≤ imagePurse image := BitVec.le_toInt _

section Restored

variable (i : DecisionInputs) (e : Entry) (length : i.snapshot.length = 32) (r : RestorePart) (day : Nat) (w : Placed)
  (fit : restoreFit i day r = some w)
include length fit

omit length in
theorem slotWords_length_of_fit : (slotWords w.slots).length = 16 := by
  obtain ⟨-, -, four⟩ := restoreFit_eq_some i day r w fit
  obtain ⟨a, b, c, d, slots⟩ := List.length_eq_four.mp four
  rw [slots]
  rfl

theorem restoredImage_purse (ceiling : i.ceiling ≤ 2000000) : imagePurse (restoredImage i.snapshot r.amount e.action w.slots)
    = imagePurse i.snapshot + (r.amount.toNat : Int) := by
  obtain ⟨fits, -, -⟩ := restoreFit_eq_some i day r w fit
  have words := wordAt_restoredImage i.snapshot length r.amount e.action w.slots (slotWords_length_of_fit i r day w fit)
  have low := imagePurse_ge i.snapshot
  rw [imagePurse, words 5 (by omega), words 6 (by omega)]
  simp only [Nat.reduceLeDiff, Nat.reduceEqDiff, false_and, if_false, if_true, joinWords_highWord_lowWord]
  exact toInt_ofInt_of_purse _ (by omega) (by omega)

theorem restoredImage_applied : imageApplied (restoredImage i.snapshot r.amount e.action w.slots) = e.action := by
  have words := wordAt_restoredImage i.snapshot length r.amount e.action w.slots (slotWords_length_of_fit i r day w fit)
  refine imageApplied_of_words e.action _ ?_ ?_
  · rw [words 8 (by omega), if_neg (by omega), if_pos rfl]
  · rw [words 9 (by omega), if_neg (by omega), if_neg (by omega), if_pos rfl]

theorem restoredImage_slots : imageSlots (restoredImage i.snapshot r.amount e.action w.slots) = w.slots := by
  have words := wordAt_restoredImage i.snapshot length r.amount e.action w.slots (slotWords_length_of_fit i r day w fit)
  obtain ⟨-, -, four⟩ := restoreFit_eq_some i day r w fit
  obtain ⟨a, b, c, d, slots⟩ := List.length_eq_four.mp four
  have inside (j : Nat) (h : 10 ≤ j ∧ j < 26) :
      wordAt (restoredImage i.snapshot r.amount e.action w.slots) j = wordAt (slotWords w.slots) (j - 10) := by
    rw [words j (by omega), if_pos h]
  simp only [imageSlots, imageSlot]
  rw [inside _ (by omega), inside _ (by omega), inside _ (by omega), inside _ (by omega), inside _ (by omega),
    inside _ (by omega), inside _ (by omega), inside _ (by omega), inside _ (by omega), inside _ (by omega),
    inside _ (by omega), inside _ (by omega), inside _ (by omega), inside _ (by omega), inside _ (by omega),
    inside _ (by omega), slots]
  rfl

theorem restoredImage_keeps (k : Nat) (kept : k ≤ 4 ∨ k = 7 ∨ 26 ≤ k ∧ k ≤ 30) :
    wordAt (restoredImage i.snapshot r.amount e.action w.slots) k = wordAt i.snapshot k := by
  rw [wordAt_restoredImage i.snapshot length r.amount e.action w.slots (slotWords_length_of_fit i r day w fit) k
      (by omega), if_neg (by omega), if_neg (by omega), if_neg (by omega), if_neg (by omega), if_neg (by omega)]

end Restored

theorem length_restoredImage (image : List Word) (amount action : BitVec 32) (slots : List PassSlot) :
    (restoredImage image amount action slots).length = image.length := by
  rw [restoredImage, length_withCheckWord]
  simp only [length_withWords, length_withField32]

theorem length_blockedImage (image : List Word) (action : BitVec 32) :
    (blockedImage image action).length = image.length := by
  rw [blockedImage, length_withCheckWord]
  simp only [length_withWords, length_withField32, List.length_set]

theorem length_blockOnlyImage (image : List Word) : (blockOnlyImage image).length = image.length := by
  rw [blockOnlyImage, length_withCheckWord, List.length_set]

section Blocked

variable (image : List Word) (length : image.length = 32) (action : BitVec 32)
include length

theorem blockedImage_keeps (k : Nat) (kept : k ≤ 3 ∨ k = 7 ∨ 26 ≤ k ∧ k ≤ 30) :
    wordAt (blockedImage image action) k = wordAt image k := by
  rw [wordAt_blockedImage image length action k (by omega), if_neg (by omega), if_neg (by omega), if_neg (by omega),
    if_neg (by omega), if_neg (by omega), if_neg (by omega)]

theorem blockedImage_status : wordAt (blockedImage image action) 4 = blockedStatus (wordAt image 4) := by
  rw [wordAt_blockedImage image length action 4 (by omega), if_neg (by omega), if_neg (by omega), if_neg (by omega),
    if_neg (by omega), if_neg (by omega), if_pos rfl]

theorem blockedImage_purse : imagePurse (blockedImage image action) = 0 := by
  have words := wordAt_blockedImage image length action
  rw [imagePurse, words 5 (by omega), words 6 (by omega)]
  simp only [Nat.reduceLeDiff, Nat.reduceEqDiff, false_and, if_false, if_true]
  decide

theorem blockedImage_applied : imageApplied (blockedImage image action) = action := by
  refine imageApplied_of_words action _ ?_ ?_
  · rw [wordAt_blockedImage image length action 8 (by omega), if_neg (by omega), if_pos rfl]
  · rw [wordAt_blockedImage image length action 9 (by omega), if_neg (by omega), if_neg (by omega), if_pos rfl]

theorem blockOnlyImage_status : wordAt (blockOnlyImage image) 4 = blockedStatus (wordAt image 4) := by
  rw [wordAt_blockOnlyImage image length 4 (by omega), if_pos rfl]

end Blocked

/-- Settles O38: the words each amending decision changes. -/
theorem amendedImages : Obligations.AmendedImages := by
  intro i e image length ceiling
  refine ⟨fun placed dropped decides => ?_, fun cleared decides => ?_, fun decides => ?_⟩
  · obtain ⟨r, day, w, part, set, fit, isImage, rfl, rfl⟩ := decideFor_eq_restore i e image placed dropped decides
    obtain ⟨fits, counts, -⟩ := restoreFit_eq_some i day r w fit
    obtain ⟨amount, passes⟩ := e.restore_fields r part
    have purse := restoredImage_purse i e length r day w fit ceiling
    rw [isImage]
    refine ⟨(length_restoredImage _ _ _ _).trans length, restoredImage_keeps i e length r day w fit, by rw [purse, amount],
      by rw [purse]; exact fits, restoredImage_applied i e length r day w fit, ?_, by rw [passes]; exact counts,
      r, day, w, part, set, fit, restoredImage_slots i e length r day w fit, rfl, rfl⟩
    exact withCheckWord_good _ (by simp only [length_withWords, length_withField32, length])
  · obtain ⟨isImage, isCleared⟩ := decideFor_eq_block i e image cleared decides
    rw [isImage]
    have status := blockedImage_status i.snapshot length e.action
    refine ⟨?_, ?_, ?_, ?_, ?_, fun k from10 to25 => ?_, ?_, ?_, ?_⟩
    · exact (length_blockedImage _ _).trans length
    · exact blockedImage_keeps i.snapshot length e.action
    · rw [status, highByte_blockedStatus]
    · rw [status, blockedStatus, lowByte_joinBytes]
    · exact blockedImage_purse i.snapshot length e.action
    · rw [wordAt_blockedImage i.snapshot length e.action k (by omega), if_pos (by omega)]
    · exact blockedImage_applied i.snapshot length e.action
    · exact withCheckWord_good _ (by simp only [length_withWords, length_withField32, List.length_set, length])
    · rw [isCleared, clearedCount]
  · have isImage := decideFor_eq_blockOnly i e image decides
    rw [isImage]
    have status := blockOnlyImage_status i.snapshot length
    refine ⟨(length_blockOnlyImage _).trans length, fun k to30 other => ?_, ?_, ?_, ?_⟩
    · rw [wordAt_blockOnlyImage i.snapshot length k (by omega), if_neg other]
    · rw [status, highByte_blockedStatus]
    · rw [status, blockedStatus, lowByte_joinBytes]
    · exact withCheckWord_good _ (by rw [List.length_set, length])

end Sys2Proof.Machine

/-! PROOFS. The answers of intake's operations (R39 to R41), confirmation marks (R16), and entries staged (R9, R13). -/

namespace Sys2Proof.Machine

/-! ## Answers -/

/-- R41: an ignored answer is not taken, whatever would be made of it. -/
theorem Part.intakeAnswered_of_ignored (p : Part) (f : Part → Part) (ignored : p.intake.answerIgnored = true) :
    p.intakeAnswered f = p.intakeAnswered id := by
  rw [Part.intakeAnswered, Part.intakeAnswered, if_pos ignored, if_pos ignored]

/-- R41: the answer that `f` takes as a change of intake, from an operation that has left the table. -/
theorem Part.intakeAnswered_taken (p : Part) (f : Part → Part) (taken : Intake)
    (took : f p.tableFree = { p.tableFree with intake := taken })
    (ignores : p.intake.answerIgnored = false → taken.answerIgnored = false)
    (owed : taken.discardOwed = p.intake.discardOwed) :
    p.tableFree.intakeAnswered f = Part.intakeWork { p with
      arbiter := p.arbiter.afterAnswer p.intake, intake := p.intake.afterAnswer taken } :=
  p.tableFree.intakeAnswered_eq f taken took ignores owed rfl

theorem Part.heldWriteReleased_of_release (p q : Part) (memory : q.memory = p.releaseHeldWrite.memory)
    (epoch : q.memoryEpoch = p.memoryEpoch) (path : q.path = p.releaseHeldWrite.path) : p.heldWriteReleased q := by
  refine ⟨fun w b held => ?_, fun none => ?_⟩
  · rw [p.releaseHeldWrite_of_held w b held] at memory path
    refine ⟨fun a => ?_, path⟩
    have same : q.memoryByte a = (p.carryWrite w b .fileIntake .pass).memoryByte a := q.memoryByte_congr _ memory epoch a
    rw [same]
    exact p.memoryTakes_carryWrite_pass p w b .fileIntake rfl rfl a
  · have released : p.releaseHeldWrite = p := by
      rw [Part.releaseHeldWrite]
      split
      next w b held => exact absurd held (none w b)
      next => rfl
    rw [released] at memory path
    exact ⟨memory, path⟩

theorem Part.releaseHeldWrite_eq (p : Part) : p.releaseHeldWrite = { p with
    path := p.releaseHeldWrite.path, memory := p.releaseHeldWrite.memory } := by
  rw [Part.releaseHeldWrite]
  split <;> rfl

/-- R41: a file refused by an answer: the table as it stood, a held write released, a discard claimed. -/
theorem Part.intakeAnswered_refused (p : Part) (reason : FileRefusal) (notIgnored : p.intake.answerIgnored = false) :
    p.tableFree.intakeAnswered (fun q => q.refuse reason) = { Part.fileRefused p.tableFree reason with
      path := p.releaseHeldWrite.path, memory := p.releaseHeldWrite.memory } := by
  have notRunning : p.tableFree.intakeRunning = none := rfl
  have free : p.tableFree.releaseHeldWrite = { p.tableFree with
      path := p.releaseHeldWrite.path, memory := p.releaseHeldWrite.memory } := by
    rw [Part.releaseHeldWrite, Part.releaseHeldWrite]
    have cycle : p.tableFree.path.cycle = p.path.cycle := rfl
    rw [cycle]
    split <;> rfl
  have ended : (p.tableFree.refuse reason).claimOwedDiscard = { Part.fileRefused p.tableFree reason with
      path := p.releaseHeldWrite.path, memory := p.releaseHeldWrite.memory } := by
    rw [Part.refuse_of_notRunning _ reason notRunning, free, Part.claimOwedDiscard]
    dsimp only
    cases isOwed : p.intake.discardOwed with
    | true =>
      have owed : (p.tableFree.intake.ended .draining).discardOwed = true := isOwed
      rw [if_pos owed]
      rfl
    | false =>
      have notOwed : ¬ (p.tableFree.intake.ended .draining).discardOwed = true := by
        have same : (p.tableFree.intake.ended .draining).discardOwed = p.intake.discardOwed := rfl
        rw [same, isOwed]
        exact Bool.false_ne_true
      have fields : (p.tableFree.intake.ended .draining) = { p.tableFree.intake.ended .draining with discardOwed := false } := by
        have same : (p.tableFree.intake.ended .draining).discardOwed = false := isOwed
        rw [← same]
      rw [if_neg notOwed, fields]
      rfl
  have taken : ¬ p.tableFree.intake.answerIgnored = true := by
    have same : p.tableFree.intake.answerIgnored = p.intake.answerIgnored := rfl
    rw [same, notIgnored]
    exact Bool.false_ne_true
  rw [Part.intakeAnswered, if_neg taken, ended]
  exact Part.intakeWork_of_waiting _ rfl (.inl rfl)

/-! ## Confirmation marks -/

theorem Entry.markable_iff (e : Entry) (m : MarkClaim) : e.markable m = true ↔
    e.state = .live ∧ (∃ r, e.part = .restore r) ∧ e.serial = m.serial ∧ e.action = m.action := by
  rw [Entry.markable]
  cases e.part <;> simp [and_assoc]

theorem Store.entry_mark_other (st : Store) (m : MarkClaim) (day k : Nat) (other : k ≠ m.entry) :
    (st.mark m day).entry k = st.entry k := by
  rw [Store.mark, Store.entry_update, if_neg other]

theorem Store.entry_mark_taken (st : Store) (m : MarkClaim) (day : Nat) (e : Entry) (entry : st.entry m.entry = some e)
    (markable : e.markable m = true) :
    (st.mark m day).entry m.entry = some { e with state := .applied day, checkFault := 0 } := by
  rw [Store.mark, Store.entry_update, if_pos rfl, entry, Option.map_some, if_pos markable]
  rfl

theorem Store.entry_mark_ignored (st : Store) (m : MarkClaim) (day : Nat)
    (none : ∀ e, st.entry m.entry = some e → ¬ e.markable m = true) :
    (st.mark m day).entry m.entry = st.entry m.entry := by
  rw [Store.mark, Store.entry_update, if_pos rfl]
  cases entry : st.entry m.entry with
  | none => rfl
  | some e => rw [Option.map_some, if_neg (none e entry)]

theorem Store.mark_keeps (st : Store) (m : MarkClaim) (day : Nat) :
    (st.mark m day).freeList = st.freeList ∧ (st.mark m day).buckets = st.buckets
      ∧ (st.mark m day).freePasses = st.freePasses := Store.update_keeps st m.entry _

/-- R16: a mark completes, with the day of its grant or one left free. -/
theorem mark_effect (s : State) (m : MarkClaim) (day : Option Nat) (op : s.arbiter.op = some (.mark m day)) :
    ∃ (d draws : Nat), (∀ x, day = some x → d = x) ∧ (day ≠ none → draws = s.draws)
      ∧ commandEffect .confirmationMark s.toPart = Part.grant { s.toPart with
          arbiter := { s.arbiter with op := none }, store := s.store.mark m d, draws := draws } := by
  have effect : commandEffect .confirmationMark s.toPart = s.toPart.completeMark := rfl
  cases day with
  | some x =>
    refine ⟨x, s.draws, fun y is => Option.some.inj is, fun _ => rfl, ?_⟩
    rw [effect, Part.completeMark, op]
    rfl
  | none =>
    refine ⟨Config.dayOfUnsetClock s.draws % 65536, s.draws + 1, fun y is => by (cases is), fun not => absurd rfl not, ?_⟩
    rw [effect, Part.completeMark, op]
    rfl

theorem Part.grant_store (p : Part) : p.grant.store = p.store := by simp

theorem Part.grant_draws (p : Part) : p.grant.draws = p.draws := by simp

/-- Settles O39: the mark's entry APPLIED where it is markable, and no other change of the table. -/
theorem confirmationMarkTaken : Obligations.ConfirmationMarkTaken := by
  intro s m day op
  obtain ⟨d, draws, dayOf, drawn, effect⟩ := mark_effect s m day op
  obtain ⟨freeList, buckets, freePasses⟩ := s.store.mark_keeps m d
  refine ⟨_, d, exec_of_effect _ s _ effect, dayOf, fun set => ?_, ?_, fun k other => ?_, fun e r entry live part serial action => ?_,
    fun none => ?_, ?_, ?_, ?_⟩
  all_goals dsimp only
  · rw [Part.grant_draws]
    exact drawn set
  · rw [Part.grant_store, Part.grant_draws]
  all_goals rw [Part.grant_store]
  · exact s.store.entry_mark_other m d k other
  · exact s.store.entry_mark_taken m d e entry ((e.markable_iff m).mpr ⟨live, ⟨r, part⟩, serial, action⟩)
  · exact s.store.entry_mark_ignored m d fun e entry => mt (e.markable_iff m).mp (none e entry)
  · exact freeList
  · exact buckets
  · exact freePasses

end Sys2Proof.Machine

/-! PROOFS. Entries staged (R1, R6 to R9, R13, R39): the entry taken, reclaim on demand, and TABLE-FULL. -/

namespace Sys2Proof.Machine

/-! ## The entry taken -/

/-- R13: a FREE entry taken from the head of the free list, filled and linked. -/
def Store.take (st : Store) (n : Nat) (rest : List Nat) (r : EntryRecord) (number : BitVec 32) : Store :=
  ({ st with freeList := rest, structureFault := 0 } : Store).link n (stagedEntry r number)

theorem Store.chain_withChain_of_other (st : Store) (b : Nat) (c : List Nat) (x : Nat) (notEmpty : c ≠ []) (other : x ≠ b) :
    (st.withChain b c).chain x = st.chain x := by
  rw [Store.chain, Store.chain, Store.withChain, if_neg notEmpty, Sparse.find_insert, if_neg other]

section Take

variable (st : Store) (n : Nat) (rest : List Nat) (r : EntryRecord) (number : BitVec 32)

theorem Store.entry_take_same : (st.take n rest r number).entry n = some
    { serial := r.serial, part := r.part, state := .staged, action := r.action, expiry := r.expiry, fileTag := number
      pins := 0, position := (st.chain (bucketOf r.serial)).getLast?, checkFault := 0 } := by
  rw [Store.take, Store.entry_link, if_pos rfl]
  rfl

theorem Store.entry_take_other (k : Nat) (other : k ≠ n) : (st.take n rest r number).entry k = st.entry k := by
  rw [Store.take, Store.entry_link, if_neg other]
  rfl

theorem Store.chain_take (b : Nat) :
    (st.take n rest r number).chain b = st.chain b ++ if b = bucketOf r.serial then [n] else [] := by
  by_cases own : b = bucketOf r.serial
  · subst own
    rw [if_pos rfl]
    exact (Store.link_keeps _ n (stagedEntry r number)).1
  · rw [if_neg own, List.append_nil, Store.take, Store.link, Store.chain_withSlot]
    exact Store.chain_withChain_of_other _ _ _ b (by simp) own

theorem Store.take_keeps : (st.take n rest r number).freeList = rest
    ∧ (st.take n rest r number).freePasses = st.freePasses := by
  obtain ⟨-, freeList, freePasses⟩ := Store.link_keeps { st with freeList := rest, structureFault := 0 } n (stagedEntry r number)
  exact ⟨freeList, freePasses⟩

theorem Store.stageEntry_taken (free : ((st.killStaged r.serial).makeRoom).freeList = n :: rest) :
    st.stageEntry r number = some ((st.killStaged r.serial).makeRoom.take n rest r number, n) := by
  simp only [Store.stageEntry, free]
  rfl

theorem Store.stageEntry_full (full : ((st.killStaged r.serial).makeRoom).freeList = []) :
    st.stageEntry r number = none := by
  simp only [Store.stageEntry, full]

end Take

/-! ## Room -/

theorem Store.makeRoom_of_free (st : Store) (h : st.freeList ≠ []) : st.makeRoom = st := if_neg h

theorem Store.makeRoom_of_none (st : Store) (h : st.lowestReclaimable (fun _ => true) = none) : st.makeRoom = st := by
  rw [Store.makeRoom, h]
  exact ite_self st

theorem Store.makeRoom_of_reclaimed (st : Store) (n : Nat) (empty : st.freeList = [])
    (h : st.lowestReclaimable (fun _ => true) = some n) : st.makeRoom = st.reclaim n := by
  rw [Store.makeRoom, if_pos empty, h]

theorem Store.killStaged_of_none (st : Store) (serial : BitVec 64) (h : st.stagedOf serial = none) :
    st.killStaged serial = st := by
  rw [Store.killStaged, h]

theorem Store.chain_killStaged (st : Store) (serial : BitVec 64) (b : Nat) : (st.killStaged serial).chain b = st.chain b := by
  obtain ⟨-, buckets, -⟩ := st.killStaged_keeps serial
  rw [Store.chain, Store.chain, buckets]

/-- R9: with nothing reclaimable, no entry is picked. -/
theorem Store.lowestReclaimable_eq_none (st : Store) (p : Entry → Bool)
    (h : ∀ x ∈ st.entries, x.2.reclaimable = true → p x.2 = false) : st.lowestReclaimable p = none := by
  rw [Store.lowestReclaimable, Option.map_eq_none_iff, List.find?_eq_none]
  intro x mem
  cases reclaimable : x.2.reclaimable with
  | false => simp
  | true => simp [h x mem reclaimable]

theorem Entry.reclaimable_iff (e : Entry) : e.reclaimable = true ↔ e.state = .dead ∧ e.pins = 0 := by
  simp [Entry.reclaimable]

theorem Store.standsAfter_iff (st : Store) (serial : BitVec 64) (n k : Nat) :
    st.standsAfter serial n k ↔ successor n (st.chain (bucketOf serial)) = some k :=
  (successor_eq_some n k _).symm

/-- R1, R8: the entry that stands right after a reclaimed one takes its position; the rest stand. -/
theorem Store.entry_reclaim_after (st : Store) (n : Nat) (e : Entry) (entry : st.entry n = some e)
    (rising : Sparse.rising st.table) (k : Nat) (other : k ≠ n) :
    (st.standsAfter e.serial n k → (st.reclaim n).entry k = (st.entry k).map (·.movedUp e))
      ∧ (¬ st.standsAfter e.serial n k → (st.reclaim n).entry k = st.entry k) := by
  rw [st.entry_reclaim n e entry rising k other, st.standsAfter_iff]
  exact ⟨fun stands => if_pos stands, fun stands => if_neg stands⟩

theorem Store.standsAfter_killStaged (st : Store) (s serial : BitVec 64) (n k : Nat) :
    (st.killStaged s).standsAfter serial n k ↔ st.standsAfter serial n k := by
  rw [Store.standsAfter_iff, Store.standsAfter_iff, Store.chain_killStaged]

/-! ## What the answer comes to -/

theorem Part.answered_store (p : Part) : p.intakeWork.grant.store = p.store := by simp

theorem Part.entryStaged_eq (p : Part) (r : EntryRecord) (n : Nat) : p.entryStaged r n = { p with
    intake := { p.intake with
      buffer := p.intake.buffer.tail
      staging := match r.part with
        | .block _ => p.intake.staging
        | .restore _ => p.intake.staging.map fun x => { x with restoreEntry := some n } } } := by
  rw [Part.entryStaged]
  cases r.part with
  | block flag =>
    have same : p.intake.staging.map (fun f => f) = p.intake.staging := Option.map_id'
    dsimp only
    rw [same]
    rfl
  | restore part => rfl

/-- R39: a stage-entry answered STAGED. -/
theorem stageEntry_effect_stored (s : State) (r : EntryRecord) (number : BitVec 32) (st : Store) (n : Nat)
    (op : s.arbiter.op = some (.intake (.stageEntry r number))) (stored : s.store.stageEntry r number = some (st, n)) :
    commandEffect .stageEntry s.toPart = Part.grant (Part.intakeWork { s.toPart with
      arbiter := s.arbiter.afterAnswer s.intake
      store := st
      intake := s.intake.afterAnswer { s.intake with
        buffer := s.intake.buffer.tail
        staging := match r.part with
          | .block _ => s.intake.staging
          | .restore _ => s.intake.staging.map fun x => { x with restoreEntry := some n } } }) := by
  have effect : commandEffect .stageEntry s.toPart = s.toPart.completeStageEntry := rfl
  have took := ({ s.toPart with store := st } : Part).tableFree.entryStaged_eq r n
  have answered := ({ s.toPart with store := st } : Part).intakeAnswered_taken (fun q => q.entryStaged r n) _ took id rfl
  rw [effect, Part.completeStageEntry, op]
  simp only [stored]
  rw [answered]
  rfl

/-- R41: a stage-entry answered TABLE-FULL. -/
theorem stageEntry_effect_full (s : State) (r : EntryRecord) (number : BitVec 32)
    (op : s.arbiter.op = some (.intake (.stageEntry r number))) (full : s.store.stageEntry r number = none) :
    commandEffect .stageEntry s.toPart = (s.toPart.tableFree.intakeAnswered fun q => q.refuse .tableFull).grant := by
  have effect : commandEffect .stageEntry s.toPart = s.toPart.completeStageEntry := rfl
  rw [effect, Part.completeStageEntry, op]
  simp only [full]

/-- R41: an operation of intake's answered with a refusal: the file is refused, or the answer is ignored. -/
theorem refusal_answered (s : State) (c : Instr) (reason : FileRefusal)
    (effect : commandEffect c s.toPart = (s.toPart.tableFree.intakeAnswered fun q => q.refuse reason).grant) :
    ∃ t, exec c s = .next t
      ∧ (s.intake.answerIgnored = false →
        s.heldWriteReleased t.toPart
          ∧ t = { s with
              toPart := Part.grant { Part.fileRefused { s.toPart with
                arbiter := { s.arbiter with op := none } } reason with
                  path := t.path, memory := t.memory } }
          ∧ t.discardClaimed)
      ∧ (s.intake.answerIgnored = true → t = { s with
          toPart := Part.grant (Part.intakeWork { s.toPart with
            arbiter := s.arbiter.afterAnswer s.intake, intake := s.intake.afterAnswer s.intake }) }) := by
  refine ⟨_, exec_of_effect _ s _ effect, fun notIgnored => ?_, fun ignored => ?_⟩
  · dsimp only
    rw [s.toPart.intakeAnswered_refused reason notIgnored]
    have path (p : Part) : p.grant.path = p.path := by simp
    have epoch (p : Part) : p.grant.memoryEpoch = p.memoryEpoch := by simp
    refine ⟨s.toPart.heldWriteReleased_of_release _ (Part.grant_memory _) (epoch _) (path _), ?_,
      Part.discardClaimed.grant (.inl rfl)⟩
    rw [path, Part.grant_memory]
    rfl
  · rw [s.toPart.tableFree.intakeAnswered_of_ignored _ ignored, s.toPart.intakeAnswered_taken id s.intake rfl id rfl]

/-! ## The earlier STAGED entry -/

theorem Store.stagedOf_some (st : Store) (serial : BitVec 64) (k : Nat) (h : st.stagedOf serial = some k) :
    k ∈ st.chain (bucketOf serial) ∧ ∃ e, st.entry k = some e ∧ e.state = .staged ∧ e.serial = serial := by
  refine ⟨List.mem_of_find?_eq_some h, ?_⟩
  have picks := List.find?_some h
  cases entry : st.entry k with
  | none => simp [entry] at picks
  | some e =>
    simp only [entry, Bool.and_eq_true, beq_iff_eq] at picks
    exact ⟨e, rfl, picks⟩

theorem Store.stagedOf_none (st : Store) (serial : BitVec 64) (h : st.stagedOf serial = none) (k : Nat)
    (mem : k ∈ st.chain (bucketOf serial)) (e : Entry) (entry : st.entry k = some e) :
    ¬ (e.state = .staged ∧ e.serial = serial) := by
  have silent := List.find?_eq_none.mp h k mem
  simpa [entry] using silent

/-- Settles O40: the entry taken from the free list or reclaimed, or TABLE-FULL. -/
theorem entryStaged : Obligations.EntryStaged := by
  refine ⟨fun s r number op => ⟨fun n rest free isFree => ?_, fun empty noStaged none => ?_⟩, ?_,
    fun st serial => ⟨st.stagedOf_some serial, st.stagedOf_none serial⟩⟩
  · obtain ⟨killedFree, -, killedPasses⟩ := s.store.killStaged_keeps r.serial
    have room : (s.store.killStaged r.serial).makeRoom = s.store.killStaged r.serial :=
      Store.makeRoom_of_free _ (by rw [killedFree, free]; simp)
    have stored := s.store.stageEntry_taken n rest r number (by rw [room, killedFree, free])
    rw [room] at stored
    have effect := stageEntry_effect_stored s r number _ n op stored
    obtain ⟨freeList, freePasses⟩ := (s.store.killStaged r.serial).take_keeps n rest r number
    refine ⟨_, exec_of_effect _ s _ effect, by dsimp only; rw [Part.answered_store] <;> rfl, ?_, fun k other => ?_,
      fun b => ?_, ?_, ?_⟩
    all_goals dsimp only
    all_goals rw [Part.answered_store]
    · rw [Store.entry_take_same, Store.chain_killStaged]
    · rw [Store.entry_take_other _ n rest r number k other, Store.entry_killStaged]
    · rw [Store.chain_take, Store.chain_killStaged]
    · exact freeList
    · exact freePasses.trans killedPasses
  · have killed := s.store.killStaged_of_none r.serial noStaged
    have nothing := s.store.lowestReclaimable_eq_none (fun _ => true) fun x mem reclaimable =>
      absurd (reclaimable.symm.trans (none x mem)) (by simp)
    have full := s.store.stageEntry_full r number (by rw [killed, Store.makeRoom_of_none _ nothing, empty])
    exact refusal_answered s .stageEntry .tableFull (stageEntry_effect_full s r number op full)
  · intro s r number n e op tableRising bucketsRising empty after rest isAfter dead unpinned lowest
    have killedEntry (k : Nat) : (s.store.killStaged r.serial).entry k = after k := s.store.entry_killStaged r.serial k
    have killedRising := s.store.killStaged_rising r.serial tableRising
    obtain ⟨killedFree, killedBuckets, killedPasses⟩ := s.store.killStaged_keeps r.serial
    have entry : (s.store.killStaged r.serial).entry n = some e := (killedEntry n).trans isAfter
    have picked : (s.store.killStaged r.serial).lowestReclaimable (fun _ => true) = some n := by
      refine Store.lowestReclaimable_eq killedRising _ n e entry (e.reclaimable_iff.mpr ⟨dead, unpinned⟩) rfl ?_
      intro k before x found
      rw [Bool.and_true, ← Bool.not_eq_true, x.reclaimable_iff]
      exact lowest k before x ((killedEntry k).symm.trans found)
    have room := Store.makeRoom_of_reclaimed _ n (killedFree.trans empty) picked
    obtain ⟨-, -, reclaimedFree, reclaimedPasses⟩ := Store.reclaim_effect _ n e entry killedRising
    rw [killedFree, empty, List.nil_append] at reclaimedFree
    have stored := s.store.stageEntry_taken n [] r number (by rw [room, reclaimedFree])
    rw [room] at stored
    have effect := stageEntry_effect_stored s r number _ n op stored
    have chains (b : Nat) : ((s.store.killStaged r.serial).reclaim n).chain b = rest b := by
      rw [Store.chain_reclaim _ n e entry (by rw [killedBuckets]; exact bucketsRising), Store.chain_killStaged]
    have others (k : Nat) (other : k ≠ n) := Store.entry_reclaim_after _ n e entry killedRising k other
    simp only [Store.standsAfter_killStaged, killedEntry] at others
    obtain ⟨freeList, freePasses⟩ := ((s.store.killStaged r.serial).reclaim n).take_keeps n [] r number
    refine ⟨_, exec_of_effect _ s _ effect, by dsimp only; rw [Part.answered_store] <;> rfl, ?_, fun k other => ⟨fun stands => ?_,
      fun stands => ?_⟩, fun b => ?_, ?_, ?_⟩
    all_goals dsimp only
    all_goals rw [Part.answered_store]
    · rw [Store.entry_take_same, chains]
    · rw [Store.entry_take_other _ n [] r number k other, (others k other).1 stands]
    · rw [Store.entry_take_other _ n [] r number k other, (others k other).2 stands]
    · rw [Store.chain_take, chains]
    · exact freeList
    · rw [freePasses, reclaimedPasses, killedPasses]

end Sys2Proof.Machine

/-! PROOFS. Passes staged (R8, R10, R11, R40): the record taken from the pool, reclaim on demand, and POOL-FULL. -/

namespace Sys2Proof.Machine

/-! ## The pass appended -/

/-- R11: a pass appended to an entry, with a record of the pool. -/
def Store.append (st : Store) (n : Nat) (q : PassRecord) : Store :=
  ({ st with freePasses := st.freePasses - 1 } : Store).update n (Entry.withPass · q)

section Append

variable (st : Store) (n : Nat) (q : PassRecord)

theorem Store.entry_append_same (e : Entry) (r : RestorePart) (entry : st.entry n = some e) (part : e.part = .restore r) :
    (st.append n q).entry n = some { e with part := .restore { r with passes := r.passes ++ [q] }, checkFault := 0 } := by
  have same : ({ st with freePasses := st.freePasses - 1 } : Store).entry n = some e := entry
  rw [Store.append, Store.entry_update, if_pos rfl, same, Option.map_some, Entry.withPass, part]

theorem Store.entry_append_other (k : Nat) (other : k ≠ n) : (st.append n q).entry k = st.entry k := by
  rw [Store.append, Store.entry_update, if_neg other]
  rfl

theorem Store.append_keeps : (st.append n q).freeList = st.freeList ∧ (st.append n q).buckets = st.buckets
    ∧ (st.append n q).freePasses = st.freePasses - 1 := Store.update_keeps _ n _

theorem Store.stagePass_stored (room : st.makePassRoom.freePasses ≠ 0) :
    st.stagePass (some n) q = some (st.makePassRoom.append n q) := by
  rw [Store.stagePass]
  exact if_neg room

theorem Store.stagePass_full (none : st.makePassRoom.freePasses = 0) : st.stagePass (some n) q = Option.none := by
  rw [Store.stagePass]
  exact if_pos none

end Append

theorem Store.makePassRoom_of_pool (st : Store) (pool : st.freePasses ≠ 0) : st.makePassRoom = st := if_neg pool

theorem Store.makePassRoom_of_none (st : Store) (h : st.lowestReclaimable (fun e => !e.passes.isEmpty) = none) :
    st.makePassRoom = st := by
  rw [Store.makePassRoom, h]
  exact ite_self st

theorem Store.makePassRoom_of_reclaimed (st : Store) (m : Nat) (none : st.freePasses = 0)
    (h : st.lowestReclaimable (fun e => !e.passes.isEmpty) = some m) : st.makePassRoom = st.reclaim m := by
  rw [Store.makePassRoom, if_pos none, h]

/-! ## What the answer comes to -/

/-- R40: a stage-pass answered STAGED. -/
theorem stagePass_effect_stored (s : State) (n : Nat) (q : PassRecord) (st : Store)
    (op : s.arbiter.op = some (.intake (.stagePass (some n) q))) (stored : s.store.stagePass (some n) q = some st) :
    commandEffect .stagePass s.toPart = Part.grant (Part.intakeWork { s.toPart with
      arbiter := s.arbiter.afterAnswer s.intake
      store := st
      intake := s.intake.afterAnswer { s.intake with
        buffer := s.intake.buffer.tail
        staging := s.intake.staging.map fun x => { x with owed := x.owed - 1 } } }) := by
  have effect : commandEffect .stagePass s.toPart = s.toPart.completeStagePass := rfl
  have took : ({ s.toPart with store := st } : Part).tableFree.passStaged =
      { ({ s.toPart with store := st } : Part).tableFree with intake := { s.intake with
        buffer := s.intake.buffer.tail
        staging := s.intake.staging.map fun x => { x with owed := x.owed - 1 } } } := rfl
  have answered := ({ s.toPart with store := st } : Part).intakeAnswered_taken Part.passStaged _ took id rfl
  rw [effect, s.toPart.completeStagePass_of_stored (some n) q st op stored, answered]

/-- R41: a stage-pass answered POOL-FULL. -/
theorem stagePass_effect_full (s : State) (n : Nat) (q : PassRecord)
    (op : s.arbiter.op = some (.intake (.stagePass (some n) q))) (full : s.store.stagePass (some n) q = none) :
    commandEffect .stagePass s.toPart = (s.toPart.tableFree.intakeAnswered fun q => q.refuse .poolFull).grant := by
  have effect : commandEffect .stagePass s.toPart = s.toPart.completeStagePass := rfl
  rw [effect, Part.completeStagePass, op]
  simp only [full]

theorem Entry.movedUp_part (x e : Entry) (r : RestorePart) (h : x.part = .restore r) : (x.movedUp e).part = .restore r := h

/-- Settles O41: the pass appended, with a record of the pool or a reclaimed one, or POOL-FULL. -/
theorem passStaged : Obligations.PassStaged := by
  refine ⟨fun s n q e r op entry part => ⟨fun pool => ?_, fun none nothing => ?_⟩, ?_⟩
  · have room : s.store.makePassRoom = s.store := Store.makePassRoom_of_pool _ (by omega)
    have stored := s.store.stagePass_stored n q (by rw [room]; omega)
    rw [room] at stored
    have effect := stagePass_effect_stored s n q _ op stored
    obtain ⟨freeList, buckets, freePasses⟩ := s.store.append_keeps n q
    refine ⟨_, exec_of_effect _ s _ effect, by dsimp only; rw [Part.answered_store], ?_, fun k other => ?_, ?_, ?_, ?_⟩
    all_goals dsimp only
    all_goals rw [Part.answered_store]
    · exact s.store.entry_append_same n q e r entry part
    · exact s.store.entry_append_other n q k other
    · rw [freePasses]
      exact Nat.sub_add_cancel pool
    · exact freeList
    · exact buckets
  · have picked := s.store.lowestReclaimable_eq_none (fun e => !e.passes.isEmpty) fun x mem reclaimable => by
      simp [nothing x mem reclaimable]
    have full := s.store.stagePass_full n q (by rw [Store.makePassRoom_of_none _ picked, none])
    exact refusal_answered s .stagePass .poolFull (stagePass_effect_full s n q op full)
  · intro s n m q e x r op tableRising bucketsRising none entry staged part found dead unpinned passes lowest
    have other : n ≠ m := by
      rintro rfl
      obtain rfl : e = x := Option.some.inj (entry.symm.trans found)
      exact absurd (staged.symm.trans dead) (by simp)
    have picked : s.store.lowestReclaimable (fun e => !e.passes.isEmpty) = some m := by
      refine Store.lowestReclaimable_eq tableRising _ m x found (x.reclaimable_iff.mpr ⟨dead, unpinned⟩) (by simpa using passes) ?_
      intro k before y at_
      rw [← Bool.not_eq_true, Bool.and_eq_true, y.reclaimable_iff]
      rintro ⟨⟨isDead, isUnpinned⟩, holds⟩
      exact lowest k before y at_ ⟨isDead, isUnpinned, by simpa using holds⟩
    have room := s.store.makePassRoom_of_reclaimed m none picked
    obtain ⟨gone, -, reclaimedFree, reclaimedPasses⟩ := s.store.reclaim_effect m x found tableRising
    rw [none, Nat.zero_add] at reclaimedPasses
    have some_ : 0 < x.passes.length := List.length_pos_iff.mpr passes
    have stored := s.store.stagePass_stored n q (by rw [room]; omega)
    rw [room] at stored
    have effect := stagePass_effect_stored s n q _ op stored
    obtain ⟨freeList, buckets, freePasses⟩ := (s.store.reclaim m).append_keeps n q
    have others (k : Nat) (differs : k ≠ m) := s.store.entry_reclaim_after m x found tableRising k differs
    refine ⟨_, exec_of_effect _ s _ effect, by dsimp only; rw [Part.answered_store], fun stands => ?_, fun stands => ?_,
      ?_, fun k notN notM => ⟨fun stands => ?_, fun stands => ?_⟩, fun b => ?_, ?_, ?_⟩
    all_goals dsimp only
    all_goals rw [Part.answered_store]
    · have moved : (s.store.reclaim m).entry n = some (e.movedUp x) := by rw [(others n other).1 stands, entry]; rfl
      exact (s.store.reclaim m).entry_append_same n q _ r moved part
    · exact (s.store.reclaim m).entry_append_same n q e r (((others n other).2 stands).trans entry) part
    · rw [Store.entry_append_other _ n q m (Ne.symm other)]
      exact gone
    · rw [Store.entry_append_other _ n q k notN]
      exact (others k notM).1 stands
    · rw [Store.entry_append_other _ n q k notN]
      exact (others k notM).2 stands
    · have same : ((s.store.reclaim m).append n q).chain b = (s.store.reclaim m).chain b := by
        rw [Store.chain, Store.chain, buckets]
      rw [same]
      exact s.store.chain_reclaim m x found bucketsRising b
    · exact freeList.trans reclaimedFree
    · rw [freePasses, reclaimedPasses]
      exact Nat.sub_add_cancel some_

end Sys2Proof.Machine

/-! PROOFS. Commits, discards, releases and sweep steps on the table (R4, R8, R12, R14, R15, R153). -/

namespace Sys2Proof.Machine

/-! ## The entries of a commit -/

theorem Entry.killIf_of_not (e : Entry) (c : Bool) (h : e.visible = false ∨ c = false) : e.killIf c = e := by
  rw [Entry.killIf]
  obtain hidden | spared := h
  · simp [hidden]
  · simp [spared]

theorem Entry.killIf_of_visible (e : Entry) (visible : e.visible = true) : e.killIf true = e.become .dead := by
  rw [Entry.killIf, visible]
  rfl

theorem Entry.visible_ne_staged (e : Entry) (h : e.visible = true) : e.state ≠ .staged := by
  intro staged
  simp [Entry.visible, staged] at h

/-- R15: whether a commit retires an entry. -/
def Store.retires (st : Store) (c : CommitPayload) (e : Entry) : Prop :=
  (e.fileTag ≠ c.number ∧
      (c.kind = .full ∨ ∃ m a, st.entry m = some a ∧ a.state = .staged ∧ a.serial = e.serial))
    ∨ .cancel e.serial e.action ∈ c.effects

/-- R15: the state a commit brings an entry to before it retires any. -/
def Entry.committed (e : Entry) : Entry := if e.state = .staged then e.become .live else e

theorem Store.entry_commit_retires (st : Store) (c : CommitPayload) (rising : Sparse.rising st.table) (n : Nat) (e : Entry)
    (entry : st.entry n = some e) :
    ∃ kills : Bool, (kills = true ↔ st.retires c e) ∧ (st.commit c).entry n = some (e.committed.killIf kills) := by
  refine ⟨_, ?_, by rw [Store.entry_commit, entry, Option.map_some]; rfl⟩
  simp only [Store.retires, Bool.or_eq_true, Bool.and_eq_true, List.contains_iff_mem, Store.mem_stagedSerials rising,
    bne_iff_ne, beq_iff_eq, decide_eq_true_eq]
  refine or_congr_left ⟨?_, ?_⟩
  · rintro (⟨staged, other⟩ | ⟨full, other⟩)
    · exact ⟨other, .inr staged⟩
    · exact ⟨other, .inl full⟩
  · rintro ⟨other, full | staged⟩
    · exact .inr ⟨full, other⟩
    · exact .inl ⟨staged, other⟩

theorem Entry.committed_of_staged (e : Entry) (staged : e.state = .staged) : e.committed = e.become .live := if_pos staged

theorem Entry.committed_of_other (e : Entry) (other : e.state ≠ .staged) : e.committed = e := if_neg other

theorem Entry.become_become (e : Entry) (a b : EntryState) : (e.become a).become b = e.become b := rfl

/-- R15: an entry that is not DEAD is LIVE or APPLIED before a commit retires any. -/
theorem Entry.committed_visible (e : Entry) (notDead : e.state ≠ .dead) : e.committed.visible = true := by
  rw [Entry.committed]
  cases state : e.state with
  | dead => exact absurd state notDead
  | staged => rfl
  | _ => simp [Entry.visible, state]

theorem Entry.committed_killed (e : Entry) (notDead : e.state ≠ .dead) : e.committed.killIf true = e.become .dead := by
  rw [Entry.killIf_of_visible _ (e.committed_visible notDead), Entry.committed]
  split <;> rfl

/-- R15: the visible entries of a commit: STAGED and visible ones that are not retired. -/
theorem Store.entry_commit_visible (st : Store) (c : CommitPayload) (rising : Sparse.rising st.table) (n : Nat) (x : Entry)
    (entry : (st.commit c).entry n = some x) (visible : x.visible = true) :
    ∃ e, st.entry n = some e ∧ e.state ≠ .dead ∧ ¬ st.retires c e ∧ x = e.committed := by
  cases before : st.entry n with
  | none =>
    rw [Store.entry_commit, before] at entry
    cases entry
  | some e =>
    obtain ⟨kills, retires, after⟩ := st.entry_commit_retires c rising n e before
    obtain rfl : x = _ := Option.some.inj (entry.symm.trans after)
    have notDead : e.state ≠ .dead := by
      intro dead
      rw [e.committed_of_other (by simp [dead]), e.killIf_of_not kills (.inl (by simp [Entry.visible, dead]))] at visible
      simp [Entry.visible, dead] at visible
    cases kills with
    | true =>
      rw [e.committed_killed notDead] at visible
      exact absurd visible (by simp [Entry.visible, Entry.become])
    | false => exact ⟨e, rfl, notDead, fun retired => by simpa using retires.mpr retired, Entry.killIf_of_not _ _ (.inr rfl)⟩

theorem Entry.committed_serial (e : Entry) : e.committed.serial = e.serial := by
  rw [Entry.committed]
  split <;> rfl

/-- R15: a visible entry that a STAGED one of its serial, of another file, does not retire carries the file's number. -/
theorem Store.tag_of_not_retired (st : Store) (c : CommitPayload) (e a : Entry) (m : Nat) (spared : ¬ st.retires c e)
    (entry : st.entry m = some a) (staged : a.state = .staged) (serial : a.serial = e.serial) : e.fileTag = c.number := by
  by_contra other
  exact spared (.inl ⟨other, .inr ⟨m, a, entry, staged, serial⟩⟩)

theorem Entry.visible_of_not (e : Entry) (notDead : e.state ≠ .dead) (notStaged : e.state ≠ .staged) : e.visible = true := by
  rw [Entry.visible]
  cases state : e.state with
  | dead => exact absurd state notDead
  | staged => exact absurd state notStaged
  | _ => rfl

/-- Settles O43: each entry of the table under a commit, and that at most one of a serial stays visible. -/
theorem commitEntryStates : Obligations.CommitEntryStates := by
  refine ⟨fun st c rising => ⟨fun n none => ?_, fun n e entry => ?_⟩, fun st c rising oneVisible oneStaged tags => ?_⟩
  · rw [Store.entry_commit, none]
    rfl
  · intro killed
    obtain ⟨kills, retires, after⟩ := st.entry_commit_retires c rising n e entry
    have spares (h : ¬ killed) : kills = false := by
      rw [← Bool.not_eq_true, retires]
      exact h
    refine ⟨fun dead => ?_, fun notDead isKilled => ?_, fun staged spared => ?_, fun visible spared => ?_⟩
    · rw [after, e.committed_of_other (by simp [dead]), e.killIf_of_not kills (.inl (by simp [Entry.visible, dead]))]
    · rw [after, retires.mpr isKilled, e.committed_killed notDead]
      rfl
    · rw [after, spares spared, Entry.killIf_of_not _ _ (.inr rfl), e.committed_of_staged staged]
      rfl
    · rw [after, spares spared, Entry.killIf_of_not _ _ (.inr rfl), e.committed_of_other (e.visible_ne_staged visible)]
  · intro m n a b entryA entryB visibleA visibleB serial
    obtain ⟨x, foundX, notDeadX, sparedX, rfl⟩ := st.entry_commit_visible c rising m a entryA visibleA
    obtain ⟨y, foundY, notDeadY, sparedY, rfl⟩ := st.entry_commit_visible c rising n b entryB visibleB
    rw [x.committed_serial, y.committed_serial] at serial
    by_cases stagedX : x.state = .staged
    · by_cases stagedY : y.state = .staged
      · exact oneStaged m n x y foundX foundY (by simpa using stagedX) (by simpa using stagedY) serial
      · exact absurd (st.tag_of_not_retired c y x m sparedY foundX stagedX serial)
          (tags n y foundY (y.visible_of_not notDeadY stagedY))
    · by_cases stagedY : y.state = .staged
      · exact absurd (st.tag_of_not_retired c x y n sparedX foundY stagedY serial.symm)
          (tags m x foundX (x.visible_of_not notDeadX stagedX))
      · exact oneVisible m n x y foundX foundY (x.visible_of_not notDeadX stagedX) (y.visible_of_not notDeadY stagedY) serial

/-! ## Discards and releases -/

theorem Store.entry_discard (st : Store) (n : Nat) (e : Entry) (entry : st.entry n = some e) :
    st.discard.entry n = some (if e.state = .staged then { e with state := .dead, checkFault := 0 } else e) := by
  rw [Store.discard, Store.entry_mapEntries, entry]
  rfl

theorem Store.entry_discard_none (st : Store) (n : Nat) (none : st.entry n = none) : st.discard.entry n = Option.none := by
  rw [Store.discard, Store.entry_mapEntries, none]
  rfl

/-- R14, R41: a discard completes, and intake goes on. -/
theorem discard_effect (s : State) (op : s.arbiter.op = some (.intake .discard)) :
    commandEffect .discard s.toPart = Part.grant (Part.intakeWork { s.toPart with
      arbiter := s.arbiter.afterAnswer s.intake, store := s.store.discard, intake := s.intake.afterAnswer s.intake }) := by
  have effect : commandEffect .discard s.toPart = s.toPart.completeDiscard := rfl
  have answered := ({ s.toPart with store := s.store.discard } : Part).intakeAnswered_taken id s.intake rfl id rfl
  rw [effect, Part.completeDiscard, op]
  simp only [answered]

theorem pinRelease_effect (s : State) (n : Nat) (rest : List Nat) (free : s.arbiter.op = none)
    (releases : s.arbiter.releases = n :: rest) : commandEffect .pinRelease s.toPart = Part.grant { s.toPart with
      arbiter := { s.arbiter with releases := rest }, store := s.store.unpin n } := by
  have effect : commandEffect .pinRelease s.toPart = s.toPart.takeRelease := rfl
  rw [effect, Part.takeRelease, free, releases]

theorem Store.unpin_keeps (st : Store) (n : Nat) : (st.unpin n).freeList = st.freeList ∧ (st.unpin n).buckets = st.buckets
    ∧ (st.unpin n).freePasses = st.freePasses := Store.update_keeps st n _

/-- Settles O46: a discard of the STAGED entries, and a release of an entry reference. -/
theorem discardAndRelease : Obligations.DiscardAndRelease := by
  refine ⟨fun s op => ?_, fun s n rest e free releases entry => ?_⟩
  · refine ⟨_, exec_of_effect _ s _ (discard_effect s op), by dsimp only; rw [Part.answered_store], fun n e entry => ?_,
      fun n none => ?_, ?_, ?_, ?_⟩
    all_goals dsimp only
    all_goals rw [Part.answered_store]
    · exact s.store.entry_discard n e entry
    · exact s.store.entry_discard_none n none
    all_goals rfl
  · obtain ⟨freeList, buckets, freePasses⟩ := s.store.unpin_keeps n
    refine ⟨_, exec_of_effect _ s _ (pinRelease_effect s n rest free releases), by dsimp only; rw [Part.grant_store], ?_,
      fun k other => ?_, ?_, ?_, ?_⟩
    all_goals dsimp only
    all_goals rw [Part.grant_store]
    · rw [Store.unpin, Store.entry_update, if_pos rfl, entry]
      rfl
    · rw [Store.unpin, Store.entry_update, if_neg other]
    · exact freeList
    · exact buckets
    · exact freePasses

/-! ## Sweep steps -/

theorem Entry.retired_iff (e : Entry) (day : Option Nat) (retention : Nat) : e.retired day retention = true ↔
    ∃ d, day = some d ∧ (e.state = .live ∧ e.expiry ≠ 0xFFFF ∧ e.expiry.toNat < d
      ∨ ∃ a, e.state = .applied a ∧ a + retention < d) := by
  rw [Entry.retired.eq_def]
  cases day with
  | none => simp
  | some d => cases e.state <;> simp [expiryPassed_iff]

/-- R153: a sweep step completes: the next claimed, or the sweep at its end. -/
theorem sweepStep_effect (s : State) (w : Sweep) (op : s.arbiter.op = some .sweep) (sweep : s.sweep = some w) :
    commandEffect .sweepStep s.toPart = Part.grant { s.toPart with
      store := s.store.sweepStep w.day w.retention w.next
      arbiter := { s.arbiter with op := none, sweep := if w.next + 1 < 16384 then true else s.arbiter.sweep }
      sweep := if w.next + 1 < 16384 then some { w with next := w.next + 1 } else none } := by
  have effect : commandEffect .sweepStep s.toPart = s.toPart.completeSweepStep := rfl
  have running : s.toPart.tableFree.sweep = some w := sweep
  rw [effect, Part.completeSweepStep, op]
  dsimp only
  rw [Part.sweepEntry, running]
  by_cases more : w.next + 1 < 16384
  · rw [if_pos more, if_pos more]
    exact congrArg Part.grant (if_pos more)
  · rw [if_neg more, if_neg more]
    exact congrArg Part.grant (if_neg more)

section SweepStep

variable (st : Store) (day : Option Nat) (retention n : Nat) (e : Entry) (entry : st.entry n = some e)
include entry

theorem Store.sweepStep_spares (current : e.retired day retention = false) (kept : e.reclaimable = false) :
    st.sweepStep day retention n = st := by
  rw [Store.sweepStep, entry]
  dsimp only
  rw [if_neg (by simp [current]), if_neg (by simp [kept])]

theorem Store.sweepStep_kills (retired : e.retired day retention = true) (pinned : e.pins ≠ 0) :
    st.sweepStep day retention n = st.update n fun x => x.become .dead := by
  rw [Store.sweepStep, entry]
  dsimp only
  rw [if_pos retired, if_neg pinned]

theorem Store.sweepStep_retires (retired : e.retired day retention = true) (unpinned : e.pins = 0) :
    st.sweepStep day retention n = (st.update n fun x => x.become .dead).reclaim n := by
  rw [Store.sweepStep, entry]
  dsimp only
  rw [if_pos retired, if_pos unpinned]

theorem Store.sweepStep_reclaims (current : e.retired day retention = false) (reclaimable : e.reclaimable = true) :
    st.sweepStep day retention n = st.reclaim n := by
  rw [Store.sweepStep, entry]
  dsimp only
  rw [if_neg (by simp [current]), if_pos reclaimable]

end SweepStep

/-- R153: what a sweep step leaves of the table where its entry is FREE at the end. -/
def Store.freed (st after : Store) (n : Nat) (e : Entry) : Prop :=
  after.entry n = none
    ∧ (∀ k, k ≠ n → (st.standsAfter e.serial n k → after.entry k = (st.entry k).map (·.movedUp e))
      ∧ (¬ st.standsAfter e.serial n k → after.entry k = st.entry k))
    ∧ (∀ b, after.chain b = if b = bucketOf e.serial then (st.chain b).erase n else st.chain b)
    ∧ after.freeList = st.freeList ++ [n] ∧ after.freePasses = st.freePasses + e.passes.length

theorem Store.reclaim_frees (st : Store) (n : Nat) (e : Entry) (entry : st.entry n = some e)
    (table : Sparse.rising st.table) (buckets : Sparse.rising st.buckets) : st.freed (st.reclaim n) n e := by
  obtain ⟨gone, -, freeList, freePasses⟩ := st.reclaim_effect n e entry table
  exact ⟨gone, st.entry_reclaim_after n e entry table, st.chain_reclaim n e entry buckets, freeList, freePasses⟩

/-- R153: an entry made DEAD and reclaimed leaves what reclaiming it would. -/
theorem Store.kill_reclaim_frees (st : Store) (n : Nat) (e : Entry) (entry : st.entry n = some e)
    (table : Sparse.rising st.table) (buckets : Sparse.rising st.buckets) :
    st.freed ((st.update n fun x => x.become .dead).reclaim n) n e := by
  obtain ⟨keptFree, keptBuckets, keptPasses⟩ := st.update_keeps n fun x => x.become .dead
  have dead : (st.update n fun x => x.become .dead).entry n = some (e.become .dead) := by
    rw [Store.entry_update, if_pos rfl, entry]
    rfl
  obtain ⟨gone, others, chains, freeList, freePasses⟩ := Store.reclaim_frees _ n (e.become .dead) dead
    (st.update_rising n _ table) (by rw [keptBuckets]; exact buckets)
  have stands (k : Nat) : (st.update n fun x => x.become .dead).standsAfter e.serial n k ↔ st.standsAfter e.serial n k := by
    rw [Store.standsAfter_iff, Store.standsAfter_iff, Store.chain_update]
  refine ⟨gone, fun k other => ?_, fun b => (chains b).trans (by rw [Store.chain_update]; rfl), freeList.trans (by rw [keptFree]),
    freePasses.trans (by rw [keptPasses]; rfl)⟩
  obtain ⟨after, rest⟩ := others k other
  rw [Store.entry_update, if_neg other] at after rest
  exact ⟨fun h => after ((stands k).mpr h), fun h => rest fun h' => h ((stands k).mp h')⟩

/-- Settles O47: the entry of a sweep step spared, made DEAD, or reclaimed. -/
theorem sweepStepTaken : Obligations.SweepStepTaken := by
  intro s w op sweep table buckets
  refine ⟨_, exec_of_effect _ s _ (sweepStep_effect s w op sweep), by dsimp only; rw [Part.grant_store], fun none => ?_,
    fun e entry => ?_⟩
  · dsimp only
    rw [Part.grant_store, Store.sweepStep, none]
  intro retired
  have isRetired : e.retired w.day w.retention = true ↔ retired := e.retired_iff w.day w.retention
  have notRetired (h : ¬ retired) : e.retired w.day w.retention = false := by
    rw [← Bool.not_eq_true, isRetired]
    exact h
  dsimp only
  rw [Part.grant_store]
  refine ⟨fun current kept => ?_, fun dead pinned => ?_, fun freed unpinned => ?_⟩
  · exact s.store.sweepStep_spares w.day w.retention w.next e entry (notRetired current)
      (by rw [← Bool.not_eq_true, e.reclaimable_iff]; exact kept)
  · rw [s.store.sweepStep_kills w.day w.retention w.next e entry (isRetired.mpr dead) pinned]
    refine ⟨?_, fun k other => ?_, ?_⟩
    · rw [Store.entry_update, if_pos rfl, entry]
      rfl
    · rw [Store.entry_update, if_neg other]
    · rw [Store.update, entry]
      rfl
  · by_cases expired : retired
    · rw [s.store.sweepStep_retires w.day w.retention w.next e entry (isRetired.mpr expired) unpinned]
      exact s.store.kill_reclaim_frees w.next e entry table buckets
    · rw [s.store.sweepStep_reclaims w.day w.retention w.next e entry (notRetired expired)
        (e.reclaimable_iff.mpr ⟨freed.resolve_left expired, unpinned⟩)]
      exact s.store.reclaim_frees w.next e entry table buckets

end Sys2Proof.Machine

/-! PROOFS. The setup at a commit (R42, R46, R48): the last record of each kind, the setup applied, the clock, the sweep. -/

namespace Sys2Proof.Machine

/-! ## The last record of a kind -/

/-- The last of a file's effects that `f` reads. -/
def lastOf {α : Type} (f : PendingEffect → Option α) : List PendingEffect → Option α
  | [] => none
  | x :: rest => (lastOf f rest).orElse fun _ => f x

theorem lastOf_eq_none {α : Type} (f : PendingEffect → Option α) (l : List PendingEffect) (none : ∀ x ∈ l, f x = none) :
    lastOf f l = Option.none := by
  induction l with
  | nil => rfl
  | cons x rest ih =>
    obtain ⟨head, tail⟩ := List.forall_mem_cons.mp none
    rw [lastOf, ih tail, head]
    rfl

theorem lastOf_eq_some {α : Type} (f : PendingEffect → Option α) (before after : List PendingEffect) (x : PendingEffect)
    (v : α) (reads : f x = some v) (none : ∀ y ∈ after, f y = none) : lastOf f (before ++ x :: after) = some v := by
  induction before with
  | nil =>
    rw [List.nil_append, lastOf, lastOf_eq_none f after none, reads]
    rfl
  | cons y rest ih =>
    rw [List.cons_append, lastOf, ih]
    rfl

def PendingEffect.asWindows : PendingEffect → Option Windows
  | .windows w => some w
  | _ => none

def PendingEffect.asPolicy : PendingEffect → Option (Policy × Bool)
  | .policy y lock => some (y, lock)
  | _ => none

def PendingEffect.asKeys : PendingEffect → Option (Four JournalKey)
  | .keys k => some k
  | _ => none

def PendingEffect.asClock : PendingEffect → Option (BitVec 32)
  | .clock t => some t
  | _ => none

theorem lastWindows_eq (l : List PendingEffect) : lastWindows l = lastOf PendingEffect.asWindows l := by
  induction l with
  | nil => rfl
  | cons x rest ih =>
    rw [lastOf, ← ih]
    cases x <;> simp [lastWindows, PendingEffect.asWindows]

theorem lastPolicy_eq (l : List PendingEffect) : lastPolicy l = lastOf PendingEffect.asPolicy l := by
  induction l with
  | nil => rfl
  | cons x rest ih =>
    rw [lastOf, ← ih]
    cases x <;> simp [lastPolicy, PendingEffect.asPolicy]

theorem lastKeys_eq (l : List PendingEffect) : lastKeys l = lastOf PendingEffect.asKeys l := by
  induction l with
  | nil => rfl
  | cons x rest ih =>
    rw [lastOf, ← ih]
    cases x <;> simp [lastKeys, PendingEffect.asKeys]

theorem lastClock_eq (l : List PendingEffect) : lastClock l = lastOf PendingEffect.asClock l := by
  induction l with
  | nil => rfl
  | cons x rest ih =>
    rw [lastOf, ← ih]
    cases x <;> simp [lastClock, PendingEffect.asClock]

theorem asWindows_eq_none {l : List PendingEffect} (h : ∀ w, .windows w ∉ l) (x : PendingEffect) (mem : x ∈ l) :
    x.asWindows = none := by
  cases x with
  | windows w => exact absurd mem (h w)
  | _ => rfl

theorem asPolicy_eq_none {l : List PendingEffect} (h : ∀ y lock, .policy y lock ∉ l) (x : PendingEffect) (mem : x ∈ l) :
    x.asPolicy = none := by
  cases x with
  | policy y lock => exact absurd mem (h y lock)
  | _ => rfl

theorem asKeys_eq_none {l : List PendingEffect} (h : ∀ k, .keys k ∉ l) (x : PendingEffect) (mem : x ∈ l) :
    x.asKeys = none := by
  cases x with
  | keys k => exact absurd mem (h k)
  | _ => rfl

theorem asClock_eq_none {l : List PendingEffect} (h : ∀ t, .clock t ∉ l) (x : PendingEffect) (mem : x ∈ l) :
    x.asClock = none := by
  cases x with
  | clock t => exact absurd mem (h t)
  | _ => rfl

/-! ## The setup applied -/

section Applied

variable (y : Setup) (before after effects : List PendingEffect)

theorem Setup.applied_windows (w : Windows) (last : ∀ x, .windows x ∉ after) :
    (y.applied (before ++ .windows w :: after)).windows = w := by
  rw [Setup.applied, lastWindows_eq, lastOf_eq_some _ before after _ w rfl (asWindows_eq_none last)]
  rfl

theorem Setup.applied_windows_none (none : ∀ x, .windows x ∉ effects) : (y.applied effects).windows = y.windows := by
  rw [Setup.applied, lastWindows_eq, lastOf_eq_none _ effects (asWindows_eq_none none)]
  rfl

theorem Setup.applied_policy (p : Policy) (lock : Bool) (last : ∀ x l, .policy x l ∉ after) :
    (y.applied (before ++ .policy p lock :: after)).policy = p ∧ asksLock (before ++ .policy p lock :: after) = lock := by
  rw [Setup.applied, asksLock, lastPolicy_eq, lastOf_eq_some _ before after _ (p, lock) rfl (asPolicy_eq_none last)]
  exact ⟨rfl, rfl⟩

theorem Setup.applied_policy_none (none : ∀ x l, .policy x l ∉ effects) :
    (y.applied effects).policy = y.policy ∧ asksLock effects = false := by
  rw [Setup.applied, asksLock, lastPolicy_eq, lastOf_eq_none _ effects (asPolicy_eq_none none)]
  exact ⟨rfl, rfl⟩

theorem Setup.applied_keys (k : Four JournalKey) (last : ∀ x, .keys x ∉ after) :
    (y.applied (before ++ .keys k :: after)).keys = k := by
  rw [Setup.applied, lastKeys_eq, lastOf_eq_some _ before after _ k rfl (asKeys_eq_none last)]
  rfl

theorem Setup.applied_keys_none (none : ∀ x, .keys x ∉ effects) : (y.applied effects).keys = y.keys := by
  rw [Setup.applied, lastKeys_eq, lastOf_eq_none _ effects (asKeys_eq_none none)]
  rfl

/-- R48: a file with no setup record asks for nothing. -/
theorem Setup.applied_of_noSetup (none : ∀ x ∈ effects, x.isSetup = false) :
    y.applied effects = y ∧ asksLock effects = false := by
  have windows : ∀ w, .windows w ∉ effects := fun w mem => absurd (none _ mem) (by simp [PendingEffect.isSetup])
  have policy : ∀ p lock, .policy p lock ∉ effects := fun p lock mem => absurd (none _ mem) (by simp [PendingEffect.isSetup])
  have keys : ∀ k, .keys k ∉ effects := fun k mem => absurd (none _ mem) (by simp [PendingEffect.isSetup])
  obtain ⟨samePolicy, unlocked⟩ := y.applied_policy_none effects policy
  have sameWindows := y.applied_windows_none effects windows
  have sameKeys := y.applied_keys_none effects keys
  refine ⟨?_, unlocked⟩
  obtain ⟨w, p, k⟩ := y
  rw [Setup.applied] at *
  exact congr (congr (congrArg Setup.mk sameWindows) samePolicy) sameKeys

end Applied

theorem Part.applySetup_of_noSetup (p : Part) (effects : List PendingEffect) (none : ∀ x ∈ effects, x.isSetup = false) :
    p.applySetup effects = p := by
  have any : effects.any (·.isSetup) = false := List.any_eq_false.mpr fun x mem => by simp [none x mem]
  rw [Part.applySetup, any]
  rfl

theorem Part.applySetup_of_locked (p : Part) (effects : List PendingEffect) (some : ∃ x ∈ effects, x.isSetup = true)
    (locked : p.locked = true) : p.applySetup effects = { p with setupIgnored := true } := by
  rw [Part.applySetup, if_pos (List.any_eq_true.mpr some), if_pos locked]

theorem Part.applySetup_of_unlocked (p : Part) (effects : List PendingEffect) (some : ∃ x ∈ effects, x.isSetup = true)
    (unlocked : p.locked = false) : p.applySetup effects =
      ({ p with setup := p.setup.applied effects, locked := asksLock effects, setupFault := 0 } : Part).followSetup p.setup := by
  rw [Part.applySetup, if_pos (List.any_eq_true.mpr some), if_neg (by simp [unlocked])]

theorem exists_isSetup_of_not (effects : List PendingEffect) (h : ¬ ∀ x ∈ effects, x.isSetup = false) :
    ∃ x ∈ effects, x.isSetup = true := by
  push Not at h
  simpa using h

/-- R48: the setup, its lock and the setup-ignored flag once the setup records have been applied or ignored. -/
theorem Part.applySetup_setup (p : Part) (effects : List PendingEffect) :
    ((∀ x ∈ effects, x.isSetup = false) → (p.applySetup effects).setup = p.setup
        ∧ (p.applySetup effects).locked = p.locked ∧ (p.applySetup effects).setupIgnored = p.setupIgnored)
      ∧ ((∃ x ∈ effects, x.isSetup = true) → p.locked = true → (p.applySetup effects).setup = p.setup
        ∧ (p.applySetup effects).locked = true ∧ (p.applySetup effects).setupIgnored = true)
      ∧ (p.locked = false → (p.applySetup effects).setup = p.setup.applied effects
        ∧ (p.applySetup effects).locked = asksLock effects ∧ (p.applySetup effects).setupIgnored = p.setupIgnored) := by
  refine ⟨fun none => ?_, fun some locked => ?_, fun unlocked => ?_⟩
  · rw [p.applySetup_of_noSetup effects none]
    exact ⟨rfl, rfl, rfl⟩
  · rw [p.applySetup_of_locked effects some locked]
    exact ⟨rfl, locked, rfl⟩
  · by_cases none : ∀ x ∈ effects, x.isSetup = false
    · obtain ⟨same, asks⟩ := p.setup.applied_of_noSetup effects none
      rw [p.applySetup_of_noSetup effects none, same, asks]
      exact ⟨rfl, unlocked, rfl⟩
    · rw [p.applySetup_of_unlocked effects (exists_isSetup_of_not effects none) unlocked]
      simp

/-! ## The commit's completion -/

/-- R46: intake once the file in hand has ended committed. -/
def Intake.fileEnded (i : Intake) : Intake :=
  { i with state := .idle, cursor := .closed, staging := none, buffer := i.buffer.tail, trailerBuffered := false }

/-- R46: the part once a commit has completed, before intake goes on. -/
def Part.committed (p : Part) (c : CommitPayload) : Part :=
  { p.tableFree.commitEffects c with
    arbiter := (p.tableFree.commitEffects c).arbiter.afterAnswer p.intake
    intake := p.intake.afterAnswer p.intake.fileEnded }

theorem commit_effect (s : State) (c : CommitPayload) (op : s.arbiter.op = some (.intake (.commit c)))
    (free : (s.toPart.tableFree.commitEffects c).arbiter.op = none) :
    commandEffect .commit s.toPart = (s.toPart.committed c).intakeWork.grant := by
  have effect : commandEffect .commit s.toPart = s.toPart.completeCommit := rfl
  have intake : (s.toPart.tableFree.commitEffects c).intake = s.intake := by simp [Part.tableFree]
  have answered := (s.toPart.tableFree.commitEffects c).intakeAnswered_eq Part.fileCommitted s.intake.fileEnded
    (by rw [← intake]; rfl) (by rw [intake]; exact id) (by rw [intake]; rfl) free
  rw [intake] at answered
  rw [effect, Part.completeCommit, op]
  simp only [answered]
  rfl

end Sys2Proof.Machine

/-! PROOFS. Contexts given up one after another (R49, R69, R75, R185): what a list of resets leaves in each field. -/

namespace Sys2Proof.Machine

/-! ## One context given up -/

/-- R69: the presentation a context holds. -/
def Context.inHand : Context → Option Presentation
  | .amended pr => some pr
  | .settled pr => some pr
  | _ => none

/-- A context that waits for a lookup. -/
def Context.waits : Context → Bool
  | .lookup _ _ => true
  | _ => false

theorem Part.dropPresentation_fields (p : Part) (n : Fin 4) (pr : Presentation) : p.dropPresentation n pr = { p with
    arbiter := if p.arbiter.op = none then p.arbiter
      else { p.arbiter with releases := p.arbiter.releases ++ [pr.entry] }
    store := if p.arbiter.op = none then p.store.unpin pr.entry else p.store
    queue := { p.queue with checkFault := 0, outcomes := p.queue.outcomes.filter fun o => !o.heldBy n }
    counters := if pr.countsUnconfirmed then p.counters.unconfirmedOne else p.counters
    path := { p.path with
      settleWrite := p.path.settleWrite.map fun w => { w with owned := w.owned && w.context != n } } } := by
  rw [Part.dropPresentation]
  dsimp only
  rw [Part.releasePin_eq]
  cases pr.countsUnconfirmed <;> rfl

/-- R69, R71: a context is given up in one of three ways. -/
theorem Part.abandon_cases (p : Part) (n : Fin 4) :
    ((p.context n).waits = false ∧ (p.context n).inHand = none ∧ p.abandon n = p.withContext n .empty)
      ∨ ((p.context n).waits = true ∧ (p.context n).inHand = none
        ∧ p.abandon n = (p.withdrawLookup n).withContext n .empty)
      ∨ ∃ pr, (p.context n).waits = false ∧ (p.context n).inHand = some pr
        ∧ p.abandon n = (p.dropPresentation n pr).withContext n .empty := by
  rw [Part.abandon]
  cases p.context n with
  | empty => exact .inl ⟨rfl, rfl, rfl⟩
  | filling copy => exact .inl ⟨rfl, rfl, rfl⟩
  | lookup snapshot written => exact .inr (.inl ⟨rfl, rfl, rfl⟩)
  | amended pr => exact .inr (.inr ⟨pr, rfl, rfl, rfl⟩)
  | settled pr => exact .inr (.inr ⟨pr, rfl, rfl, rfl⟩)

/-- The fields that giving up a context can change. -/
theorem Part.abandon_frame (p : Part) (n : Fin 4) : p.abandon n = { p with
    contexts := fourWith p.contexts n .empty, arbiter := (p.abandon n).arbiter, store := (p.abandon n).store
    queue := (p.abandon n).queue, counters := (p.abandon n).counters, path := (p.abandon n).path } := by
  obtain ⟨-, -, given⟩ | ⟨-, -, given⟩ | ⟨pr, -, -, given⟩ := p.abandon_cases n
  · rw [given]
    rfl
  · rw [given]
    rfl
  · rw [given, p.dropPresentation_fields n pr]
    rfl

theorem Part.abandon_lookups (p : Part) (n : Fin 4) : (p.abandon n).arbiter.lookups =
    p.arbiter.lookups.filter fun c => !(c.1 == n && (p.context n).waits) := by
  obtain ⟨waits, -, given⟩ | ⟨waits, -, given⟩ | ⟨pr, waits, -, given⟩ := p.abandon_cases n
  · rw [given, waits]
    simp [Part.withContext]
  · rw [given, waits]
    simp [Part.withContext, Part.withdrawLookup, bne]
  · rw [given, p.dropPresentation_fields n pr, waits]
    by_cases free : p.arbiter.op = none <;> simp [Part.withContext, free]

/-- R18: an operation once the lookups of the contexts that `gone` picks are given up. -/
def Operation.without (op : Operation) (gone : Fin 4 → Bool) : Operation :=
  match op with
  | .lookup m serial wanted => .lookup m serial (wanted && !gone m)
  | x => x

theorem Operation.without_none (op : Operation) : op.without (fun _ => false) = op := by
  cases op <;> simp [Operation.without]

theorem Operation.without_one (op : Operation) (n : Fin 4) : op.without (· == n) = op.unwanted n := by
  cases op <;> rfl

theorem Operation.without_without (op : Operation) (f g : Fin 4 → Bool) :
    (op.without f).without g = op.without fun n => f n || g n := by
  cases op <;> simp [Operation.without, Bool.and_assoc]

theorem Part.abandon_op (p : Part) (n : Fin 4) :
    (p.abandon n).arbiter.op = p.arbiter.op.map (·.without fun m => m == n && (p.context n).waits) := by
  obtain ⟨waits, -, given⟩ | ⟨waits, -, given⟩ | ⟨pr, waits, -, given⟩ := p.abandon_cases n
  · rw [given, waits]
    simp [Part.withContext, Operation.without_none]
  · rw [given, waits]
    simp [Part.withContext, Part.withdrawLookup, Operation.without_one]
  · rw [given, p.dropPresentation_fields n pr, waits]
    by_cases free : p.arbiter.op = none <;> simp [Part.withContext, Operation.without_none, free]

theorem Part.abandon_releases (p : Part) (n : Fin 4) : (p.abandon n).arbiter.releases =
    if p.arbiter.op = none then p.arbiter.releases
    else p.arbiter.releases ++ ((p.context n).inHand.map (·.entry)).toList := by
  obtain ⟨-, hand, given⟩ | ⟨-, hand, given⟩ | ⟨pr, -, hand, given⟩ := p.abandon_cases n
  · rw [given, hand]
    simp [Part.withContext]
  · rw [given, hand]
    simp [Part.withContext, Part.withdrawLookup]
  · rw [given, p.dropPresentation_fields n pr, hand]
    by_cases free : p.arbiter.op = none <;> simp [Part.withContext, free]

theorem Part.abandon_claims_rest (p : Part) (n : Fin 4) : (p.abandon n).arbiter.marks = p.arbiter.marks
    ∧ (p.abandon n).arbiter.intake = p.arbiter.intake ∧ (p.abandon n).arbiter.sweep = p.arbiter.sweep := by
  obtain ⟨-, -, given⟩ | ⟨-, -, given⟩ | ⟨pr, -, -, given⟩ := p.abandon_cases n
  · rw [given]
    exact ⟨rfl, rfl, rfl⟩
  · rw [given]
    exact ⟨rfl, rfl, rfl⟩
  · rw [given, p.dropPresentation_fields n pr]
    by_cases free : p.arbiter.op = none <;> simp [Part.withContext, free]

theorem Store.update_frame (st : Store) (n : Nat) (f : Entry → Entry) :
    st.update n f = { st with table := (st.update n f).table } := by
  rw [Store.update]
  split <;> rfl

theorem Part.abandon_store (p : Part) (n : Fin 4) : (p.abandon n).store = { p.store with table := (p.abandon n).store.table } := by
  obtain ⟨-, -, given⟩ | ⟨-, -, given⟩ | ⟨pr, -, -, given⟩ := p.abandon_cases n
  · rw [given]
    rfl
  · rw [given]
    rfl
  · rw [given, p.dropPresentation_fields n pr]
    by_cases free : p.arbiter.op = none
    · simp only [Part.withContext, if_pos free]
      exact p.store.update_frame pr.entry _
    · simp [Part.withContext, free]

theorem Part.abandon_store_busy (p : Part) (n : Fin 4) (busy : p.arbiter.op ≠ none) : (p.abandon n).store = p.store := by
  obtain ⟨-, -, given⟩ | ⟨-, -, given⟩ | ⟨pr, -, -, given⟩ := p.abandon_cases n
  · rw [given]
    rfl
  · rw [given]
    rfl
  · rw [given, p.dropPresentation_fields n pr]
    simp [Part.withContext, busy]

/-- R12: the pins that a context given up releases on entry `k`. -/
def Context.pinsOn (c : Context) (k : Nat) : Nat := if c.inHand.any (·.entry == k) then 1 else 0

theorem Part.abandon_entry (p : Part) (n : Fin 4) (free : p.arbiter.op = none) (k : Nat) : (p.abandon n).store.entry k =
    (p.store.entry k).map fun e => { e with pins := e.pins - (p.context n).pinsOn k } := by
  obtain ⟨-, hand, given⟩ | ⟨-, hand, given⟩ | ⟨pr, -, hand, given⟩ := p.abandon_cases n
  · rw [given, Context.pinsOn, hand]
    simp [Part.withContext]
  · rw [given, Context.pinsOn, hand]
    simp [Part.withContext, Part.withdrawLookup]
  · rw [given, p.dropPresentation_fields n pr, Context.pinsOn, hand]
    by_cases same : k = pr.entry
    · simp [Part.withContext, free, Store.unpin, Store.entry_update, same]
    · simp [Part.withContext, free, Store.unpin, Store.entry_update, same, Ne.symm same]

theorem Part.abandon_outcomes (p : Part) (n : Fin 4) : (p.abandon n).queue.outcomes =
    p.queue.outcomes.filter fun o => !(o.heldBy n && (p.context n).inHand.isSome) := by
  obtain ⟨-, hand, given⟩ | ⟨-, hand, given⟩ | ⟨pr, -, hand, given⟩ := p.abandon_cases n
  · rw [given, hand]
    simp [Part.withContext]
  · rw [given, hand]
    simp [Part.withContext, Part.withdrawLookup]
  · rw [given, p.dropPresentation_fields n pr, hand]
    simp [Part.withContext]

theorem Part.abandon_queue (p : Part) (n : Fin 4) :
    (p.abandon n).queue.nextSequence = p.queue.nextSequence ∧ (p.abandon n).queue.ordinal = p.queue.ordinal
      ∧ (p.queue.checkFault = 0 → (p.abandon n).queue.checkFault = 0) := by
  obtain ⟨-, hand, given⟩ | ⟨-, hand, given⟩ | ⟨pr, -, hand, given⟩ := p.abandon_cases n
  · rw [given]
    exact ⟨rfl, rfl, id⟩
  · rw [given]
    exact ⟨rfl, rfl, id⟩
  · rw [given, p.dropPresentation_fields n pr]
    exact ⟨rfl, rfl, fun _ => rfl⟩

/-- R69: whether a context given up counts as unconfirmed. -/
def Context.unconfirmed (c : Context) : Bool := c.inHand.any (·.countsUnconfirmed)

theorem Part.abandon_counters (p : Part) (n : Fin 4) : (p.abandon n).counters = { p.counters with
    unconfirmed := raised^[if (p.context n).unconfirmed then 1 else 0] p.counters.unconfirmed } := by
  obtain ⟨-, hand, given⟩ | ⟨-, hand, given⟩ | ⟨pr, -, hand, given⟩ := p.abandon_cases n
  · rw [given, Context.unconfirmed, hand]
    rfl
  · rw [given, Context.unconfirmed, hand]
    rfl
  · rw [given, p.dropPresentation_fields n pr, Context.unconfirmed, hand]
    cases counts : pr.countsUnconfirmed <;> simp [Part.withContext, counts, Counters.unconfirmedOne]

/-- R69: the settle write on the M-port once the presentations of the contexts that `gone` picks are given up. -/
def SettleWrite.disowned (x : SettleWrite) (gone : Fin 4 → Bool) : SettleWrite :=
  { x with owned := x.owned && !gone x.context }

theorem SettleWrite.disowned_none (x : SettleWrite) : x.disowned (fun _ => false) = x := by
  simp [SettleWrite.disowned]

theorem SettleWrite.disowned_disowned (x : SettleWrite) (f g : Fin 4 → Bool) :
    (x.disowned f).disowned g = x.disowned fun n => f n || g n := by
  simp [SettleWrite.disowned, Bool.and_assoc]

theorem Part.abandon_path (p : Part) (n : Fin 4) : (p.abandon n).path = { p.path with
    settleWrite := p.path.settleWrite.map (·.disowned fun m => m == n && (p.context n).inHand.isSome) } := by
  obtain ⟨-, hand, given⟩ | ⟨-, hand, given⟩ | ⟨pr, -, hand, given⟩ := p.abandon_cases n
  · rw [given, hand]
    simp [Part.withContext, SettleWrite.disowned]
  · rw [given, hand]
    simp [Part.withContext, Part.withdrawLookup, SettleWrite.disowned]
  · rw [given, p.dropPresentation_fields n pr, hand]
    simp [Part.withContext, SettleWrite.disowned, bne]

/-! ## A context reset -/

/-- R75: a read held for context `n` on the P-port. -/
def MemoryPath.holdsFor (m : MemoryPath) (n : Fin 4) : Prop := ∃ w l, m.cycle = some ⟨w, .context n, .read l .hold⟩

/-- R162: what memory puts on P_D for a read. -/
def Part.readBytes (p : Part) (w : BitVec 23) (l : Lanes) : LaneBytes :=
  ⟨if l.upper then some (p.memoryByte (2 * w.toNat)) else none,
    if l.lower then some (p.memoryByte (2 * w.toNat + 1)) else none⟩

theorem Part.answerHeldRead_of_notHeld (p : Part) (n : Fin 4) (h : ¬ p.path.holdsFor n) : p.answerHeldRead n = p := by
  rw [Part.answerHeldRead]
  split
  next w m l cycle =>
    refine if_neg fun same => h ⟨w, l, ?_⟩
    rw [cycle, same]
  next => rfl

theorem Part.abandon_context (p : Part) (n m : Fin 4) : (p.abandon n).context m = if m = n then .empty else p.context m := by
  rw [p.abandon_frame n]
  exact fourAt_fourWith p.contexts n m .empty

theorem Part.abandon_cycle_eq (p : Part) (n : Fin 4) : (p.abandon n).path.cycle = p.path.cycle := by
  rw [p.abandon_path n]

theorem Part.abandon_readBytes (p : Part) (n : Fin 4) (w : BitVec 23) (l : Lanes) :
    (p.abandon n).readBytes w l = p.readBytes w l := by
  rw [p.abandon_frame n]
  rfl

/-- R77: a context reset with no read held for it. -/
theorem Part.resetContext_of_notHeld (p : Part) (n : Fin 4) (h : ¬ p.path.holdsFor n) : p.resetContext n = p.abandon n := by
  refine (p.abandon n).answerHeldRead_of_notHeld n ?_
  rintro ⟨w, l, cycle⟩
  exact h ⟨w, l, by rw [← cycle, p.abandon_cycle_eq]⟩

/-- R77: a context reset with a read held for it: the read goes to memory. -/
theorem Part.resetContext_of_held (p : Part) (n : Fin 4) (w : BitVec 23) (l : Lanes)
    (held : p.path.cycle = some ⟨w, .context n, .read l .hold⟩) : p.resetContext n = { p.abandon n with
      path := (p.abandon n).path.carrying ⟨w, .context n, .read l .pass⟩ none (p.readBytes w l) } := by
  have empty : ((p.abandon n).context n) = .empty := by rw [p.abandon_context, if_pos rfl]
  rw [Part.resetContext, (p.abandon n).answerHeldRead_of_held n n w l (by rw [p.abandon_cycle_eq, held]), if_pos rfl,
    empty, Context.readAnswer, Part.carryRead_eq_withPath, Part.carryRead_pass_path, ← p.abandon_readBytes n]
  rfl

theorem Part.resetContext_eq (p : Part) (n : Fin 4) :
    p.resetContext n = { p.abandon n with path := (p.resetContext n).path } := by
  by_cases held : p.path.holdsFor n
  · obtain ⟨w, l, cycle⟩ := held
    rw [p.resetContext_of_held n w l cycle]
  · rw [p.resetContext_of_notHeld n held]

/-! ## A list of contexts reset -/

/-- R77: the contexts of a list reset, in order. -/
def Part.giveUp (p : Part) (l : List (Fin 4)) : Part := l.foldl Part.resetContext p

/-- The fields that giving up contexts can change. -/
def Part.onlyGivenUp (p q : Part) : Prop := q = { p with
  contexts := q.contexts, arbiter := q.arbiter, store := q.store, queue := q.queue, counters := q.counters, path := q.path }

theorem Part.onlyGivenUp.trans {p q r : Part} (first : p.onlyGivenUp q) (second : q.onlyGivenUp r) : p.onlyGivenUp r := by
  rw [Part.onlyGivenUp, first] at second
  exact second

section GivenUp

variable (p : Part) (l : List (Fin 4))

theorem Part.resetContext_frame (n : Fin 4) : p.onlyGivenUp (p.resetContext n) := by
  rw [p.resetContext_eq n, p.abandon_frame n]
  rfl

theorem Part.giveUp_cons (n : Fin 4) : p.giveUp (n :: l) = (p.resetContext n).giveUp l := rfl

theorem Part.giveUp_frame : p.onlyGivenUp (p.giveUp l) := by
  induction l generalizing p with
  | nil => rfl
  | cons n rest ih => exact (p.resetContext_frame n).trans (ih (p.resetContext n))

theorem Part.resetContext_context (n m : Fin 4) : (p.resetContext n).context m = if m = n then .empty else p.context m := by
  rw [p.resetContext_eq n]
  exact p.abandon_context n m

theorem Part.giveUp_context (m : Fin 4) : (p.giveUp l).context m = if m ∈ l then .empty else p.context m := by
  induction l generalizing p with
  | nil => rfl
  | cons n rest ih =>
    rw [Part.giveUp_cons, ih (p.resetContext n), p.resetContext_context]
    by_cases head : m = n <;> by_cases tail : m ∈ rest <;> simp [head, tail]

theorem Part.resetContext_arbiter (n : Fin 4) : (p.resetContext n).arbiter = (p.abandon n).arbiter := by
  rw [p.resetContext_eq n]

theorem Part.giveUp_lookups : (p.giveUp l).arbiter.lookups =
    p.arbiter.lookups.filter fun c => !(l.contains c.1 && (p.context c.1).waits) := by
  induction l generalizing p with
  | nil => simp [Part.giveUp]
  | cons n rest ih =>
    rw [Part.giveUp_cons, ih (p.resetContext n), p.resetContext_arbiter, p.abandon_lookups, List.filter_filter]
    refine List.filter_congr fun c _ => ?_
    rw [p.resetContext_context]
    by_cases same : c.1 = n
    · simp [same, Context.waits]
    · simp [same]

theorem Part.giveUp_op : (p.giveUp l).arbiter.op =
    p.arbiter.op.map (·.without fun m => l.contains m && (p.context m).waits) := by
  induction l generalizing p with
  | nil => simp [Part.giveUp, Operation.without_none]
  | cons n rest ih =>
    rw [Part.giveUp_cons, ih (p.resetContext n), p.resetContext_arbiter, p.abandon_op, Option.map_map]
    congr 1
    funext op
    rw [Function.comp_apply, Operation.without_without]
    congr 1
    funext m
    rw [p.resetContext_context]
    by_cases same : m = n
    · simp [same, Context.waits]
    · simp [same]

theorem Part.giveUp_op_isNone : (p.giveUp l).arbiter.op = none ↔ p.arbiter.op = none := by
  rw [p.giveUp_op, Option.map_eq_none_iff]

theorem Part.resetContext_op_isNone (n : Fin 4) : (p.resetContext n).arbiter.op = none ↔ p.arbiter.op = none := by
  rw [p.resetContext_arbiter, p.abandon_op, Option.map_eq_none_iff]

theorem Part.giveUp_claims_rest : (p.giveUp l).arbiter.marks = p.arbiter.marks
    ∧ (p.giveUp l).arbiter.intake = p.arbiter.intake ∧ (p.giveUp l).arbiter.sweep = p.arbiter.sweep := by
  induction l generalizing p with
  | nil => exact ⟨rfl, rfl, rfl⟩
  | cons n rest ih =>
    obtain ⟨marks, intake, sweep⟩ := ih (p.resetContext n)
    obtain ⟨marks', intake', sweep'⟩ := p.abandon_claims_rest n
    rw [p.resetContext_arbiter n] at marks intake sweep
    exact ⟨marks.trans marks', intake.trans intake', sweep.trans sweep'⟩

/-- R12: the entries that the contexts of a list name. -/
def Part.named : List Nat := l.filterMap fun n => (p.context n).inHand.map (·.entry)

theorem Part.resetContext_context_of_fresh (n m : Fin 4) (fresh : n ∉ l) (mem : m ∈ l) :
    (p.resetContext n).context m = p.context m := by
  rw [p.resetContext_context, if_neg]
  rintro rfl
  exact fresh mem

theorem Part.giveUp_releases (distinct : l.Nodup) : (p.giveUp l).arbiter.releases =
    if p.arbiter.op = none then p.arbiter.releases else p.arbiter.releases ++ p.named l := by
  induction l generalizing p with
  | nil => simp [Part.giveUp, Part.named]
  | cons n rest ih =>
    obtain ⟨fresh, distinct⟩ := List.nodup_cons.mp distinct
    have names : (p.resetContext n).named rest = p.named rest := List.filterMap_congr fun m mem => by
      rw [p.resetContext_context_of_fresh rest n m fresh mem]
    have first : p.named (n :: rest) = ((p.context n).inHand.map (·.entry)).toList ++ p.named rest := by
      rw [Part.named, Part.named, List.filterMap_cons]
      cases (p.context n).inHand <;> rfl
    rw [Part.giveUp_cons, ih (p.resetContext n) distinct, names, p.resetContext_arbiter, p.abandon_releases, first]
    simp only [p.abandon_op, Option.map_eq_none_iff]
    by_cases free : p.arbiter.op = none
    · simp only [if_pos free]
    · simp only [if_neg free, List.append_assoc]

theorem Part.resetContext_store (n : Fin 4) : (p.resetContext n).store = (p.abandon n).store := by
  rw [p.resetContext_eq n]

theorem Part.giveUp_store_busy (busy : p.arbiter.op ≠ none) : (p.giveUp l).store = p.store := by
  induction l generalizing p with
  | nil => rfl
  | cons n rest ih =>
    have still := mt (p.resetContext_op_isNone n).mp busy
    rw [Part.giveUp_cons, ih _ still, p.resetContext_store, p.abandon_store_busy n busy]

theorem Part.giveUp_store : (p.giveUp l).store = { p.store with table := (p.giveUp l).store.table } := by
  induction l generalizing p with
  | nil => rfl
  | cons n rest ih =>
    have first := p.abandon_store n
    rw [← p.resetContext_store n] at first
    have second := ih (p.resetContext n)
    rw [first] at second
    exact second

theorem countP_resetContext (f : Context → Bool) (n : Fin 4) (fresh : n ∉ l) :
    (l.countP fun m => f ((p.resetContext n).context m)) = l.countP fun m => f (p.context m) :=
  List.countP_congr fun m mem => by rw [p.resetContext_context_of_fresh l n m fresh mem]

theorem Part.giveUp_entry (distinct : l.Nodup) (free : p.arbiter.op = none) (k : Nat) : (p.giveUp l).store.entry k =
    (p.store.entry k).map fun e =>
      { e with pins := e.pins - l.countP fun n => (p.context n).inHand.any (·.entry == k) } := by
  induction l generalizing p with
  | nil => simp [Part.giveUp]
  | cons n rest ih =>
    obtain ⟨fresh, distinct⟩ := List.nodup_cons.mp distinct
    rw [Part.giveUp_cons, ih _ distinct ((p.resetContext_op_isNone n).mpr free),
      countP_resetContext p rest (fun c => c.inHand.any (·.entry == k)) n fresh, p.resetContext_store,
      p.abandon_entry n free, Option.map_map, List.countP_cons, Context.pinsOn]
    congr 1
    funext e
    rw [Function.comp_apply, Nat.sub_sub, Nat.add_comm]

theorem Part.giveUp_outcomes : (p.giveUp l).queue.outcomes =
    p.queue.outcomes.filter fun o => !(l.any fun n => o.heldBy n && (p.context n).inHand.isSome) := by
  induction l generalizing p with
  | nil => simp [Part.giveUp]
  | cons n rest ih =>
    have queue : (p.resetContext n).queue = (p.abandon n).queue := by rw [p.resetContext_eq n]
    rw [Part.giveUp_cons, ih (p.resetContext n), queue, p.abandon_outcomes, List.filter_filter]
    refine List.filter_congr fun o _ => ?_
    rw [List.any_cons]
    cases held : o.heldBy n && (p.context n).inHand.isSome with
    | true => simp
    | false =>
      have others : (rest.any fun m => o.heldBy m && ((p.resetContext n).context m).inHand.isSome)
          = rest.any fun m => o.heldBy m && (p.context m).inHand.isSome := by
        refine List.any_congr rfl fun m => ?_
        rw [p.resetContext_context]
        by_cases same : m = n
        · rw [if_pos same, same, held]
          simp [Context.inHand]
        · rw [if_neg same]
      simp [others]

theorem Part.giveUp_queue : (p.giveUp l).queue.nextSequence = p.queue.nextSequence
    ∧ (p.giveUp l).queue.ordinal = p.queue.ordinal
    ∧ (p.queue.checkFault = 0 → (p.giveUp l).queue.checkFault = 0) := by
  induction l generalizing p with
  | nil => exact ⟨rfl, rfl, id⟩
  | cons n rest ih =>
    obtain ⟨next, ordinal, fault⟩ := p.abandon_queue n
    obtain ⟨next', ordinal', fault'⟩ := ih (p.resetContext n)
    have queue : (p.resetContext n).queue = (p.abandon n).queue := by rw [p.resetContext_eq n]
    rw [queue] at next' ordinal' fault'
    exact ⟨next'.trans next, ordinal'.trans ordinal, fun none => fault' (fault none)⟩

theorem Part.giveUp_counters (distinct : l.Nodup) : (p.giveUp l).counters = { p.counters with
    unconfirmed := raised^[l.countP fun n => (p.context n).unconfirmed] p.counters.unconfirmed } := by
  induction l generalizing p with
  | nil => rfl
  | cons n rest ih =>
    obtain ⟨fresh, distinct⟩ := List.nodup_cons.mp distinct
    have counters : (p.resetContext n).counters = (p.abandon n).counters := by rw [p.resetContext_eq n]
    rw [Part.giveUp_cons, ih _ distinct, countP_resetContext p rest Context.unconfirmed n fresh, counters,
      p.abandon_counters, List.countP_cons, Function.iterate_add_apply]

/-- R69: the settle write on the M-port once the contexts of a list are given up. -/
def Part.settleGiven : Option SettleWrite :=
  p.path.settleWrite.map (·.disowned fun m => l.contains m && (p.context m).inHand.isSome)

theorem Part.settleGiven_cons (n : Fin 4) (rest : List (Fin 4)) (q : Part)
    (contexts : ∀ m, q.context m = if m = n then .empty else p.context m)
    (settle : q.path.settleWrite = (p.abandon n).path.settleWrite) : q.settleGiven rest = p.settleGiven (n :: rest) := by
  rw [Part.settleGiven, Part.settleGiven, settle, p.abandon_path]
  dsimp only
  rw [Option.map_map]
  congr 1
  funext x
  rw [Function.comp_apply, SettleWrite.disowned_disowned]
  congr 1
  funext m
  rw [contexts]
  by_cases same : m = n
  · simp [same, Context.inHand]
  · simp [same]

theorem Part.giveUp_path_of_notHeld (h : ∀ n ∈ l, ¬ p.path.holdsFor n) :
    (p.giveUp l).path = { p.path with settleWrite := p.settleGiven l } := by
  induction l generalizing p with
  | nil =>
    rw [Part.settleGiven]
    simp [Part.giveUp, SettleWrite.disowned_none]
  | cons n rest ih =>
    obtain ⟨head, tail⟩ := List.forall_mem_cons.mp h
    have path : (p.resetContext n).path = (p.abandon n).path := by rw [p.resetContext_of_notHeld n head]
    have still : ∀ m ∈ rest, ¬ (p.resetContext n).path.holdsFor m := by
      intro m mem
      rintro ⟨w, x, cycle⟩
      exact tail m mem ⟨w, x, by rw [← cycle, path, p.abandon_cycle_eq]⟩
    rw [Part.giveUp_cons, ih _ still, p.settleGiven_cons n rest _ (p.resetContext_context n) (by rw [path]), path,
      p.abandon_path]

theorem Part.giveUp_path_of_held (w : BitVec 23) (n : Fin 4) (x : Lanes)
    (held : p.path.cycle = some ⟨w, .context n, .read x .hold⟩) (mem : n ∈ l) :
    (p.giveUp l).path = { p.path with
      settleWrite := p.settleGiven l, hold := none, cycle := some ⟨w, .context n, .read x .pass⟩
      pd := p.readBytes w x } := by
  induction l generalizing p with
  | nil => exact absurd mem List.not_mem_nil
  | cons m rest ih =>
    by_cases same : n = m
    · subst same
      have path := congrArg Part.path (p.resetContext_of_held n w x held)
      have passed : ∀ k ∈ rest, ¬ (p.resetContext n).path.holdsFor k := by
        intro k _
        rintro ⟨w', x', cycle⟩
        rw [path] at cycle
        simp [MemoryPath.carrying] at cycle
      rw [Part.giveUp_cons, Part.giveUp_path_of_notHeld _ rest passed,
        p.settleGiven_cons n rest _ (p.resetContext_context n) (by rw [path]; rfl), path, p.abandon_path]
      rfl
    · have notHeld : ¬ p.path.holdsFor m := by
        rintro ⟨w', x', cycle⟩
        rw [held] at cycle
        simp only [Option.some.injEq, Cycle.mk.injEq, Owner.context.injEq] at cycle
        exact same cycle.2.1
      have path : (p.resetContext m).path = (p.abandon m).path := by rw [p.resetContext_of_notHeld m notHeld]
      have tail := (List.mem_cons.mp mem).resolve_left same
      have bytes : (p.resetContext m).readBytes w x = p.readBytes w x := by
        rw [p.resetContext_of_notHeld m notHeld, p.abandon_readBytes]
      rw [Part.giveUp_cons, ih _ (by rw [path, p.abandon_cycle_eq, held]) tail,
        p.settleGiven_cons m rest _ (p.resetContext_context m) (by rw [path]), path, p.abandon_path, bytes]

end GivenUp

/-! ## The contexts that a condition picks -/

/-- The contexts picked, in order. -/
def picked (given : Fin 4 → Bool) : List (Fin 4) := (List.finRange 4).filter given

theorem mem_picked (given : Fin 4 → Bool) (n : Fin 4) : n ∈ picked given ↔ given n = true := by
  rw [picked, List.mem_filter, and_iff_right (List.mem_finRange n)]

theorem contains_picked (given : Fin 4 → Bool) (n : Fin 4) : (picked given).contains n = given n := by
  rw [Bool.eq_iff_iff, List.contains_iff_mem, mem_picked]

theorem picked_nodup (given : Fin 4 → Bool) : (picked given).Nodup := (List.nodup_finRange 4).filter _

theorem countP_picked (given f : Fin 4 → Bool) :
    (picked given).countP f = ((List.finRange 4).filter fun n => given n && f n).length := by
  rw [picked, List.countP_filter, List.countP_eq_length_filter]
  simp only [Bool.and_comm]

section Picked

variable (p : Part) (given : Fin 4 → Bool)

theorem Part.pinsGiven_eq (k : Nat) :
    p.pinsGiven given k = (picked given).countP fun n => (p.context n).inHand.any (·.entry == k) := by
  rw [countP_picked, Part.pinsGiven]
  congr 2
  funext n
  cases p.context n <;> rfl

theorem Part.unconfirmedGiven_eq :
    p.unconfirmedGiven given = (picked given).countP fun n => (p.context n).unconfirmed := by
  rw [countP_picked, Part.unconfirmedGiven]
  congr 2
  funext n
  cases p.context n <;> rfl

theorem Part.outcomesKept_eq : p.outcomesKept given =
    p.queue.outcomes.filter fun o => !((picked given).any fun n => o.heldBy n && (p.context n).inHand.isSome) := by
  refine List.filter_congr fun o _ => ?_
  cases state : o.state with
  | reserved m =>
    have one : ((picked given).any fun n => o.heldBy n && (p.context n).inHand.isSome)
        = (given m && (p.context m).inHand.isSome) := by
      rw [Bool.eq_iff_iff]
      simp only [List.any_eq_true, mem_picked, Bool.and_eq_true, Outcome.heldBy, state, beq_iff_eq,
        OutcomeState.reserved.injEq]
      exact ⟨fun ⟨_, picks, same, hand⟩ => same ▸ ⟨picks, hand⟩, fun ⟨picks, hand⟩ => ⟨m, picks, rfl, hand⟩⟩
    rw [one]
    dsimp only
    cases p.context m <;> rfl
  | attached q => simp [Outcome.heldBy, state]
  | unreported q => simp [Outcome.heldBy, state]

theorem Part.lookupsGiven_eq : p.lookupsGiven given = { p.arbiter with
    lookups := p.arbiter.lookups.filter fun c => !((picked given).contains c.1 && (p.context c.1).waits)
    op := p.arbiter.op.map (·.without fun m => (picked given).contains m && (p.context m).waits) } := by
  have gone (n : Fin 4) : ((picked given).contains n && (p.context n).waits) = (given n && match p.context n with
      | .lookup _ _ => true
      | _ => false) := by
    rw [contains_picked]
    cases p.context n <;> rfl
  simp only [gone]
  rfl

theorem Part.settleGiven_eq : p.settleGiven (picked given) = p.path.settleWrite.map fun x =>
    { x with owned := x.owned && !(given x.context && match p.context x.context with
        | .amended _ => true
        | .settled _ => true
        | _ => false) } := by
  rw [Part.settleGiven]
  congr 1
  funext x
  rw [SettleWrite.disowned, contains_picked]
  cases p.context x.context <;> rfl

theorem Part.contexts_eq : p.contexts = ⟨p.context 0, p.context 1, p.context 2, p.context 3⟩ := rfl

theorem Part.giveUp_picked_context (n : Fin 4) :
    (p.giveUp (picked given)).context n = if given n = true then .empty else p.context n := by
  simp only [Part.giveUp_context, mem_picked]

end Picked

end Sys2Proof.Machine

/-! PROOFS. The effects of a commit (R42, R46 to R49, R141, R145, R150): what completes with it, the setup applied, and what
a new setup does to the other blocks. -/

namespace Sys2Proof.Machine

/-! ## What a new setup does (R49) -/

section Follow

variable (p : Part) (old : Setup)

/-- R49: the contexts that a new setup resets. -/
def Setup.resets (new old : Setup) (given : Fin 4 → Bool) : Prop :=
  ∀ n, given n = true ↔ new.policy.mode = .bypass ∨ fourAt new.windows.image n ≠ fourAt old.windows.image n

/-- R49: the journal assembly does not outlast a new setup. -/
abbrev Setup.unwatches (new old : Setup) : Prop := new.policy.mode = .bypass ∨ new.windows.journal ≠ old.windows.journal

theorem Part.followWindow_eq (given : Fin 4 → Bool) (resets : p.setup.resets old given) (n : Fin 4) :
    p.followWindow old n = if given n then p.resetContext n else p := by
  rw [Part.followWindow]
  exact if_congr (resets n).symm rfl rfl

theorem Part.giveUp_filter_cons (given : Fin 4 → Bool) (n : Fin 4) (l : List (Fin 4)) :
    p.giveUp ((n :: l).filter given) = (if given n then p.resetContext n else p).giveUp (l.filter given) := by
  rw [List.filter_cons]
  split <;> rfl

theorem Part.followWindows_eq (given : Fin 4 → Bool) (resets : p.setup.resets old given) :
    (((p.followWindow old 0).followWindow old 1).followWindow old 2).followWindow old 3 = p.giveUp (picked given) := by
  have one (q : Part) (same : q.setup = p.setup) (n : Fin 4) :
      q.followWindow old n = if given n then q.resetContext n else q :=
    q.followWindow_eq old given (by rwa [same]) n
  have all : List.finRange 4 = [0, 1, 2, 3] := rfl
  rw [picked, all, Part.giveUp_filter_cons, Part.giveUp_filter_cons, Part.giveUp_filter_cons, Part.giveUp_filter_cons,
    ← one p rfl 0, ← one _ (by simp) 1, ← one _ (by simp) 2, ← one _ (by simp) 3]
  rfl

theorem Part.queueAbandoned_outcomes : p.queueAbandoned.outcomes = p.outcomesDetached p.queue.outcomes := by
  by_cases annexed : ∃ a offered o q c, p.journal = some a ∧ a.role = .tap offered (.outcome o q c) false
  · obtain ⟨⟨record, role, copy, length⟩, offered, o, q, c, journal, isTap⟩ := annexed
    rw [p.queueAbandoned_of_annex _ offered o q c journal isTap, Part.outcomesDetached, journal]
    dsimp only at isTap
    rw [isTap]
    rfl
  · have other : ∀ a offered o q c, p.journal = some a → a.role ≠ .tap offered (.outcome o q c) false :=
      fun a offered o q c journal role => annexed ⟨a, offered, o, q, c, journal, role⟩
    rw [p.queueAbandoned_of_other other, Part.outcomesDetached]
    split
    next record offered o q c copy length journal => exact absurd rfl (other _ offered o q c journal)
    next => rfl

theorem Part.followJournal_eq : p.followJournal old = { p with
    journal := if p.setup.unwatches old then none else p.journal
    queue := if p.setup.unwatches old then p.queueAbandoned else p.queue } := by
  rw [Part.followJournal]
  by_cases gone : p.setup.unwatches old
  · simp only [if_pos gone, Part.abandonAssembly_eq]
  · simp only [if_neg gone]

/-- R145: the clock word's values under a new setup. -/
def Part.followAfter : Follow :=
  if p.setup.windows.clockWord ≠ old.windows.clockWord then Follow.empty else p.follow

theorem Part.followClockWord_eq : p.followClockWord old = { p with follow := p.followAfter old } := by
  rw [Part.followClockWord, Part.followAfter]
  split <;> rfl

/-- R141: the attention monitor under a new setup. -/
def Part.monitorAfter : Monitor :=
  let m : Monitor := if p.setup.policy.attentionMode ≠ old.policy.attentionMode
    then ⟨p.monitor.asserted, p.monitor.timer, false, false, false, false⟩ else p.monitor
  if p.setup.policy.attentionMode = .off then { m with asserted := false, timer := none } else m

theorem Part.followAttention_eq : p.followAttention old = { p with monitor := p.monitorAfter old } := by
  rw [Part.followAttention, Part.monitorAfter]
  split <;> split <;> rfl

/-- R49: what a new setup leaves in the queue. -/
theorem Part.followSetup_eq (given : Fin 4 → Bool) (resets : p.setup.resets old given) : p.followSetup old =
    { p.giveUp (picked given) with
      journal := if p.setup.unwatches old then none else p.journal
      queue := if p.setup.unwatches old then (p.giveUp (picked given)).queueAbandoned else (p.giveUp (picked given)).queue
      follow := p.followAfter old, monitor := p.monitorAfter old } := by
  rw [Part.followSetup, p.followWindows_eq old given resets, Part.followJournal_eq, Part.followClockWord_eq,
    Part.followAttention_eq]
  have frame := p.giveUp_frame (picked given)
  rw [Part.onlyGivenUp] at frame
  have setup : (p.giveUp (picked given)).setup = p.setup := by rw [frame]
  have journal : (p.giveUp (picked given)).journal = p.journal := by rw [frame]
  have follow : (p.giveUp (picked given)).follow = p.follow := by rw [frame]
  have monitor : (p.giveUp (picked given)).monitor = p.monitor := by rw [frame]
  simp only [Part.followAfter, Part.monitorAfter, setup, journal, follow, monitor]

end Follow

/-! ## The commit's other effects -/

section Commit

variable (p : Part) (effects : List PendingEffect)

theorem Part.commitClock_frame : p.commitClock effects = { p with clock := (p.commitClock effects).clock } := by
  rw [Part.commitClock]
  cases lastClock effects with
  | none => rfl
  | some v =>
    simp only [Part.offerClock]
    cases p.clock.state <;> rfl

theorem Part.offerClock_of_set (v : BitVec 32) (set : p.clock.state ≠ .unset) : p.offerClock v = p := by
  rw [Part.offerClock.eq_def]
  cases state : p.clock.state with
  | unset => exact absurd state set
  | _ => rfl

theorem Part.commitClock_some (before after : List PendingEffect) (v : BitVec 32) (file : effects = before ++ .clock v :: after)
    (last : ∀ x, .clock x ∉ after) : (p.commitClock effects).clock = { p.clock with
      state := if p.clock.state = .unset then .set else p.clock.state
      seconds := if p.clock.state = .unset then v else p.clock.seconds } := by
  have value : lastClock effects = some v := by
    rw [lastClock_eq, file, lastOf_eq_some _ before after _ v rfl (asClock_eq_none last)]
  rw [Part.commitClock, value]
  by_cases unset : p.clock.state = .unset
  · simp [Part.offerClock, unset]
  · simp only [if_neg unset, p.offerClock_of_set v unset]

theorem Part.commitClock_none (none : ∀ x, .clock x ∉ effects) : p.commitClock effects = p := by
  rw [Part.commitClock, lastClock_eq, lastOf_eq_none _ effects (asClock_eq_none none)]

theorem any_isSweep : effects.any (·.isSweep) = effects.contains .sweep := by
  rw [Bool.eq_iff_iff, List.any_eq_true, List.contains_iff_mem]
  refine ⟨fun ⟨x, mem, isSweep⟩ => ?_, fun mem => ⟨_, mem, rfl⟩⟩
  cases x with
  | sweep => exact mem
  | _ => exact absurd isSweep Bool.false_ne_true

/-- R150: the sweep that a commit leaves. -/
def Part.sweepAfter : Option Sweep :=
  if effects.contains .sweep ∧ p.sweep = none then some ⟨p.serviceDay, p.setup.policy.retentionDays, 0⟩ else p.sweep

theorem Part.commitSweep_eq : p.commitSweep effects = { p with
    sweep := p.sweepAfter effects
    arbiter := { p.arbiter with sweep := p.arbiter.sweep || (effects.contains .sweep && p.sweep.isNone) } } := by
  rw [Part.commitSweep, any_isSweep, Part.sweepAfter]
  cases effects.contains .sweep with
  | false => simp
  | true =>
    rw [if_pos rfl, Part.triggerSweep]
    cases sweep : p.sweep with
    | none => simp
    | some x =>
      have busy : p.sweep.isNone = false := by rw [sweep]; rfl
      have kept : ¬ (p.sweep = none) := by rw [sweep]; simp
      simp [kept, ← sweep, busy]

end Commit

section Committed

variable (p : Part) (c : CommitPayload)

/-- R46, R48: the part in a commit once its setup records are applied or ignored. -/
def Part.setUp : Part := { p.tableFree with store := p.store.commit c }.applySetup c.effects

theorem Part.committed_eq : p.committed c = { p.setUp c with
    clock := ((p.setUp c).commitClock c.effects).clock
    sweep := ((p.setUp c).commitClock c.effects).sweepAfter c.effects
    arbiter := { (p.setUp c).arbiter with
      sweep := (p.setUp c).arbiter.sweep || (c.effects.contains .sweep && (p.setUp c).sweep.isNone)
      op := none, intake := if p.intake.discardOwed then some .discard else (p.setUp c).arbiter.intake }
    fileNumber := c.number, fileNumberFault := 0
    counters := { (p.setUp c).counters with filesCommitted := raised (p.setUp c).counters.filesCommitted }
    intake := p.intake.afterAnswer p.intake.fileEnded } := by
  have sweep : ((p.setUp c).commitClock c.effects).sweep = (p.setUp c).sweep := by simp
  have arbiter : ((p.setUp c).commitClock c.effects).arbiter = (p.setUp c).arbiter := by simp
  have counters : ((p.setUp c).commitClock c.effects).counters = (p.setUp c).counters := by simp
  have effects : p.tableFree.commitEffects c = { (p.setUp c).commitClock c.effects with
    sweep := ((p.setUp c).commitClock c.effects).sweepAfter c.effects
    arbiter := { (p.setUp c).arbiter with
      sweep := (p.setUp c).arbiter.sweep || (c.effects.contains .sweep && (p.setUp c).sweep.isNone) }
    fileNumber := c.number, fileNumberFault := 0
    counters := { (p.setUp c).counters with filesCommitted := raised (p.setUp c).counters.filesCommitted } } := by
    rw [← sweep, ← arbiter, ← counters, Part.commitEffects]
    dsimp only
    have freed : ({ p.tableFree with store := p.tableFree.store.commit c } : Part).applySetup c.effects = p.setUp c := rfl
    rw [freed, Part.commitSweep_eq]
    rfl
  rw [Part.committed, effects, (p.setUp c).commitClock_frame c.effects]
  rfl

end Committed

end Sys2Proof.Machine

/-! PROOFS. A commit completes (R15, R33, R42, R46 to R49): the obligations about it. -/

namespace Sys2Proof.Machine

section SetUp

variable (p : Part) (c : CommitPayload)

/-- The part in a commit before its setup records are looked at. -/
def Part.tableSet : Part := { p.tableFree with store := p.store.commit c }

/-- The part in a commit with the setup its records give, before the other blocks follow it. -/
def Part.newSetup : Part :=
  { p.tableSet c with setup := p.setup.applied c.effects, locked := asksLock c.effects, setupFault := 0 }

theorem Part.setUp_of_noSetup (none : ∀ x ∈ c.effects, x.isSetup = false) : p.setUp c = p.tableSet c :=
  (p.tableSet c).applySetup_of_noSetup c.effects none

theorem Part.setUp_of_locked (some : ∃ x ∈ c.effects, x.isSetup = true) (locked : p.locked = true) :
    p.setUp c = { p.tableSet c with setupIgnored := true } :=
  (p.tableSet c).applySetup_of_locked c.effects some locked

theorem Part.onlyGivenUp.following {p q : Part} (h : p.onlyGivenUp q) (j : Option Assembly) (queue : OutcomeQueue)
    (f : Follow) (m : Monitor) : { q with journal := j, queue := queue, follow := f, monitor := m } = { p with
      contexts := q.contexts, arbiter := q.arbiter, store := q.store, counters := q.counters, path := q.path
      journal := j, queue := queue, follow := f, monitor := m } := by
  conv_lhs => rw [h]

theorem Part.setUp_of_unlocked (given : Fin 4 → Bool) (some : ∃ x ∈ c.effects, x.isSetup = true)
    (unlocked : p.locked = false) (resets : (p.setup.applied c.effects).resets p.setup given) : p.setUp c =
      { p.newSetup c with
        contexts := ((p.newSetup c).giveUp (picked given)).contexts
        arbiter := ((p.newSetup c).giveUp (picked given)).arbiter
        store := ((p.newSetup c).giveUp (picked given)).store
        counters := ((p.newSetup c).giveUp (picked given)).counters
        path := ((p.newSetup c).giveUp (picked given)).path
        journal := if (p.setup.applied c.effects).unwatches p.setup then none else p.journal
        queue := if (p.setup.applied c.effects).unwatches p.setup
          then ((p.newSetup c).giveUp (picked given)).queueAbandoned else ((p.newSetup c).giveUp (picked given)).queue
        follow := (p.newSetup c).followAfter p.setup, monitor := (p.newSetup c).monitorAfter p.setup } := by
  exact ((p.tableSet c).applySetup_of_unlocked c.effects some unlocked).trans
    (((p.newSetup c).followSetup_eq p.setup given resets).trans
      (((p.newSetup c).giveUp_frame (picked given)).following _ _ _ _))

/-- R49: the contexts a setup resets. -/
def Setup.resetBy (new old : Setup) (n : Fin 4) : Bool :=
  decide (new.policy.mode = .bypass ∨ fourAt new.windows.image n ≠ fourAt old.windows.image n)

theorem Setup.resets_resetBy (new old : Setup) : new.resets old (new.resetBy old) := fun _ => decide_eq_true_iff

/-- R46: what the setup records of a commit can change, whatever they are. -/
theorem Part.setUp_frame : p.setUp c = { p.tableSet c with
      setup := (p.setUp c).setup, locked := (p.setUp c).locked, setupFault := (p.setUp c).setupFault
      setupIgnored := (p.setUp c).setupIgnored, contexts := (p.setUp c).contexts, arbiter := (p.setUp c).arbiter
      store := (p.setUp c).store, journal := (p.setUp c).journal, queue := (p.setUp c).queue
      counters := { p.counters with unconfirmed := (p.setUp c).counters.unconfirmed }
      monitor := (p.setUp c).monitor, follow := (p.setUp c).follow, path := (p.setUp c).path }
    ∧ (p.setUp c).arbiter.op = none ∧ (p.setUp c).arbiter.marks = p.arbiter.marks
    ∧ (p.setUp c).arbiter.intake = p.arbiter.intake ∧ (p.setUp c).arbiter.sweep = p.arbiter.sweep := by
  by_cases none : ∀ x ∈ c.effects, x.isSetup = false
  · rw [p.setUp_of_noSetup c none]
    exact ⟨rfl, rfl, rfl, rfl, rfl⟩
  have some := exists_isSetup_of_not c.effects none
  cases locked : p.locked with
  | true =>
    rw [p.setUp_of_locked c some locked]
    exact ⟨rfl, rfl, rfl, rfl, rfl⟩
  | false =>
    have resets := (p.setup.applied c.effects).resets_resetBy p.setup
    generalize (p.setup.applied c.effects).resetBy p.setup = given at resets
    have counters : ((p.newSetup c).giveUp (picked given)).counters = { p.counters with
        unconfirmed := ((p.newSetup c).giveUp (picked given)).counters.unconfirmed } := by
      rw [(p.newSetup c).giveUp_counters _ (picked_nodup given)]
      rfl
    obtain ⟨marks, intake, sweep⟩ := (p.newSetup c).giveUp_claims_rest (picked given)
    have free := ((p.newSetup c).giveUp_op_isNone (picked given)).mpr rfl
    rw [p.setUp_of_unlocked c given some locked resets]
    refine ⟨?_, free, marks, intake, sweep⟩
    conv_lhs => rw [counters]
    rfl

/-- R46: a commit's completion, with the fields it can change in general. -/
theorem commit_next (s : State) (op : s.arbiter.op = some (.intake (.commit c))) :
    exec .commit s = .next { s with toPart := (s.toPart.committed c).intakeWork.grant } := by
  refine exec_of_effect _ s _ (commit_effect s c op ?_)
  obtain ⟨-, free, -⟩ := s.toPart.setUp_frame c
  have same : (s.toPart.tableFree.commitEffects c).arbiter.op = (s.toPart.setUp c).arbiter.op := by
    rw [Part.commitEffects, Part.commitSweep_eq]
    simp [Part.setUp, Part.count]
  rw [same, free]

end SetUp

/-- Settles O44: each part of the setup takes its last record, and under the lock none. -/
theorem commitSetup : Obligations.CommitSetup := by
  intro s c op
  have setup : ((s.toPart.committed c).intakeWork.grant).setup = (s.toPart.setUp c).setup := by
    rw [Part.committed_eq]
    simp
  have locked : ((s.toPart.committed c).intakeWork.grant).locked = (s.toPart.setUp c).locked := by
    rw [Part.committed_eq]
    simp
  have ignored : ((s.toPart.committed c).intakeWork.grant).setupIgnored = (s.toPart.setUp c).setupIgnored := by
    rw [Part.committed_eq]
    simp
  obtain ⟨none, underLock, unlocked⟩ := (s.toPart.tableSet c).applySetup_setup c.effects
  refine ⟨_, commit_next c s op, ?_⟩
  dsimp only
  rw [setup, locked, ignored]
  refine ⟨none, underLock, fun free => ?_⟩
  obtain ⟨applied, asks, same⟩ := unlocked free
  have y : (s.toPart.setUp c).setup = s.setup.applied c.effects := applied
  have l : (s.toPart.setUp c).locked = asksLock c.effects := asks
  rw [y, l]
  refine ⟨fun before after w file last => ?_, s.setup.applied_windows_none c.effects,
    fun before after p lock file last => ?_, s.setup.applied_policy_none c.effects,
    fun before after k file last => ?_, s.setup.applied_keys_none c.effects, same⟩
  · rw [file, s.setup.applied_windows before after w last]
  · rw [file]
    exact s.setup.applied_policy before after p lock last
  · rw [file, s.setup.applied_keys before after k last]

end Sys2Proof.Machine

/-! PROOFS. A commit completes (R15, R33, R46, R147, R150), and what a commit that applies setup records does (R49). -/

namespace Sys2Proof.Machine

section Fields

variable (p : Part) (c : CommitPayload)

theorem Part.setUp_with (clock : DayClock) (sweep : Option Sweep) (arbiter : Arbiter) (number : BitVec 32) (fault : Word)
    (counters : Counters) (intake : Intake) : { p.setUp c with
      clock := clock, sweep := sweep, arbiter := arbiter, fileNumber := number, fileNumberFault := fault
      counters := counters, intake := intake } = { p with
      clock := clock, sweep := sweep, arbiter := arbiter, fileNumber := number, fileNumberFault := fault
      counters := counters, intake := intake, setup := (p.setUp c).setup, locked := (p.setUp c).locked
      setupFault := (p.setUp c).setupFault
      setupIgnored := (p.setUp c).setupIgnored, contexts := (p.setUp c).contexts
      store := (p.setUp c).store, journal := (p.setUp c).journal, queue := (p.setUp c).queue
      monitor := (p.setUp c).monitor, follow := (p.setUp c).follow, path := (p.setUp c).path } := by
  conv_lhs => rw [(p.setUp_frame c).1]
  rfl

theorem Part.setUp_clock : (p.setUp c).clock = p.clock := by rw [(p.setUp_frame c).1]; rfl

theorem Part.setUp_sweep : (p.setUp c).sweep = p.sweep := by rw [(p.setUp_frame c).1]; rfl

theorem Part.setUp_counters : (p.setUp c).counters = { p.counters with
    unconfirmed := (p.setUp c).counters.unconfirmed } := congrArg Part.counters (p.setUp_frame c).1

theorem Part.committed_clock : (p.committed c).clock = ((p.setUp c).commitClock c.effects).clock := by
  rw [Part.committed_eq]

theorem Part.committed_setup : (p.committed c).setup = (p.setUp c).setup := by rw [Part.committed_eq]

/-- R150: the sweep a commit leaves is the one in progress, or one started with the clock and setup of the commit. -/
theorem Part.committed_sweep : (p.committed c).sweep = if c.effects.contains .sweep ∧ p.sweep = none
    then some ⟨(p.committed c).serviceDay, (p.committed c).setup.policy.retentionDays, 0⟩ else p.sweep := by
  have sweep : ((p.setUp c).commitClock c.effects).sweep = p.sweep := by simp [p.setUp_sweep]
  have setup : ((p.setUp c).commitClock c.effects).setup = (p.setUp c).setup := by simp
  have day : ((p.setUp c).commitClock c.effects).serviceDay = (p.committed c).serviceDay := by
    rw [Part.serviceDay, Part.serviceDay, p.committed_clock, p.committed_setup, setup]
  have value : (p.committed c).sweep = ((p.setUp c).commitClock c.effects).sweepAfter c.effects := by
    rw [Part.committed_eq]
  rw [value, Part.sweepAfter, sweep, day, setup, p.committed_setup]

theorem Part.committed_claims :
    (p.committed c).arbiter.op = none ∧ (p.committed c).arbiter.marks = p.arbiter.marks
      ∧ (p.committed c).arbiter.intake = (if p.intake.discardOwed then some .discard else p.arbiter.intake)
      ∧ (p.committed c).arbiter.sweep = (p.arbiter.sweep || (c.effects.contains .sweep && p.sweep.isNone)) := by
  obtain ⟨-, -, marks, intake, sweep⟩ := p.setUp_frame c
  rw [← marks, ← intake, ← sweep, ← p.setUp_sweep c, Part.committed_eq]
  exact ⟨rfl, rfl, rfl, rfl⟩

/-- R46: a commit that applies no setup record changes the table, the clock and the sweep. -/
theorem Part.committed_of_unapplied (h : (∀ x ∈ c.effects, x.isSetup = false) ∨ p.locked = true) : p.committed c = { p with
    arbiter := { p.arbiter.afterAnswer p.intake with sweep := (p.committed c).arbiter.sweep }
    store := p.store.commit c, fileNumber := c.number, fileNumberFault := 0
    setupIgnored := p.setupIgnored || c.effects.any (·.isSetup)
    clock := (p.committed c).clock, sweep := (p.committed c).sweep, intake := (p.committed c).intake
    counters := { p.counters with filesCommitted := raised p.counters.filesCommitted } } := by
  by_cases none : ∀ x ∈ c.effects, x.isSetup = false
  · have any : c.effects.any (·.isSetup) = false := List.any_eq_false.mpr fun x mem => by simp [none x mem]
    rw [any, Bool.or_false, p.committed_eq, p.setUp_of_noSetup c none]
    rfl
  · have some := exists_isSetup_of_not c.effects none
    rw [List.any_eq_true.mpr some, Bool.or_true, p.committed_eq, p.setUp_of_locked c some (h.resolve_left none)]
    rfl

end Fields

/-- Settles O42: a commit completes, and without setup records applied it changes only the table, the clock and the sweep. -/
theorem commitCompletes : Obligations.CommitCompletes := by
  intro s c op
  obtain ⟨free, marks, intake, sweepClaim⟩ := s.toPart.committed_claims c
  have sweep := s.toPart.committed_sweep c
  refine ⟨s.toPart.committed c, commit_next c s op, ?_, free, marks, intake, ?_, s.toPart.committed_of_unapplied c,
    fun before after v file last => ?_, fun none => ?_, fun none => ?_, fun x busy => ?_, fun mem idle => ?_⟩
  · rw [s.toPart.committed_eq c, Part.setUp_with]
    rfl
  · rw [s.toPart.committed_eq c]
    dsimp only
    rw [s.toPart.setUp_counters c]
  · rw [s.toPart.committed_clock c, Part.commitClock_some _ c.effects before after v file last, s.toPart.setUp_clock c]
    exact ⟨rfl, rfl⟩
  · rw [s.toPart.committed_clock c, Part.commitClock_none _ c.effects none, s.toPart.setUp_clock c]
  · have noSweep : c.effects.contains .sweep = false := by simpa using none
    rw [sweep, sweepClaim, noSweep]
    simp
  · have running : ¬ (s.sweep = none) := by rw [busy]; simp
    rw [sweep, sweepClaim, if_neg fun h => running h.2, busy]
    simp
  · have triggered : c.effects.contains .sweep = true := by simpa using mem
    rw [sweep, sweepClaim, if_pos ⟨triggered, idle⟩, triggered, idle]
    simp

end Sys2Proof.Machine

/-! PROOFS. What a commit that applies setup records does to the other blocks (R49). -/

namespace Sys2Proof.Machine

section Queue

variable (p : Part) (given : Fin 4 → Bool)

theorem Part.queueAbandoned_rest : p.queueAbandoned.nextSequence = p.queue.nextSequence
    ∧ p.queueAbandoned.ordinal = p.queue.ordinal ∧ (p.queue.checkFault = 0 → p.queueAbandoned.checkFault = 0) := by
  rw [Part.queueAbandoned]
  split
  · exact ⟨rfl, rfl, id⟩
  · split
    · exact ⟨rfl, rfl, fun _ => rfl⟩
    · exact ⟨rfl, rfl, id⟩

theorem Part.giveUp_journal (l : List (Fin 4)) : (p.giveUp l).journal = p.journal := by
  rw [p.giveUp_frame l]

theorem Part.giveUp_picked_outcomes : (p.giveUp (picked given)).queue.outcomes = p.outcomesKept given := by
  rw [p.giveUp_outcomes, p.outcomesKept_eq]

/-- R121, R129: the queue once contexts and the assembly are given up. -/
theorem Part.giveUp_queueAbandoned (q : OutcomeQueue) (isQueue : q = (p.giveUp (picked given)).queueAbandoned) :
    q = { p.queue with checkFault := q.checkFault, outcomes := p.outcomesDetached (p.outcomesKept given) }
      ∧ (p.queue.checkFault = 0 → q.checkFault = 0) := by
  obtain ⟨next, ordinal, fault⟩ := (p.giveUp (picked given)).queueAbandoned_rest
  obtain ⟨next', ordinal', fault'⟩ := p.giveUp_queue (picked given)
  have outcomes := (p.giveUp (picked given)).queueAbandoned_outcomes
  rw [p.giveUp_picked_outcomes, Part.outcomesDetached, p.giveUp_journal] at outcomes
  rw [← isQueue] at next ordinal fault outcomes
  refine ⟨?_, fun none => fault (fault' none)⟩
  obtain ⟨o, n, d, f⟩ := q
  dsimp only at next ordinal outcomes ⊢
  rw [next, next', ordinal, ordinal', outcomes]
  rfl

theorem Part.giveUp_queueKept (q : OutcomeQueue) (isQueue : q = (p.giveUp (picked given)).queue) :
    q = { p.queue with checkFault := q.checkFault, outcomes := p.outcomesKept given }
      ∧ (p.queue.checkFault = 0 → q.checkFault = 0) := by
  obtain ⟨next, ordinal, fault⟩ := p.giveUp_queue (picked given)
  have outcomes := p.giveUp_picked_outcomes given
  rw [← isQueue] at next ordinal fault outcomes
  refine ⟨?_, fault⟩
  obtain ⟨o, n, d, f⟩ := q
  dsimp only at next ordinal outcomes ⊢
  rw [next, ordinal, outcomes]

theorem Part.giveUp_picked_contexts : (p.giveUp (picked given)).contexts =
    ⟨if given 0 = true then .empty else p.context 0, if given 1 = true then .empty else p.context 1,
      if given 2 = true then .empty else p.context 2, if given 3 = true then .empty else p.context 3⟩ := by
  rw [Part.contexts_eq, p.giveUp_picked_context, p.giveUp_picked_context, p.giveUp_picked_context,
    p.giveUp_picked_context]

theorem Part.giveUp_picked_arbiter : (p.giveUp (picked given)).arbiter = { p.lookupsGiven given with
    releases := if p.arbiter.op = none then p.arbiter.releases else p.arbiter.releases ++ p.named (picked given) } := by
  obtain ⟨marks, intake, sweep⟩ := p.giveUp_claims_rest (picked given)
  have lookups := p.giveUp_lookups (picked given)
  have op := p.giveUp_op (picked given)
  have releases := p.giveUp_releases (picked given) (picked_nodup given)
  rw [p.lookupsGiven_eq]
  generalize (p.giveUp (picked given)).arbiter = a at *
  obtain ⟨l, m, i, sw, o, r⟩ := a
  dsimp only at *
  rw [marks, intake, sweep, lookups, op, releases]

theorem Part.giveUp_picked_counters : (p.giveUp (picked given)).counters = { p.counters with
    unconfirmed := raised^[p.unconfirmedGiven given] p.counters.unconfirmed } := by
  rw [p.giveUp_counters _ (picked_nodup given), p.unconfirmedGiven_eq]

theorem Part.giveUp_picked_entry (free : p.arbiter.op = none) (k : Nat) : (p.giveUp (picked given)).store.entry k =
    (p.store.entry k).map fun e => { e with pins := e.pins - p.pinsGiven given k } := by
  rw [p.giveUp_entry _ (picked_nodup given) free, p.pinsGiven_eq]

end Queue

section Followed

variable (p : Part) (c : CommitPayload) (given : Fin 4 → Bool) (some : ∃ x ∈ c.effects, x.isSetup = true)
  (unlocked : p.locked = false) (resets : (p.setup.applied c.effects).resets p.setup given)
include some unlocked resets

/-- R49: the queue of a commit that applies setup records. -/
theorem Part.setUp_queue : (p.setUp c).queue = { p.queue with
      checkFault := (p.setUp c).queue.checkFault
      outcomes := if (p.setup.applied c.effects).unwatches p.setup then p.outcomesDetached (p.outcomesKept given)
        else p.outcomesKept given }
    ∧ (p.queue.checkFault = 0 → (p.setUp c).queue.checkFault = 0) := by
  have queue : (p.setUp c).queue = if (p.setup.applied c.effects).unwatches p.setup
      then ((p.newSetup c).giveUp (picked given)).queueAbandoned else ((p.newSetup c).giveUp (picked given)).queue := by
    rw [p.setUp_of_unlocked c given some unlocked resets]
  by_cases gone : (p.setup.applied c.effects).unwatches p.setup
  · rw [if_pos gone] at queue ⊢
    exact (p.newSetup c).giveUp_queueAbandoned given _ queue
  · rw [if_neg gone] at queue ⊢
    exact (p.newSetup c).giveUp_queueKept given _ queue

theorem Part.setUp_journal : (p.setUp c).journal =
    if (p.setup.applied c.effects).unwatches p.setup then none else p.journal := by
  rw [p.setUp_of_unlocked c given some unlocked resets]

theorem Part.setUp_others : (p.setUp c).setup = p.setup.applied c.effects ∧ (p.setUp c).setupFault = 0
    ∧ (p.setUp c).setupIgnored = p.setupIgnored ∧ (p.setUp c).follow = (p.newSetup c).followAfter p.setup
    ∧ (p.setUp c).monitor = (p.newSetup c).monitorAfter p.setup := by
  rw [p.setUp_of_unlocked c given some unlocked resets]
  exact ⟨rfl, rfl, rfl, rfl, rfl⟩

theorem Part.setUp_givenUp : (p.setUp c).contexts = ((p.newSetup c).giveUp (picked given)).contexts
    ∧ (p.setUp c).arbiter = ((p.newSetup c).giveUp (picked given)).arbiter
    ∧ (p.setUp c).store = ((p.newSetup c).giveUp (picked given)).store
    ∧ (p.setUp c).counters = ((p.newSetup c).giveUp (picked given)).counters
    ∧ (p.setUp c).path = ((p.newSetup c).giveUp (picked given)).path := by
  rw [p.setUp_of_unlocked c given some unlocked resets]
  exact ⟨rfl, rfl, rfl, rfl, rfl⟩

end Followed

/-- Settles O45: what a commit that applies setup records does to contexts, journal, clock word, attention and memory path. -/
theorem setupFollowed : Obligations.SetupFollowed := by
  intro s c given op unlocked some y resets unwatched kept settling
  obtain ⟨contexts, arbiter, store, counters, path⟩ := s.toPart.setUp_givenUp c given some unlocked resets
  obtain ⟨queue, fault⟩ := s.toPart.setUp_queue c given some unlocked resets
  have journal := s.toPart.setUp_journal c given some unlocked resets
  obtain ⟨setup, setupFault, ignored, follow, monitor⟩ := s.toPart.setUp_others c given some unlocked resets
  have settleGiven : (s.toPart.newSetup c).settleGiven (picked given) = settling :=
    (s.toPart.newSetup c).settleGiven_eq given
  have committed := s.toPart.committed_eq c
  refine ⟨s.toPart.committed c, commit_next c s op, ?_, ?_, fun k => ?_, fun none => ?_, fun w n l held picks => ?_,
    fun notHeld => ?_⟩
  · rw [committed, Part.setUp_with, setup, setupFault, ignored, follow, monitor, contexts, arbiter, counters, journal,
      Part.giveUp_picked_contexts, Part.giveUp_picked_arbiter, Part.giveUp_picked_counters, s.toPart.setUp_sweep c, queue]
    rfl
  · have onlyTable := (s.toPart.newSetup c).giveUp_store (picked given)
    rw [← store] at onlyTable
    rw [committed]
    exact onlyTable
  · rw [committed]
    dsimp only
    rw [store, Part.giveUp_picked_entry _ given rfl]
    rfl
  · rw [committed]
    exact fault none
  · rw [committed]
    dsimp only
    rw [path, Part.giveUp_path_of_held (s.toPart.newSetup c) (picked given) w n l held ((mem_picked given n).mpr picks), settleGiven]
    rfl
  · have none : ∀ n ∈ picked given, ¬ (s.toPart.newSetup c).path.holdsFor n := by
      rintro n mem ⟨w, l, cycle⟩
      exact absurd ((mem_picked given n).mp mem) (by rw [notHeld w n l cycle]; simp)
    rw [committed]
    dsimp only
    rw [path, Part.giveUp_path_of_notHeld (s.toPart.newSetup c) (picked given) none, settleGiven]
    rfl

end Sys2Proof.Machine

/-! PROOFS. The timers (R20, R62, R74, R139, R140). -/

namespace Sys2Proof.Machine

theorem Part.expireHold_of_lookup (p : Part) (w : BitVec 23) (l : Lanes) (n : Fin 4) (snapshot : List Word)
    (written : List Lanes) (held : p.path.cycle = some ⟨w, .context n, .read l .hold⟩)
    (waits : p.context n = .lookup snapshot written) : p.expireHold = Part.grant { p with
      contexts := fourWith p.contexts n .empty
      counters := { p.counters with holdExpiries := raised p.counters.holdExpiries }
      arbiter := { p.arbiter with
        lookups := p.arbiter.lookups.filter fun c => c.1 != n
        op := p.arbiter.op.map fun o => o.unwanted n }
      path := p.path.carrying ⟨w, .context n, .read l .pass⟩ none (p.readBytes w l) } := by
  have empty : ((p.withdrawLookup n).withContext n .empty).context n = .empty := by
    rw [Part.context_withContext, if_pos rfl]
  have answer := Part.answerHeldRead_of_held
    (((p.withdrawLookup n).withContext n .empty).count fun c => { c with holdExpiries := raised c.holdExpiries })
    n n w l held
  have pass : ((((p.withdrawLookup n).withContext n .empty).count fun c =>
      { c with holdExpiries := raised c.holdExpiries }).context n).readAnswer (w.toNat % 32) = .pass :=
    (congrArg (Context.readAnswer · (w.toNat % 32)) empty).trans rfl
  rw [if_pos rfl, pass] at answer
  rw [Part.expireHold, held]
  dsimp only
  rw [p.abandon_of_lookup n snapshot written waits, answer]
  rfl

theorem Presentation.awaiting_of_running (pr : Presentation) (limit : Nat) (await : pr.await = .running limit) :
    pr.awaiting = true := by
  rw [Presentation.awaiting, await]

section Await

variable (p : Part) (n : Fin 4) (pr : Presentation) (limit : Nat) (await : pr.await = .running limit)
include await

theorem Part.expireAwait_of_amended (amended : p.context n = .amended pr) :
    p.expireAwait n = (p.giveUpResult n).withContext n (.amended { pr with await := .expired }) := by
  rw [Part.expireAwait, amended]
  exact if_pos (pr.awaiting_of_running limit await)

theorem Part.expireAwait_of_settled (settled : p.context n = .settled pr) :
    p.expireAwait n = (((p.giveUpResult n).releasePin pr.entry).withContext n .empty).grant := by
  rw [Part.expireAwait, settled]
  exact if_pos (pr.awaiting_of_running limit await)

end Await

theorem Monitor.runOfThree_iff (m : Monitor) : m.runOfThree = true ↔
    m.mark0 = true ∧ m.mark1 = true ∧ m.mark2 = true ∧ m.mark3 = false := by
  simp [Monitor.runOfThree, and_assoc]

theorem Part.endSlot_of_run (p : Part) (run : p.supply = .run) : p.endSlot = { p with
    monitor :=
      if p.setup.policy.attentionMode = .repeated ∧ p.monitor.mark0 = true ∧ p.monitor.mark1 = true
        ∧ p.monitor.mark2 = true ∧ p.monitor.mark3 = false then
        ⟨true, some p.setup.policy.attentionHold, false, p.monitor.mark0, p.monitor.mark1, p.monitor.mark2⟩
      else
        ⟨p.monitor.asserted, p.monitor.timer, false, p.monitor.mark0, p.monitor.mark1, p.monitor.mark2⟩ } := by
  rw [Part.endSlot, if_pos run]
  by_cases runs : p.setup.policy.attentionMode = .repeated ∧ p.monitor.runOfThree = true
  · rw [if_pos runs, if_pos ⟨runs.1, p.monitor.runOfThree_iff.mp runs.2⟩]
    rfl
  · rw [if_neg runs, if_neg fun marked => runs ⟨marked.1, p.monitor.runOfThree_iff.mpr marked.2⟩]
    rfl

/-- Settles O48: the hold, the await and the attention hold run out, and a slot ends. -/
theorem timersRunOut : Obligations.TimersRunOut := by
  refine ⟨fun s w l n snapshot written held waits => ?_, fun s n pr limit await => ⟨fun amended => ?_, fun settled => ?_⟩,
    fun s => ⟨fun k timer => ?_, fun timer => ?_, fun run => ?_⟩⟩
  · exact exec_of_effect _ s _ (s.toPart.expireHold_of_lookup w l n snapshot written held waits)
  · exact exec_of_effect _ s _ (s.toPart.expireAwait_of_amended n pr limit await amended)
  · have effect : commandEffect (.awaitExpiry n) s.toPart = _ := s.toPart.expireAwait_of_settled n pr limit await settled
    rw [Part.releasePin_eq] at effect
    exact exec_of_effect _ s _ effect
  · refine exec_of_effect _ s _ ?_
    have effect : commandEffect .attentionHoldExpiry s.toPart = s.toPart.expireAttention := rfl
    rw [effect, Part.expireAttention, timer]
    rfl
  · have effect : commandEffect .attentionHoldExpiry s.toPart = s.toPart.expireAttention := rfl
    rw [exec_of_effect _ s s.toPart (by rw [effect, Part.expireAttention, timer])]
  · exact exec_of_effect _ s _ (s.toPart.endSlot_of_run run)

end Sys2Proof.Machine

/-! PROOFS. A crystal second (R143, R148 to R151). -/

namespace Sys2Proof.Machine

section Second

variable (p : Part)

/-- R143: the part with its clock advanced by a second. -/
def Part.advanced : Part :=
  { p with crystal := p.crystal + 1, clock := { p.clock with seconds := p.clock.seconds + 1 } }

theorem Part.crystalSecond_of_stopped (supplied : p.supply ≠ .off)
    (stopped : p.clock.state = .unset ∨ p.clock.seconds = 0xFFFFFFFF) :
    p.crystalSecond = { p with crystal := p.crystal + 1 } := by
  rw [Part.crystalSecond, if_neg supplied, Part.advanceClock]
  exact if_pos stopped

theorem Part.crystalSecond_of_counting (supplied : p.supply ≠ .off) (set : p.clock.state ≠ .unset)
    (counts : p.clock.seconds ≠ 0xFFFFFFFF) : p.crystalSecond = p.advanced.evaluateSchedule := by
  rw [Part.crystalSecond, if_neg supplied, Part.advanceClock]
  exact if_neg (not_or.mpr ⟨set, counts⟩)

theorem Part.evaluateSchedule_of_due (minute : p.wholeMinute = true) (due : p.scheduleMatches = true) :
    p.evaluateSchedule = p.scheduledTrigger := by
  rw [Part.evaluateSchedule, minute, due]
  rfl

theorem Part.evaluateSchedule_of_notDue (h : ¬ (p.wholeMinute = true ∧ p.scheduleMatches = true)) :
    p.evaluateSchedule = p := by
  rw [Part.evaluateSchedule, if_neg]
  rwa [Bool.and_eq_true]

theorem Part.triggerSweep_of_some (x : Sweep) (running : p.sweep = some x) : p.triggerSweep = p := by
  rw [Part.triggerSweep, running]

theorem Part.triggerSweep_of_none (idle : p.sweep = none) : p.triggerSweep = { p with
    sweep := some ⟨p.serviceDay, p.setup.policy.retentionDays, 0⟩, arbiter := { p.arbiter with sweep := true } } := by
  rw [Part.triggerSweep, idle]

/-- R148: the service day; the seconds before the first service day count to day 0. -/
theorem Part.serviceDay_of_set (set : p.clock.state ≠ .unset) : p.serviceDay = some
    (if p.clock.seconds.toNat < p.setup.policy.serviceOffset then 0
      else (p.clock.seconds.toNat - p.setup.policy.serviceOffset) / 86400) := by
  rw [Part.serviceDay, if_neg set, serviceDayOf]
  split
  next early => rw [Nat.sub_eq_zero_of_le early.le]
  next => rfl

theorem Part.wholeMinute_iff (within : p.setup.policy.serviceOffset ≤ 86399) : p.wholeMinute = true ↔
    (60 : Int) ∣ (p.clock.seconds.toNat : Int) - (p.setup.policy.serviceOffset : Int) := by
  rw [Part.wholeMinute, beq_iff_eq]
  omega

theorem weekdayOf_eq (offset seconds : Nat) :
    weekdayOf offset seconds = if seconds < offset then 0 else (seconds - offset) / 86400 % 7 := by
  rw [weekdayOf, serviceDayOf]
  split
  next early => rw [Nat.sub_eq_zero_of_le early.le]
  next => rfl

theorem Part.scheduleMatches_iff : p.scheduleMatches = true ↔
    p.setup.policy.scheduleEnabled = true ∧ p.clock.state ≠ .unset
      ∧ (p.setup.policy.sweepWeekday = 7
        ∨ p.setup.policy.sweepWeekday = weekdayOf p.setup.policy.serviceOffset p.clock.seconds.toNat)
      ∧ (p.setup.policy.sweepHour = 255
        ∨ p.setup.policy.sweepHour = hourOf p.setup.policy.serviceOffset p.clock.seconds.toNat)
      ∧ (p.setup.policy.sweepMinute = 255
        ∨ p.setup.policy.sweepMinute = minuteOf p.setup.policy.serviceOffset p.clock.seconds.toNat) := by
  simp [Part.scheduleMatches, and_assoc]

end Second

section Taken

variable (s : State) (granted : s.claimsGranted)
  (settled : s.supply = .off ∨ s.supply = .keep → s.initialising = none)
include settled

theorem clockSecond_effect : commandEffect .clockSecond s.toPart = s.toPart.crystalSecond.grant := by
  have effect : commandEffect .clockSecond s.toPart = s.toPart.finishCold.crystalSecond.grant := rfl
  rw [effect, s.toPart.finishCold_of_settled settled]

include granted

theorem clockSecond_unclaimed (q : Part) (counted : s.toPart.crystalSecond = q) (arbiter : q.arbiter = s.arbiter) :
    exec .clockSecond s = .next { s with toPart := q } := by
  have still : q.claimsGranted := s.toPart.claimsGranted_of_arbiter q arbiter granted
  refine exec_of_effect _ s _ ?_
  rw [clockSecond_effect s settled, counted, still]

end Taken

/-- Settles O49: a crystal second, and the derivations of the service day. -/
theorem secondCounted : Obligations.SecondCounted := by
  refine ⟨fun s granted settled => ⟨fun off => ?_, fun supplied stopped => ?_, fun supplied set counts => ?_⟩, fun p => ?_⟩
  · exact clockSecond_unclaimed s granted settled s.toPart (if_pos off) rfl
  · exact clockSecond_unclaimed s granted settled _ (s.toPart.crystalSecond_of_stopped supplied stopped) rfl
  · intro q
    have counted : s.toPart.crystalSecond = q.evaluateSchedule :=
      s.toPart.crystalSecond_of_counting supplied set counts
    refine ⟨fun notDue => ?_, fun minute due => ?_⟩
    · exact clockSecond_unclaimed s granted settled q (counted.trans (q.evaluateSchedule_of_notDue notDue)) rfl
    have triggered := counted.trans (q.evaluateSchedule_of_due minute due)
    rw [Part.scheduledTrigger] at triggered
    refine ⟨fun run x running => ?_, fun run idle => ?_, fun notRun => ?_⟩
    · rw [if_pos run, q.triggerSweep_of_some x running] at triggered
      exact clockSecond_unclaimed s granted settled q triggered rfl
    · rw [if_pos run, q.triggerSweep_of_none idle] at triggered
      refine exec_of_effect _ s _ ?_
      rw [clockSecond_effect s settled, triggered]
    · rw [if_neg notRun] at triggered
      exact clockSecond_unclaimed s granted settled _ triggered rfl
  · intro seconds offset time
    refine ⟨fun unset => if_pos unset, p.serviceDay_of_set, p.wholeMinute_iff, ?_⟩
    rw [p.scheduleMatches_iff, weekdayOf_eq]
    exact Iff.rfl

end Sys2Proof.Machine

/-! PROOFS. The supplies and the lockout timer (R159, R174 to R178). -/

namespace Sys2Proof.Machine

section Supplies

variable (p : Part) (straps : BitVec 10)

theorem Part.mainGood_of_settled (settled : p.initialising = none) : p.mainGood straps = p.mainGoodNow straps := by
  rw [Part.mainGood, settled]

theorem Part.mainGoodNow_of_kept (keep : p.supply = .keep) (valid : p.keepValid = some true) :
    p.mainGoodNow straps = p.enterLockout straps := by
  rw [Part.mainGoodNow, keep]
  exact if_pos valid

theorem Part.mainGoodNow_of_lost (lost : p.supply = .off ∨ p.supply = .keep ∧ p.keepValid ≠ some true) :
    p.mainGoodNow straps = p.beginCold (.atVmain straps) := by
  rw [Part.mainGoodNow]
  obtain off | ⟨keep, invalid⟩ := lost
  · rw [off]
  · rw [keep]
    exact if_neg invalid

theorem Part.mainGoodNow_of_supplied (off : p.supply ≠ .off) (keep : p.supply ≠ .keep) : p.mainGoodNow straps = p := by
  rw [Part.mainGoodNow]
  cases supply : p.supply with
  | off => exact absurd supply off
  | keep => exact absurd supply keep
  | _ => rfl

theorem Part.mainGood_of_atVkeep (off : p.supply = .off) (initialising : p.initialising = some .atVkeep) :
    p.mainGood straps = p.coldInit.enterLockout straps := by
  have completed := p.finishCold_of_initialising .atVkeep (.inl off) initialising
  rw [Part.mainGood, initialising]
  dsimp only
  rw [completed]
  rfl

theorem Part.mainGood_of_atVmain (sampled : BitVec 10) (initialising : p.initialising = some (.atVmain sampled)) :
    p.mainGood straps = p := by
  rw [Part.mainGood, initialising]

theorem Part.lockoutEnds_of_lockout (lockout : p.supply = .lockout) : p.finishCold.lockoutEnds =
    { p with supply := .verify, lockoutTimer := false, walk := some ⟨.entry 0, false⟩ } := by
  rw [p.finishCold_of_settled fun unsupplied => by simp [lockout] at unsupplied, Part.lockoutEnds, if_pos lockout]

theorem Part.keepLow_of_keep (keep : p.supply = .keep) (settled : p.initialising = none) :
    p.keepLow = { p with vkeep := .low, keepValid := some false } := by
  have notAtVkeep : ¬ (p.initialising = some .atVkeep) := by rw [settled]; simp
  rw [Part.keepLow, if_neg notAtVkeep]
  exact if_pos ⟨keep, settled⟩

theorem Part.keepLow_of_atVkeep (off : p.supply = .off) (initialising : p.initialising = some .atVkeep) :
    p.keepLow = { p.coldInit with supply := .keep, vkeep := .low, keepValid := some false } := by
  rw [Part.keepLow, if_pos initialising, p.finishCold_of_initialising .atVkeep (.inl off) initialising]
  rfl

theorem Part.keepLow_of_other (notAtVkeep : p.initialising ≠ some .atVkeep)
    (other : p.supply ≠ .keep ∨ p.initialising ≠ none) : p.keepLow = { p with vkeep := .low } := by
  rw [Part.keepLow, if_neg notAtVkeep]
  exact if_neg (by tauto)

/-- R175, R177: whether VKEEP is the last supply of a part at the moment. -/
abbrev Part.restsOnVkeep : Prop :=
  p.supply = .keep ∧ p.initialising = none ∨ p.supply = .off ∧ p.initialising = some .atVkeep

theorem Part.keepLost_of_last (last : p.restsOnVkeep) : p.keepLost = { p.enterOff with vkeep := .lost } := by
  rw [Part.keepLost, if_pos last]
  rfl

theorem Part.keepLost_of_other (notAtVkeep : p.initialising ≠ some .atVkeep)
    (other : p.supply ≠ .keep ∨ p.initialising ≠ none) : p.keepLost = { p with vkeep := .lost } := by
  rw [Part.keepLost]
  exact if_neg (by tauto)

/-- R177: a cold initialisation completes once. -/
theorem Part.finishCold_finishCold : p.finishCold.finishCold = p.finishCold := by
  by_cases cold : (p.supply = .off ∨ p.supply = .keep) ∧ ∃ c, p.initialising = some c
  · obtain ⟨unsupplied, c, initialising⟩ := cold
    rw [p.finishCold_of_initialising c unsupplied initialising]
    exact Part.finishCold_of_settled _ fun _ => by cases c <;> rfl
  · have settled := p.finishCold_of_settled fun unsupplied =>
      Option.eq_none_iff_forall_ne_some.mpr fun c initialising => cold ⟨unsupplied, c, initialising⟩
    rw [settled, settled]

end Supplies

/-- R177: a command that only a part past its cold initialisation can meet takes effect on the part it leads to. -/
theorem commandEffect_finishCold (c : Instr) (p : Part)
    (later : c = .lockoutExpiry ∨ c = .clockSecond ∨ (∃ x, c = .resetN x) ∨ ∃ w a, c = .passThroughCycle w a) :
    commandEffect c p.finishCold = commandEffect c p := by
  obtain rfl | rfl | ⟨x, rfl⟩ | ⟨w, a, rfl⟩ := later
  all_goals simp only [commandEffect, p.finishCold_finishCold]

/-- Settles O50: what the supplies and the lockout timer do where main supply does not fall. -/
theorem supplyArrives : Obligations.SupplyArrives := by
  intro s straps
  refine ⟨fun keep valid settled => ?_, fun lost settled => ?_, fun off initialising => ?_, fun off keep settled => ?_,
    fun sampled initialising => ?_, fun lockout => ?_, fun off settled => ?_, fun other => ?_, fun keep settled => ?_,
    fun off initialising => ?_, fun notAtVkeep other => ?_, fun last => ?_, fun notAtVkeep other => ?_,
    fun c unsupplied initialising later => ?_⟩
  · exact exec_of_effect _ s _
      ((s.toPart.mainGood_of_settled straps settled).trans (s.toPart.mainGoodNow_of_kept straps keep valid))
  · exact exec_of_effect _ s _
      ((s.toPart.mainGood_of_settled straps settled).trans (s.toPart.mainGoodNow_of_lost straps lost))
  · exact exec_of_effect _ s _ (s.toPart.mainGood_of_atVkeep straps off initialising)
  · exact exec_of_effect _ s _
      ((s.toPart.mainGood_of_settled straps settled).trans (s.toPart.mainGoodNow_of_supplied straps off keep))
  · exact exec_of_effect _ s _ (s.toPart.mainGood_of_atVmain straps sampled initialising)
  · exact exec_of_effect _ s _ (s.toPart.lockoutEnds_of_lockout lockout)
  · exact exec_of_effect _ s _ (if_pos ⟨off, settled⟩)
  · exact exec_of_effect _ s _ (if_neg (by tauto))
  · exact exec_of_effect _ s _ (s.toPart.keepLow_of_keep keep settled)
  · exact exec_of_effect _ s _ (s.toPart.keepLow_of_atVkeep off initialising)
  · exact exec_of_effect _ s _ (s.toPart.keepLow_of_other notAtVkeep other)
  · exact ⟨_, exec_of_effect _ s _ (s.toPart.keepLost_of_last last), rfl⟩
  · exact exec_of_effect _ s _ (s.toPart.keepLost_of_other notAtVkeep other)
  · have stepped := step_of_empty { s with pending := [] } rfl
    rw [Part.tick_of_not_verify s.toPart (Part.supply_ne_verify unsupplied)] at stepped
    refine ⟨_, stepped, ?_⟩
    rw [exec_of_effect c s _ (commandEffect_finishCold c s.toPart later).symm]
    exact (exec_of_effect c { s with toPart := s.toPart.finishCold } _ rfl).symm

end Sys2Proof.Machine

/-! PROOFS. A fall of main supply (R78, R172, R177, R184). -/

namespace Sys2Proof.Machine

section Fall

variable (p : Part)

/-- R184: memory and the draws once main supply has gone. -/
def Part.faded : Part := p.cutSettle.fadeMemory

theorem Part.cutSettle_of_none (none : p.path.settleWrite = none) : p.cutSettle = p := by
  rw [Part.cutSettle, none]

theorem Part.cutSettle_of_some (x : SettleWrite) (settle : p.path.settleWrite = some x) : p.cutSettle = { p with
    memory := p.cutSettle.memory, draws := p.draws + 1 } := by
  rw [Part.cutSettle, settle]
  dsimp only
  split <;> rfl

theorem Part.cutSettle_frame : p.cutSettle = { p with memory := p.cutSettle.memory, draws := p.cutSettle.draws } := by
  cases settle : p.path.settleWrite with
  | none => rw [p.cutSettle_of_none settle]
  | some x =>
    rw [p.cutSettle_of_some x settle]

theorem Memory.mem_writeWord (m : Memory) (w : BitVec 23) (v : Word) (c : Host.Cell)
    (mem : c ∈ Memory.writeWord m w (bytesOf v)) :
    c ∈ m ∨ c = (2 * w.toNat, highByte v) ∨ c = (2 * w.toNat + 1, lowByte v) := by
  obtain isLow | mem := Sparse.mem_insert _ _ _ c mem
  · exact .inr (.inr isLow)
  · obtain isHigh | mem := Sparse.mem_insert m _ _ c mem
    · exact .inr (.inl isHigh)
    · exact .inl mem

/-- R78, R172: a settle write cut short reaches memory or not. -/
theorem Part.mem_cutSettle (x : SettleWrite) (settle : p.path.settleWrite = some x) (c : Host.Cell)
    (mem : c ∈ p.cutSettle.memory) :
    c ∈ p.memory ∨ c = (2 * x.address.toNat, highByte x.value) ∨ c = (2 * x.address.toNat + 1, lowByte x.value) := by
  rw [Part.cutSettle, settle] at mem
  dsimp only at mem
  split at mem
  · exact Memory.mem_writeWord p.memory x.address x.value c mem
  · exact .inl mem

theorem Part.fadeMemory_frame (q : Part) (m : Memory) (d : Nat) (frame : q = { p with memory := m, draws := d }) :
    q.fadeMemory = { p with memory := q.fadeMemory.memory, memoryEpoch := p.memoryEpoch + 1, draws := d } := by
  subst frame
  rfl

theorem Part.faded_frame : p.cutSettle.fadeMemory = { p with
    memory := p.faded.memory, memoryEpoch := p.memoryEpoch + 1, draws := p.cutSettle.draws } :=
  p.fadeMemory_frame p.cutSettle _ _ p.cutSettle_frame

theorem Part.mem_faded (c : Host.Cell) (mem : c ∈ p.faded.memory) : c ∈ p.cutSettle.memory := List.mem_of_mem_filter mem

/-- R184: a fall of main supply with VKEEP good. -/
theorem Part.mainLost_of_good (good : p.vkeep = .good) : p.mainLost = { p with
    supply := .keep, initialising := none, lockoutTimer := false, walk := none, arbiter := Arbiter.idle
    tableLost := false, intake := Intake.draining, setupIgnored := false, contexts := allEmpty, awaitOrder := []
    journal := none, counters := Counters.zero, previousPage := .counters, monitor := Monitor.released
    follow := Follow.empty, sweep := none, path := MemoryPath.quiet none
    memory := p.faded.memory, memoryEpoch := p.memoryEpoch + 1, draws := p.cutSettle.draws } := by
  rw [Part.mainLost, p.faded_frame]
  exact if_pos good

/-- R175, R184: a fall of main supply with VKEEP not good. -/
theorem Part.mainLost_of_notGood (notGood : p.vkeep ≠ .good) : p.mainLost = { p.coldRetained with
    supply := .off, keepValid := none, initialising := none, lockoutTimer := false, walk := none
    arbiter := Arbiter.idle, tableLost := false, intake := Intake.draining, setupIgnored := false, contexts := allEmpty
    awaitOrder := [], journal := none, counters := Counters.zero, previousPage := .counters
    monitor := Monitor.released, follow := Follow.empty, sweep := none, path := MemoryPath.quiet none
    memory := p.faded.memory, memoryEpoch := p.memoryEpoch + 1, draws := p.cutSettle.draws } := by
  rw [Part.mainLost, p.faded_frame]
  exact if_neg notGood

theorem Part.mainLost_memory : p.mainLost.memory = p.faded.memory ∧ p.mainLost.draws = p.cutSettle.draws := by
  by_cases good : p.vkeep = .good
  · rw [p.mainLost_of_good good]
    exact ⟨rfl, rfl⟩
  · rw [p.mainLost_of_notGood good]
    exact ⟨rfl, rfl⟩

theorem Part.mainFall_of_supplied (supplied : p.supply = .lockout ∨ p.supply = .verify ∨ p.supply = .run) :
    p.mainFall = p.mainLost := by
  obtain supply | supply | supply := supplied <;> rw [Part.mainFall, supply]

theorem Part.mainFall_of_unsupplied (unsupplied : p.supply = .keep ∨ p.supply = .off) : p.mainFall = p.fallUnsupplied := by
  obtain supply | supply := unsupplied <;> rw [Part.mainFall, supply]

theorem Part.arrive_of_unsupplied (unsupplied : p.supply = .keep ∨ p.supply = .off) (w : BitVec 23) (a : Access) :
    p.arrive w a = p := by
  have refuses : ¬ (p.accepts = true) := by
    obtain supply | supply := unsupplied <;> simp [Part.accepts, supply]
  rw [Part.arrive, if_neg refuses]

theorem Part.assertReset_of_unsupplied (unsupplied : p.supply = .keep ∨ p.supply = .off) (straps : BitVec 10) :
    p.assertReset straps = p := by
  obtain supply | supply := unsupplied <;> rw [Part.assertReset, supply]

end Fall

/-- Settles O52: a fall of main supply, and what there is no main supply for. -/
theorem mainSupplyFalls : Obligations.MainSupplyFalls := by
  refine fun s => ⟨fun supplied => ?_, fun unsupplied => ⟨fun settled => ?_, fun initialising => ?_, fun straps initialising => ?_⟩⟩
  · obtain ⟨memory, draws⟩ := s.toPart.mainLost_memory
    refine ⟨_, exec_of_effect .vmainFall s _ (s.toPart.mainFall_of_supplied supplied), fun good => ?_, fun notGood => ?_,
      fun none => ?_, fun x settle => ?_⟩
    · dsimp only
      rw [s.toPart.mainLost_of_good good]
    · dsimp only
      rw [s.toPart.mainLost_of_notGood notGood]
      rfl
    · dsimp only
      rw [memory, draws, s.toPart.cutSettle_of_none none]
      refine ⟨rfl, fun c mem => ?_⟩
      have kept := s.toPart.mem_faded c mem
      rwa [s.toPart.cutSettle_of_none none] at kept
    · dsimp only
      rw [memory, draws]
      refine ⟨by rw [s.toPart.cutSettle_of_some x settle], fun c mem => ?_⟩
      exact s.toPart.mem_cutSettle x settle c (s.toPart.mem_faded c mem)
  · have cold : s.toPart.finishCold = s.toPart := s.toPart.finishCold_of_settled fun _ => settled
    refine ⟨exec_of_effect .vmainFall s s.toPart ?_, fun w a => exec_of_effect (.passThroughCycle w a) s s.toPart ?_,
      fun straps => exec_of_effect (.resetN straps) s s.toPart ?_⟩
    · exact (s.toPart.mainFall_of_unsupplied unsupplied).trans (by rw [Part.fallUnsupplied, settled])
    · exact (congrArg (Part.arrive · w a) cold).trans (s.toPart.arrive_of_unsupplied unsupplied w a)
    · exact (congrArg (Part.assertReset · straps) cold).trans (s.toPart.assertReset_of_unsupplied unsupplied straps)
  · exact exec_of_effect .vmainFall s s.toPart
      ((s.toPart.mainFall_of_unsupplied unsupplied).trans (by rw [Part.fallUnsupplied, initialising]))
  · have effect : commandEffect .vmainFall s.toPart = s.toPart.cutCold :=
      (s.toPart.mainFall_of_unsupplied unsupplied).trans (by rw [Part.fallUnsupplied, initialising])
    refine ⟨fun good => exec_of_effect _ s _ (effect.trans (if_pos good)), fun notGood => ?_⟩
    exact ⟨_, exec_of_effect _ s _ (effect.trans (if_neg notGood)), rfl⟩

end Sys2Proof.Machine

/-! PROOFS. The outputs (R137, R138, R141, R162 to R167, R186). -/

namespace Sys2Proof.Machine

section Outputs

variable (p : Part)

theorem Part.waitAsserted_iff : p.waitAsserted = true ↔ p.path.hold ≠ none ∨ p.path.waiting ≠ none := by
  simp [Part.waitAsserted, Option.isSome_iff_ne_none]

theorem Part.waitAsserted_of_rest (rests : p.atRest) : p.waitAsserted = false := by
  obtain ⟨-, -, -, -, -, -, hold, waiting, -⟩ := rests
  rw [Part.waitAsserted, hold, waiting]
  rfl

theorem Part.pwaitPin_of_rest (supplied : p.supply ≠ .off) (rests : p.atRest) : p.pwaitPin = .high := by
  rw [Part.pwaitPin, if_neg supplied, p.waitAsserted_of_rest rests]
  rfl

theorem Part.pins_outside_run (supplied : p.supply ≠ .off) (notRun : p.supply ≠ .run) :
    p.attnPin = .notDriven ∧ p.actPin = .low := by
  have quiet : (p.supply == .run) = false := by simpa using notRun
  constructor
  · rw [Part.attnPin, Part.attentionAsserted, quiet]
    rfl
  · rw [Part.actPin, if_neg supplied, Part.actHigh, quiet]
    rfl

theorem Part.pins_of_run (run : p.supply = .run) :
    p.pwaitPin = (if p.path.hold ≠ none ∨ p.path.waiting ≠ none then .low else .high)
      ∧ p.attnPin = (if p.monitor.asserted then .low else .notDriven)
      ∧ p.actPin = (if p.setup.policy.mode = .active then .high else .low) := by
  have supplied : p.supply ≠ .off := by rw [run]; simp
  refine ⟨?_, ?_, ?_⟩
  · rw [Part.pwaitPin, if_neg supplied]
    exact if_congr p.waitAsserted_iff rfl rfl
  · simp [Part.attnPin, Part.attentionAsserted, run]
  · rw [Part.actPin, if_neg supplied, Part.actHigh, run]
    exact if_congr (by simp) rfl rfl

theorem Part.mPort_of_supplied (off : p.supply ≠ .off) (keep : p.supply ≠ .keep) : p.mPort =
    match p.path.settleWrite, p.path.cycle with
    | some w, _ => .write w.address (bytesOf w.value)
    | none, some c => c.onMPort
    | none, none => .inactive := by
  rw [Part.mPort]
  cases supply : p.supply with
  | off => exact absurd supply off
  | keep => exact absurd supply keep
  | _ => rfl

theorem Part.pData_of_supplied (off : p.supply ≠ .off) (keep : p.supply ≠ .keep) : p.pData = p.path.pd := by
  rw [Part.pData]
  cases supply : p.supply with
  | off => exact absurd supply off
  | keep => exact absurd supply keep
  | _ => rfl

theorem Part.mPort_of_settle (off : p.supply ≠ .off) (keep : p.supply ≠ .keep) (x : SettleWrite)
    (settle : p.path.settleWrite = some x) : p.mPort = .write x.address (bytesOf x.value) := by
  rw [p.mPort_of_supplied off keep, settle]

theorem Part.mPort_of_cycle (off : p.supply ≠ .off) (keep : p.supply ≠ .keep) (none : p.path.settleWrite = none)
    (c : Cycle) (cycle : p.path.cycle = some c) : p.mPort = c.onMPort := by
  rw [p.mPort_of_supplied off keep, none, cycle]

theorem Part.mPort_of_idle (off : p.supply ≠ .off) (keep : p.supply ≠ .keep) (none : p.path.settleWrite = none)
    (cycle : p.path.cycle = .none) : p.mPort = .inactive := by
  rw [p.mPort_of_supplied off keep, none, cycle]

end Outputs

/-- Settles O54: the outputs in each supply state. -/
theorem outputsDriven : Obligations.OutputsDriven := by
  intro p rests
  refine ⟨fun off => ?_, fun keep => ?_, fun starting => ?_, p.pins_of_run, fun off keep => ⟨p.pData_of_supplied off keep,
    p.mPort_of_settle off keep, fun none => ⟨p.mPort_of_idle off keep none, fun w owner => ?_⟩⟩⟩
  · simp [Part.pwaitPin, Part.attnPin, Part.attentionAsserted, Part.actPin, Part.mPort, Part.pData, noBytes, off]
  · have supplied : p.supply ≠ .off := by rw [keep]; simp
    have notRun : p.supply ≠ .run := by rw [keep]; simp
    obtain ⟨attention, act⟩ := p.pins_outside_run supplied notRun
    refine ⟨p.pwaitPin_of_rest supplied (rests notRun), attention, act, ?_, ?_⟩
    · rw [Part.mPort, keep]
    · rw [Part.pData, keep]
      rfl
  · have supplied : p.supply ≠ .off := by obtain supply | supply := starting <;> rw [supply] <;> simp
    have notRun : p.supply ≠ .run := by obtain supply | supply := starting <;> rw [supply] <;> simp
    exact ⟨p.pwaitPin_of_rest supplied (rests notRun), p.pins_outside_run supplied notRun⟩
  · have carried := p.mPort_of_cycle off keep none
    exact ⟨fun l cycle => carried _ cycle, fun l v cycle => carried _ cycle, fun l cycle => carried _ cycle,
      fun b cycle => carried _ cycle, fun b x cycle => carried _ cycle, fun b cycle => carried _ cycle⟩

end Sys2Proof.Machine

/-! PROOFS. RESET_N (R20, R27, R51, R69, R77, R123, R134, R141, R171, R185). -/

namespace Sys2Proof.Machine

/-! ## Intake at RESET_N -/

section Intake

variable (p : Part)

/-- R51: a file in reception is refused at RESET_N unless its own commit runs. -/
def Part.refusedAtReset : Prop := p.intake.state = .receiving
  ∧ ¬ ((∃ c, p.arbiter.op = some (.intake (.commit c))) ∧ p.intake.answerIgnored = false)

theorem Part.ownCommitRunning_iff : p.ownCommitRunning = true ↔
    (∃ c, p.arbiter.op = some (.intake (.commit c))) ∧ p.intake.answerIgnored = false := by
  rw [Part.ownCommitRunning, Bool.and_eq_true, Bool.not_eq_true', Option.any_eq_true]
  refine and_congr_left' ⟨fun ⟨claim, running, isCommit⟩ => ?_, fun ⟨c, op⟩ => ⟨_, p.intakeRunning_of_op _ op, rfl⟩⟩
  cases claim with
  | commit c => exact ⟨c, (intakeOf_eq_some _ _).mp running⟩
  | _ => exact absurd isCommit Bool.false_ne_true

theorem Part.refusedAtReset_iff :
    (p.intake.state == .receiving && !p.ownCommitRunning) = true ↔ p.refusedAtReset := by
  rw [Bool.and_eq_true, beq_iff_eq, Bool.not_eq_true', ← Bool.not_eq_true, p.ownCommitRunning_iff]
  exact Iff.rfl

/-- R51: intake at RESET_N, its operation running or not. -/
def Part.intakeReset : Intake :=
  { p.intake.ended .idle with
    answerIgnored := p.intake.answerIgnored || p.intakeRunning.isSome
    discardOwed := p.intake.discardOwed || p.intakeRunning.isSome }

/-- R51: intake's waiting claim at RESET_N. -/
def Part.arbiterReset : Arbiter :=
  { p.arbiter with intake := if p.intakeRunning.isSome then p.arbiter.intake else some .discard }

theorem Part.endFile_orderDiscard : (p.endFile .idle).orderDiscard = { p.releaseHeldWrite with
    intake := p.intakeReset, arbiter := p.arbiterReset } := by
  have arbiter : p.releaseHeldWrite.arbiter = p.arbiter := by simp
  have running : (p.endFile .idle).intakeRunning = p.intakeRunning := by
    rw [Part.intakeRunning_eq, Part.intakeRunning_eq, p.endFile_eq, arbiter]
  rw [Part.orderDiscard, running, Part.intakeReset, Part.arbiterReset, p.endFile_eq]
  cases p.intakeRunning with
  | none => simp [Part.claimIntake, Intake.ended]
  | some c => simp

theorem Part.resetIntake_of_refused (refused : p.refusedAtReset) : p.resetIntake = { p.releaseHeldWrite with
    intake := p.intakeReset, arbiter := p.arbiterReset, counters := p.counters.refusal .abandoned } := by
  rw [Part.resetIntake, p.endFile_orderDiscard]
  dsimp only
  rw [if_pos (p.refusedAtReset_iff.mpr refused), Part.releaseHeldWrite_eq]
  rfl

theorem Part.resetIntake_of_kept (kept : ¬ p.refusedAtReset) : p.resetIntake = { p.releaseHeldWrite with
    intake := p.intakeReset, arbiter := p.arbiterReset } := by
  rw [Part.resetIntake, p.endFile_orderDiscard]
  exact if_neg (mt p.refusedAtReset_iff.mp kept)

/-- R51: what RESET_N does to intake, with the counters it leaves. -/
theorem Part.resetIntake_eq : p.resetIntake = { p with
    path := p.releaseHeldWrite.path, memory := p.releaseHeldWrite.memory, intake := p.intakeReset
    arbiter := p.arbiterReset, counters := p.resetIntake.counters } := by
  by_cases refused : p.refusedAtReset
  · rw [p.resetIntake_of_refused refused, p.releaseHeldWrite_eq]
  · rw [p.resetIntake_of_kept refused, p.releaseHeldWrite_eq]

end Intake

/-! ## The part at RESET_N -/

/-- Every context. -/
def every : Fin 4 → Bool := fun _ => true

theorem Part.resetContexts_eq (p : Part) : p.resetContexts = p.giveUp (picked every) := rfl

theorem Part.onlyGivenUp.resetting {p q : Part} (h : p.onlyGivenUp q) (j : Option Assembly) (queue : OutcomeQueue)
    (f : Follow) (m : Monitor) (path : MemoryPath) (memory : Memory) (a : Arbiter) (i : Intake) (k : Counters) :
    { q with journal := j, queue := queue, follow := f, monitor := m, path := path, memory := memory, arbiter := a
             intake := i, counters := k } = { p with
      contexts := q.contexts, store := q.store, journal := j, queue := queue, follow := f, monitor := m, path := path
      memory := memory, arbiter := a, intake := i, counters := k } := by
  conv_lhs => rw [h]

section Reset

variable (p : Part) (straps : BitVec 10)

/-- R185: the part at RESET_N once the settle write has landed and every context is given up. -/
def Part.emptied : Part := p.landSettle.giveUp (picked every)

/-- R185: the part at RESET_N before a waiting cycle is taken. -/
def Part.resetAlone : Part :=
  { p.emptied.resetIntake.abandonAssembly with
    monitor := Monitor.released, follow := Follow.empty
    path := { MemoryPath.quiet (some (fileWindowOf straps)) with pd := p.emptied.releaseHeldWrite.path.pd } }

theorem Part.landSettle_frame : p.landSettle = { p with memory := p.landSettle.memory } := by
  rw [Part.landSettle]
  split <;> rfl

theorem Part.landSettle_of_none (none : p.path.settleWrite = none) : p.landSettle = p := by
  rw [Part.landSettle, none]

theorem Part.landSettle_context (n : Fin 4) : p.landSettle.context n = p.context n := by
  rw [p.landSettle_frame]
  rfl

theorem Part.landSettle_path : p.landSettle.path = p.path := by rw [p.landSettle_frame]

theorem Part.emptied_intake : p.emptied.intake = p.intake := by
  rw [Part.emptied, p.landSettle.giveUp_frame (picked every), p.landSettle_frame]

theorem Part.emptied_intakeRunning : p.emptied.intakeRunning = p.intakeRunning := by
  have claims : p.arbiter.sameClaims p.emptied.arbiter := by
    refine Arbiter.sameClaims.trans ?_ p.landSettle.resetContexts_claims
    rw [p.landSettle_frame]
    exact Arbiter.sameClaims_refl _
  rw [Part.intakeRunning_eq, Part.intakeRunning_eq, claims.2]

theorem Part.emptied_journal : p.emptied.journal = p.journal := by
  rw [Part.emptied, p.landSettle.giveUp_frame (picked every), p.landSettle_frame]

theorem Part.resetAlone_eq : p.resetAlone straps = { p with
    contexts := p.emptied.contexts, store := p.emptied.store, journal := none, queue := p.emptied.queueAbandoned
    follow := Follow.empty, monitor := Monitor.released
    path := { MemoryPath.quiet (some (fileWindowOf straps)) with pd := p.emptied.releaseHeldWrite.path.pd }
    memory := p.emptied.releaseHeldWrite.memory, arbiter := p.emptied.arbiterReset, intake := p.emptied.intakeReset
    counters := p.emptied.resetIntake.counters } := by
  have queue : p.emptied.resetIntake.queueAbandoned = p.emptied.queueAbandoned := by
    rw [p.emptied.resetIntake_eq]
    rfl
  have frame : p.landSettle.onlyGivenUp p.emptied := p.landSettle.giveUp_frame (picked every)
  have reset := frame.resetting none p.emptied.queueAbandoned Follow.empty Monitor.released
    { MemoryPath.quiet (some (fileWindowOf straps)) with pd := p.emptied.releaseHeldWrite.path.pd }
    p.emptied.releaseHeldWrite.memory p.emptied.arbiterReset p.emptied.intakeReset p.emptied.resetIntake.counters
  refine Eq.trans ?_ (reset.trans ?_)
  · rw [Part.resetAlone, Part.abandonAssembly_eq, queue, p.emptied.resetIntake_eq]
  · conv_lhs => rw [p.landSettle_frame]

/-- R185: no read is held for a context: the memory path keeps its cycle. -/
theorem Part.emptied_path_of_notHeld (h : ∀ n, ¬ p.path.holdsFor n) :
    p.emptied.path = { p.path with settleWrite := p.emptied.path.settleWrite } := by
  have path := p.landSettle.giveUp_path_of_notHeld (picked every) fun n _ => by rw [p.landSettle_path]; exact h n
  rw [Part.emptied, path, p.landSettle_path]

/-- R77: a read held for a context goes to memory. -/
theorem Part.emptied_path_of_held (w : BitVec 23) (n : Fin 4) (l : Lanes)
    (held : p.path.cycle = some ⟨w, .context n, .read l .hold⟩) : p.emptied.path = { p.path with
      settleWrite := p.emptied.path.settleWrite, hold := none, cycle := some ⟨w, .context n, .read l .pass⟩
      pd := p.landSettle.readBytes w l } := by
  have path := p.landSettle.giveUp_path_of_held (picked every) w n l (by rw [p.landSettle_path, held])
    ((mem_picked every n).mpr rfl)
  rw [Part.emptied, path, p.landSettle_path]

theorem Part.emptied_memory : p.emptied.memory = p.landSettle.memory ∧ p.emptied.memoryEpoch = p.memoryEpoch := by
  rw [Part.emptied, p.landSettle.giveUp_frame (picked every), p.landSettle_frame]
  exact ⟨rfl, rfl⟩

/-- R185: with no held write, memory stands once the settle write has landed, and P_D as it was. -/
theorem Part.emptied_release_of_other (h : ∀ w b, p.path.cycle ≠ some ⟨w, .fileIntake, .write b .hold⟩) :
    p.emptied.releaseHeldWrite = p.emptied := by
  refine p.emptied.releaseHeldWrite_of_other fun w b => ?_
  by_cases held : ∃ n, p.path.holdsFor n
  · obtain ⟨n, w', l, cycle⟩ := held
    rw [p.emptied_path_of_held w' n l cycle]
    simp
  · push Not at held
    rw [p.emptied_path_of_notHeld held]
    exact h w b

theorem Part.emptied_path_of_unheld (h : ∀ c, p.path.cycle = some c → c.isHeld = false) :
    p.emptied.path = { p.path with settleWrite := p.emptied.path.settleWrite } := by
  refine p.emptied_path_of_notHeld fun n => ?_
  rintro ⟨w, l, cycle⟩
  exact absurd (h _ cycle) (by simp [Cycle.isHeld])

theorem Part.emptied_path_of_heldWrite (w : BitVec 23) (b : LaneBytes)
    (held : p.path.cycle = some ⟨w, .fileIntake, .write b .hold⟩) :
    p.emptied.path = { p.path with settleWrite := p.emptied.path.settleWrite } := by
  refine p.emptied_path_of_notHeld fun n => ?_
  rintro ⟨w', l, cycle⟩
  rw [held] at cycle
  simp at cycle

theorem Part.releaseHeldWrite_waiting : p.releaseHeldWrite.path.waiting = p.path.waiting := by
  rw [Part.releaseHeldWrite]
  split <;> rfl

theorem Part.emptied_waiting : p.emptied.releaseHeldWrite.path.waiting = p.path.waiting := by
  rw [Part.releaseHeldWrite_waiting]
  by_cases held : ∃ n, p.path.holdsFor n
  · obtain ⟨n, w', l, cycle⟩ := held
    rw [p.emptied_path_of_held w' n l cycle]
  · push Not at held
    rw [p.emptied_path_of_notHeld held]

/-- R169, R185: RESET_N, and the cycle that waited for the settle write. -/
theorem Part.resetRun_eq : p.resetRun straps = (Part.takeWaiting { p.resetAlone straps with
    path := { (p.resetAlone straps).path with waiting := p.path.waiting } }).grant := by
  have path : p.emptied.resetIntake.abandonAssembly.path = p.emptied.releaseHeldWrite.path := by
    rw [Part.abandonAssembly_eq, p.emptied.resetIntake_eq]
  have emptied : p.landSettle.resetContexts = p.emptied := rfl
  rw [Part.resetRun, emptied]
  dsimp only
  rw [Part.resetPath, path, p.emptied_waiting]
  rfl

theorem Part.resetRun_of_alone (none : p.path.waiting = none) : p.resetRun straps = (p.resetAlone straps).grant := by
  rw [p.resetRun_eq, none, Part.takeWaiting]
  rfl

theorem Part.resetRun_of_waiting (w : BitVec 23) (a : Access) (waiting : p.path.waiting = some (w, a)) :
    p.resetRun straps = ((p.resetAlone straps).takeCycle w a).grant := by
  rw [p.resetRun_eq, waiting, Part.takeWaiting]
  rfl

end Reset

end Sys2Proof.Machine

/-! PROOFS. RESET_N taken (R185): the obligation. -/

namespace Sys2Proof.Machine

section Reset

variable (p : Part) (straps : BitVec 10)

theorem Part.emptied_contexts : p.emptied.contexts = allEmpty := by
  rw [Part.emptied, Part.giveUp_picked_contexts]
  rfl

theorem Part.emptied_store : p.emptied.store = { p.store with table := p.emptied.store.table } := by
  have store := p.landSettle.giveUp_store (picked every)
  rw [p.landSettle_frame] at store
  rw [Part.emptied, p.landSettle_frame]
  exact store

theorem Part.emptied_arbiter : p.emptied.arbiter = { p.lookupsGiven every with
    releases := if p.arbiter.op = none then p.arbiter.releases else p.arbiter.releases ++ p.named (List.finRange 4) } := by
  rw [Part.emptied, Part.giveUp_picked_arbiter, p.landSettle_frame]
  rfl

theorem Part.emptied_counters : p.emptied.counters = { p.counters with
    unconfirmed := raised^[p.unconfirmedGiven every] p.counters.unconfirmed } := by
  rw [Part.emptied, Part.giveUp_picked_counters, p.landSettle_frame]
  rfl

theorem Part.emptied_queue : p.emptied.queueAbandoned = { p.queue with
      checkFault := p.emptied.queueAbandoned.checkFault, outcomes := p.outcomesDetached (p.outcomesKept every) }
    ∧ (p.queue.checkFault = 0 → p.emptied.queueAbandoned.checkFault = 0) := by
  have queue := p.landSettle.giveUp_queueAbandoned every _ rfl
  rw [p.landSettle_frame] at queue
  rw [Part.emptied, p.landSettle_frame]
  exact queue

theorem Part.emptied_intakeReset : p.emptied.intakeReset = { p.intake with
    state := .idle, cursor := .closed, assembly := [], buffer := [], staging := none
    trailerBuffered := false, held := none
    answerIgnored := p.intake.answerIgnored || p.intakeRunning.isSome
    discardOwed := p.intake.discardOwed || p.intakeRunning.isSome } := by
  rw [Part.intakeReset, p.emptied_intake, p.emptied_intakeRunning]
  rfl

theorem Part.emptied_refused : p.emptied.refusedAtReset ↔ p.refusedAtReset := by
  have commits : (∃ c, p.emptied.arbiter.op = some (.intake (.commit c))) ↔
      ∃ c, p.arbiter.op = some (.intake (.commit c)) := by
    simp only [← intakeOf_eq_some, ← Part.intakeRunning_eq, p.emptied_intakeRunning]
  rw [Part.refusedAtReset, Part.refusedAtReset, p.emptied_intake, commits]

theorem Part.emptied_entry (free : p.arbiter.op = none) (k : Nat) : p.emptied.store.entry k =
    (p.store.entry k).map fun e => { e with pins := e.pins - p.pinsGiven every k } := by
  have entry := p.landSettle.giveUp_picked_entry every (by rw [p.landSettle_frame]; exact free) k
  rw [p.landSettle_frame] at entry
  rw [Part.emptied, p.landSettle_frame]
  exact entry

theorem Part.emptied_store_busy (busy : p.arbiter.op ≠ none) : p.emptied.store = p.store := by
  have store := p.landSettle.giveUp_store_busy (picked every) (by rw [p.landSettle_frame]; exact busy)
  rw [Part.emptied, store, p.landSettle_frame]

theorem Part.emptied_release_of_heldWrite (w : BitVec 23) (b : LaneBytes)
    (held : p.path.cycle = some ⟨w, .fileIntake, .write b .hold⟩) :
    p.emptied.releaseHeldWrite = p.emptied.carryWrite w b .fileIntake .pass :=
  p.emptied.releaseHeldWrite_of_held w b (by rw [p.emptied_path_of_heldWrite w b held]; exact held)

/-- R171, R185: a settle write on the M-port completes. -/
theorem Part.resetAlone_settled (x : SettleWrite) (settle : p.path.settleWrite = some x) (idle : p.path.cycle = none) :
    p.memoryTakes (p.resetAlone straps) x.address ⟨some (highByte x.value), some (lowByte x.value)⟩ := by
  intro a
  have landed : p.landSettle = p.writeMemory x.address (bytesOf x.value) := by rw [Part.landSettle, settle]
  have memory : (p.resetAlone straps).memory = (p.carryWrite x.address (bytesOf x.value) .none .pass).memory := by
    rw [p.resetAlone_eq straps]
    dsimp only
    rw [p.emptied_release_of_other fun w b => by rw [idle]; simp, p.emptied_memory.1, landed]
    rfl
  have epoch : (p.resetAlone straps).memoryEpoch = p.memoryEpoch := by rw [p.resetAlone_eq straps]
  rw [Part.memoryByte_congr _ _ memory epoch]
  exact p.memoryTakes_carryWrite_pass p x.address (bytesOf x.value) .none rfl rfl a

/-- R185: a held write goes to memory. -/
theorem Part.resetAlone_written (w : BitVec 23) (b : LaneBytes)
    (held : p.path.cycle = some ⟨w, .fileIntake, .write b .hold⟩) (landed : p.landSettle = p) :
    p.memoryTakes (p.resetAlone straps) w b := by
  intro a
  obtain ⟨memory, epoch⟩ := p.emptied_memory
  rw [landed] at memory
  have same : (p.resetAlone straps).memory = (p.emptied.carryWrite w b .fileIntake .pass).memory := by
    rw [p.resetAlone_eq straps]
    dsimp only
    rw [p.emptied_release_of_heldWrite w b held]
  have sameEpoch : (p.resetAlone straps).memoryEpoch = (p.emptied.carryWrite w b .fileIntake .pass).memoryEpoch := by
    rw [p.resetAlone_eq straps]
    exact epoch.symm
  rw [Part.memoryByte_congr _ _ same sameEpoch]
  exact p.memoryTakes_carryWrite_pass p.emptied w b .fileIntake memory epoch a

end Reset

theorem resetN_effect (s : State) (straps : BitVec 10) (run : s.supply = .run) :
    commandEffect (.resetN straps) s.toPart = s.toPart.resetRun straps := by
  have effect : commandEffect (.resetN straps) s.toPart = s.toPart.finishCold.assertReset straps := rfl
  rw [effect, s.toPart.finishCold_of_settled fun unsupplied => by simp [run] at unsupplied, Part.assertReset, run]

theorem resetN_effect_starting (s : State) (straps : BitVec 10) (starting : s.supply = .lockout ∨ s.supply = .verify) :
    commandEffect (.resetN straps) s.toPart = s.toPart.sampleStraps straps := by
  have effect : commandEffect (.resetN straps) s.toPart = s.toPart.finishCold.assertReset straps := rfl
  have cold : s.toPart.finishCold = s.toPart := s.toPart.finishCold_of_settled fun unsupplied => by
    obtain supply | supply := starting <;> simp [supply] at unsupplied
  rw [effect, cold]
  obtain supply | supply := starting <;> rw [Part.assertReset, supply]

/-- Settles O53: RESET_N in RUN, and in LOCKOUT and VERIFY. -/
theorem resetTaken : Obligations.ResetTaken := by
  refine ⟨fun s straps run alone => ?_, fun s straps starting =>
    exec_of_effect _ s _ (resetN_effect_starting s straps starting)⟩
  intro every' running refused entries
  have eq := s.toPart.resetAlone_eq straps
  have named : s.toPart.named (List.finRange 4) = entries := by
    refine List.filterMap_congr fun n _ => ?_
    cases s.context n <;> rfl
  have landed : s.path.cycle ≠ none → s.toPart.landSettle = s.toPart := fun cycle =>
    s.toPart.landSettle_of_none (alone.resolve_right cycle)
  obtain ⟨memory, epoch⟩ := s.toPart.emptied_memory
  have isRefused : s.toPart.emptied.refusedAtReset ↔ refused := s.toPart.emptied_refused
  obtain ⟨queue, fault⟩ := s.toPart.emptied_queue
  refine ⟨s.toPart.resetAlone straps, fun none => ?_, fun w a waiting => ?_, ?_, fun isRef => ?_, fun isKept => ?_,
    fun busy => ?_, fun free k => ?_, fun none => ?_, fun x settle => ?_, fun w b held => ⟨?_, ?_⟩,
    fun w n l held => ?_, fun none noHeld => ?_, fun unheld => ?_⟩
  · exact exec_of_effect _ s _ ((resetN_effect s straps run).trans (s.toPart.resetRun_of_alone straps none))
  · exact exec_of_effect _ s _ ((resetN_effect s straps run).trans (s.toPart.resetRun_of_waiting straps w a waiting))
  · rw [eq, s.toPart.emptied_contexts, s.toPart.emptied_intakeReset, Part.arbiterReset, s.toPart.emptied_intakeRunning,
      s.toPart.emptied_arbiter, named]
    dsimp only
    conv_lhs => rw [s.toPart.emptied_store, queue]
    rfl
  · rw [eq]
    dsimp only
    rw [Part.resetIntake_of_refused _ (isRefused.mpr isRef), s.toPart.emptied_counters]
    rfl
  · rw [eq]
    dsimp only
    rw [Part.resetIntake_of_kept _ (mt isRefused.mp isKept), Part.releaseHeldWrite_eq, s.toPart.emptied_counters]
    rfl
  · rw [eq]
    exact s.toPart.emptied_store_busy busy
  · rw [eq]
    exact s.toPart.emptied_entry free k
  · rw [eq]
    exact fault none
  · exact s.toPart.resetAlone_settled straps x settle (alone.resolve_left (by rw [settle]; simp))
  · exact s.toPart.resetAlone_written straps w b held (landed (by rw [held]; simp))
  · rw [eq]
    exact congrArg (·.path.pd) (s.toPart.emptied_release_of_heldWrite w b held)
  · rw [eq]
    dsimp only
    rw [s.toPart.emptied_release_of_other fun w' b' => by rw [held]; simp, s.toPart.emptied_path_of_held w n l held,
      landed (by rw [held]; simp)]
    rfl
  · rw [eq]
    dsimp only
    rw [s.toPart.emptied_release_of_other noHeld, memory, s.toPart.landSettle_of_none none]
  · have noHeld : ∀ w b, s.path.cycle ≠ some ⟨w, .fileIntake, .write b .hold⟩ := fun w b cycle =>
      absurd (unheld _ cycle) (by simp [Cycle.isHeld])
    rw [eq]
    dsimp only
    rw [s.toPart.emptied_release_of_other noHeld, s.toPart.emptied_path_of_unheld unheld]

end Sys2Proof.Machine

/-! PROOFS. The verification walk completes and the part enters RUN (R26, R152, R179 to R183). -/

namespace Sys2Proof.Machine

/-! ## The table verified -/

theorem Sparse.find_mapWhere {α : Type} (m : Sparse α) (c : Nat → Prop) [DecidablePred c] (k : Nat) (f : α → α) :
    Sparse.find (m.map fun x => if c x.1 then (x.1, f x.2) else x) k
      = if c k then (Sparse.find m k).map f else Sparse.find m k := by
  induction m with
  | nil => simp [Sparse.find]
  | cons x m ih =>
    obtain ⟨a, v⟩ := x
    rw [List.map_cons]
    by_cases picks : c a
    · by_cases here : a = k
      · subst here
        simp [Sparse.find, picks]
      · simp [Sparse.find, picks, here, ih]
    · by_cases here : a = k
      · subst here
        simp [Sparse.find, picks]
      · simp [Sparse.find, picks, here, ih]

theorem Store.slot_verifyFrom (st : Store) (n k : Nat) :
    (st.verifyFrom n).slot k = if n ≤ k ∧ k < 16384 then (st.slot k).verified else st.slot k := by
  have found := Sparse.find_mapWhere st.table (fun k => n ≤ k ∧ k < 16384) k Slot.verified
  have table : (st.verifyFrom n).table = st.table.map
      fun x => if n ≤ x.1 ∧ x.1 < 16384 then (x.1, x.2.verified) else x := rfl
  rw [Store.slot, table, found]
  split
  · rw [Store.slot]
    cases Sparse.find st.table k <;> rfl
  · rfl

theorem Store.entry_of_slot (st : Store) (n : Nat) (e : Entry) : st.entry n = some e ↔ st.slot n = .held e := by
  rw [Store.entry]
  cases st.slot n <;> simp

theorem Store.mem_of_entry (st : Store) (n : Nat) (e : Entry) (entry : st.entry n = some e) : (n, .held e) ∈ st.table := by
  have slot := (st.entry_of_slot n e).mp entry
  rw [Store.slot] at slot
  cases found : Sparse.find st.table n with
  | none => simp [found] at slot
  | some x =>
    simp only [found, Option.getD_some] at slot
    exact Sparse.mem_of_find st.table n _ (found.trans (congrArg some slot))

theorem Store.entry_verifyFrom_outside (st : Store) (n k : Nat) (outside : k < n ∨ 16384 ≤ k) :
    (st.verifyFrom n).entry k = st.entry k := by
  rw [Store.entry, Store.entry, st.slot_verifyFrom, if_neg (by omega)]

theorem Store.entry_verifyFrom_free (st : Store) (n k : Nat) (free : st.entry k = none) :
    (st.verifyFrom n).entry k = none := by
  have same : ∀ f, st.slot k = .free f → (st.verifyFrom n).slot k = .free f := by
    intro f slot
    rw [st.slot_verifyFrom, slot]
    split <;> rfl
  rw [Store.entry] at free ⊢
  cases slot : st.slot k with
  | held e => simp [slot] at free
  | free f => rw [same f slot]

theorem Store.entry_verifyFrom_held (st : Store) (n k : Nat) (e : Entry) (entry : st.entry k = some e)
    (good : e.checkFault = 0) (from_ : n ≤ k) (inTable : k < 16384) : (st.verifyFrom n).entry k =
      some { e with state := if e.state = .staged then .dead else e.state, pins := 0 } := by
  have slot := (st.entry_of_slot k e).mp entry
  rw [Store.entry, st.slot_verifyFrom, if_pos ⟨from_, inTable⟩, slot, Slot.verified_of_good e good]

/-! ## The rest of the walk -/

section Rest

variable (p : Part) (stage : WalkStage) (failed : Bool)

/-- R26: the store that the rest of the walk has verified. -/
def Part.storeWalked : Store :=
  match stage with
  | .entry n => p.store.verifyFrom n
  | _ => p.store

/-- R179: the rest of the walk finds a failure, or found one before. -/
def Part.lostWalked : Bool :=
  match stage with
  | .entry n => failed || p.store.entryCheckFails n || !p.store.structureCheckHolds || !p.fileNumberCheckHolds
  | .structureCheck => failed || !p.store.structureCheckHolds || !p.fileNumberCheckHolds
  | .fileNumber => failed || !p.fileNumberCheckHolds
  | .rebuild _ => true
  | _ => failed

/-- R181: the setup verified, with its lock and its check. -/
def Part.setupVerified : Setup × Bool × Word :=
  if p.setupFault = 0 then (p.setup, p.locked, p.setupFault) else (Setup.cold, false, 0)

/-- R181: the setup that the rest of the walk leaves. -/
def Part.setupWalked : Setup × Bool × Word :=
  match stage with
  | .queueCheck => (p.setup, p.locked, p.setupFault)
  | .queueItem _ => (p.setup, p.locked, p.setupFault)
  | .rebuild _ => (p.setup, p.locked, p.setupFault)
  | .done => (p.setup, p.locked, p.setupFault)
  | _ => p.setupVerified

/-- R181: the queue verified from a place on. -/
def Part.queueFrom (n : Nat) : OutcomeQueue :=
  if n < p.queue.outcomes.length then
    { p.queue with checkFault := 0, outcomes := p.queue.outcomes.take n ++ verifiedOutcomes (p.queue.outcomes.drop n) }
  else p.queue

/-- R181: the queue that the rest of the walk has verified. -/
def Part.queueWalked : OutcomeQueue :=
  match stage with
  | .queueItem n => p.queueFrom n
  | .rebuild _ => p.queue
  | .done => p.queue
  | _ => if p.queue.checkFault = 0 then p.queueFrom 0 else { p.queue with checkFault := 0, outcomes := [] }

theorem Part.finishQueueItem_eq (n : Nat) :
    p.finishQueueItem n failed = Part.finishDeclare { p with queue := p.queueFrom n } failed := by
  rw [Part.finishQueueItem, Part.queueFrom]
  split <;> rfl

theorem Part.finishQueue_eq : p.finishQueue failed = Part.finishDeclare { p with
    queue := if p.queue.checkFault = 0 then p.queueFrom 0 else { p.queue with checkFault := 0, outcomes := [] } } failed := by
  have holds : p.queue.checkHolds = true ↔ p.queue.checkFault = 0 := by simp [OutcomeQueue.checkHolds]
  rw [Part.finishQueue]
  by_cases good : p.queue.checkFault = 0
  · rw [if_pos (holds.mpr good), if_pos good, p.finishQueueItem_eq]
  · rw [if_neg (mt holds.mp good), if_neg good]
    rfl

theorem Part.verifySetup_eq : p.verifySetup = { p with
    setup := p.setupVerified.1, locked := p.setupVerified.2.1, setupFault := p.setupVerified.2.2 } := by
  have holds : p.setupCheckHolds = true ↔ p.setupFault = 0 := by simp [Part.setupCheckHolds]
  rw [Part.verifySetup, Part.setupVerified]
  by_cases good : p.setupFault = 0
  · simp only [if_pos (holds.mpr good), if_pos good]
  · simp only [if_neg (mt holds.mp good), if_neg good]

theorem Part.finishFileNumber_eq : p.finishFileNumber failed = Part.finishDeclare { p with
    setup := p.setupVerified.1, locked := p.setupVerified.2.1, setupFault := p.setupVerified.2.2
    queue := p.queueWalked .queueCheck } (failed || !p.fileNumberCheckHolds) := by
  rw [Part.finishFileNumber, p.verifySetup_eq, Part.finishQueue_eq]
  rfl

/-- R179: the rest of the walk, its stages together. -/
theorem Part.finishWalk_eq (walk : p.walk = some ⟨stage, failed⟩) (more : stage ≠ .done) : p.finishWalk =
    Part.finishDeclare { p with
      store := p.storeWalked stage, setup := (p.setupWalked stage).1, locked := (p.setupWalked stage).2.1
      setupFault := (p.setupWalked stage).2.2, queue := p.queueWalked stage } (p.lostWalked stage failed) := by
  rw [Part.finishWalk, p.walkNow_of_some _ walk]
  cases stage with
  | entry n =>
    dsimp only
    rw [Part.finishStructure, Part.finishFileNumber_eq]
    rfl
  | structureCheck =>
    dsimp only
    rw [Part.finishStructure, Part.finishFileNumber_eq]
    rfl
  | fileNumber => exact p.finishFileNumber_eq failed
  | setup =>
    dsimp only
    rw [p.verifySetup_eq, Part.finishQueue_eq]
    rfl
  | queueCheck => exact p.finishQueue_eq failed
  | queueItem n => exact p.finishQueueItem_eq failed n
  | rebuild n => rfl
  | done => exact absurd rfl more

end Rest

end Sys2Proof.Machine

/-! PROOFS. The entry to RUN (R142, R151, R183), and the verification walk's completion. -/

namespace Sys2Proof.Machine

section Walked

variable (p : Part) (stage : WalkStage) (failed : Bool)

/-- R180: the rest of the walk declares the table lost. -/
def Part.declaresLost : Bool := p.lostWalked stage failed && stage != .done

/-- R180: the store that the walk leaves. -/
def Part.storeLeft : Store := if p.declaresLost stage failed then Store.cold else p.storeWalked stage

theorem Part.finishDeclare_eq : p.finishDeclare failed = { p with
    store := if failed then Store.cold else p.store, fileNumber := if failed then 0 else p.fileNumber
    fileNumberFault := if failed then 0 else p.fileNumberFault, tableLost := failed || p.tableLost
    walk := some ⟨.done, failed⟩ } := by
  cases failed <;> rfl

theorem Part.finishWalk_left (walk : p.walk = some ⟨stage, failed⟩) : p.finishWalk = { p with
    store := p.storeLeft stage failed
    fileNumber := if p.declaresLost stage failed then 0 else p.fileNumber
    fileNumberFault := if p.declaresLost stage failed then 0 else p.fileNumberFault
    tableLost := p.declaresLost stage failed || p.tableLost, walk := some ⟨.done, p.lostWalked stage failed⟩
    setup := (p.setupWalked stage).1, locked := (p.setupWalked stage).2.1, setupFault := (p.setupWalked stage).2.2
    queue := p.queueWalked stage } := by
  by_cases done : stage = .done
  · subst done
    have none : p.declaresLost .done failed = false := by simp [Part.declaresLost]
    rw [Part.storeLeft, none, Part.finishWalk, p.walkNow_of_some _ walk]
    rfl
  · have same : p.declaresLost stage failed = p.lostWalked stage failed := by
      rw [Part.declaresLost, bne_iff_ne.mpr done, Bool.and_true]
    rw [p.finishWalk_eq stage failed walk done, Part.finishDeclare_eq, Part.storeLeft, same]

end Walked

/-! ## The entry to RUN -/

section Entry

variable (p : Part)

/-- R183: every block at its entry values, an owed sweep not yet looked at. -/
def Part.entering : Part :=
  { p.volatileInit with
    supply := .run, walk := none, tableLost := p.walkNow.failed
    path := { MemoryPath.quiet p.path.fileWindow with pd := p.path.pd } }

theorem Part.enterRun_of_unowed (unowed : p.clock.owedSweep = false) : p.enterRun = p.entering := by
  have same : p.entering.owedTrigger = p.entering := if_neg (by simp [Part.entering, Part.volatileInit, unowed])
  have entered : p.enterRun = p.entering.owedTrigger.grant := rfl
  have idle : p.entering.claimsGranted := (Part.claimsGranted_iff _).mpr (.inr (.inr ⟨rfl, rfl, rfl, rfl⟩))
  rw [entered, same, idle]

theorem Part.enterRun_of_owed (owed : p.clock.owedSweep = true) : p.enterRun = { p.entering with
    clock := { p.clock with owedSweep := false }
    sweep := some ⟨p.serviceDay, p.setup.policy.retentionDays, 0⟩
    arbiter := { Arbiter.idle with op := some .sweep } } := by
  have triggered : p.entering.owedTrigger = { p.entering with
      clock := { p.clock with owedSweep := false }
      sweep := some ⟨p.serviceDay, p.setup.policy.retentionDays, 0⟩
      arbiter := { Arbiter.idle with sweep := true } } := if_pos owed
  have entered : p.enterRun = p.entering.owedTrigger.grant := rfl
  rw [entered, triggered, Part.grant, if_pos ⟨rfl, rfl⟩, Part.grantNext_sweep _ rfl rfl rfl rfl]
  rfl

/-- R183: the entry to RUN, an owed sweep started. -/
theorem Part.enterRun_eq : p.enterRun = { p.entering with
    clock := { p.clock with owedSweep := false }
    sweep := if p.clock.owedSweep then some ⟨p.serviceDay, p.setup.policy.retentionDays, 0⟩ else none
    arbiter := if p.clock.owedSweep then { Arbiter.idle with op := some .sweep } else Arbiter.idle } := by
  cases owed : p.clock.owedSweep with
  | true =>
    rw [p.enterRun_of_owed owed]
    rfl
  | false =>
    have clock : { p.clock with owedSweep := false } = p.clock := by rw [← owed]
    rw [p.enterRun_of_unowed owed, clock]
    rfl

end Entry

section Lost

variable (p : Part) (stage : WalkStage) (failed : Bool)

/-- The stages in their order. -/
def WalkStage.rank : WalkStage → Nat
  | .entry _ => 1
  | .structureCheck => 2
  | .fileNumber => 3
  | .setup => 4
  | .queueCheck => 5
  | .queueItem _ => 6
  | .rebuild _ => 7
  | .done => 8

/-- The entry the walk has verified up to. -/
def WalkStage.fromEntry : WalkStage → Nat
  | .entry n => n
  | _ => 16384

theorem Store.entryCheckFails_iff (st : Store) (n : Nat) : st.entryCheckFails n = true ↔
    ∃ x ∈ st.table, n ≤ x.1 ∧ x.1 < 16384 ∧ x.2.checkHolds = false := by
  simp only [Store.entryCheckFails, List.any_eq_true, Bool.and_eq_true, decide_eq_true_eq, Bool.not_eq_true', and_assoc]
  exact Iff.rfl

theorem Store.structureCheckHolds_iff (st : Store) : st.structureCheckHolds = false ↔
    st.structureFault ≠ 0 ∨ st.rebuildMark = true := by
  simp only [Store.structureCheckHolds, Bool.and_eq_false_iff, beq_eq_false_iff_ne, Bool.not_eq_false']

theorem Part.fileNumberCheckHolds_iff : p.fileNumberCheckHolds = false ↔ p.fileNumberFault ≠ 0 := by
  simp only [Part.fileNumberCheckHolds, beq_eq_false_iff_ne, ne_eq]

/-- R26, R180: the failures that the rest of the walk finds, or the walk found before. -/
theorem Part.lostWalked_iff : p.lostWalked stage failed = true ↔
    failed = true ∨ (∃ n, stage = .rebuild n)
      ∨ (∃ x ∈ p.store.table, stage.fromEntry ≤ x.1 ∧ x.1 < 16384 ∧ x.2.checkHolds = false)
      ∨ stage.rank ≤ 2 ∧ (p.store.structureFault ≠ 0 ∨ p.store.rebuildMark = true)
      ∨ stage.rank ≤ 3 ∧ p.fileNumberFault ≠ 0 := by
  have beyond : ¬ ∃ x ∈ p.store.table, 16384 ≤ x.1 ∧ x.1 < 16384 ∧ x.2.checkHolds = false := by
    rintro ⟨x, -, above, below, -⟩
    omega
  rw [← Store.structureCheckHolds_iff, ← p.fileNumberCheckHolds_iff]
  cases stage with
  | entry n =>
    rw [WalkStage.fromEntry, ← p.store.entryCheckFails_iff]
    simp [Part.lostWalked, WalkStage.rank, or_assoc]
  | _ => simp [Part.lostWalked, WalkStage.rank, WalkStage.fromEntry, beyond, or_assoc]

end Lost

end Sys2Proof.Machine

/-! PROOFS. The verification walk's completion, whatever stage it stands at (R179 to R183): the obligation. -/

namespace Sys2Proof.Machine

section Completed

variable (p : Part) (stage : WalkStage) (failed : Bool)

/-- R179, R183: the part in RUN after the walk. -/
def Part.entered : Part :=
  { p.volatileInit with
    supply := .run, walk := none, tableLost := p.lostWalked stage failed
    path := { MemoryPath.quiet p.path.fileWindow with pd := p.path.pd }
    store := p.storeLeft stage failed
    fileNumber := if p.declaresLost stage failed then 0 else p.fileNumber
    fileNumberFault := if p.declaresLost stage failed then 0 else p.fileNumberFault
    setup := (p.setupWalked stage).1, locked := (p.setupWalked stage).2.1, setupFault := (p.setupWalked stage).2.2
    queue := p.queueWalked stage, clock := { p.clock with owedSweep := false } }

theorem Part.completeWalk_eq (verify : p.supply = .verify) (walk : p.walk = some ⟨stage, failed⟩) :
    p.completeWalk = { p.entered stage failed with
      sweep := if p.clock.owedSweep then
        some ⟨(p.entered stage failed).serviceDay, (p.setupWalked stage).1.policy.retentionDays, 0⟩ else none
      arbiter := if p.clock.owedSweep then { Arbiter.idle with op := some .sweep } else Arbiter.idle } := by
  rw [Part.completeWalk, if_pos verify, Part.enterRun_eq, p.finishWalk_left stage failed walk]
  rfl

theorem Part.storeLeft_of_kept (kept : ¬ p.lostWalked stage failed = true) :
    p.storeLeft stage failed = p.storeWalked stage ∧ p.declaresLost stage failed = false := by
  have none : p.declaresLost stage failed = false := by simp [Part.declaresLost, kept]
  exact ⟨by rw [Part.storeLeft, none]; rfl, none⟩

theorem Part.storeLeft_of_lost (lost : p.lostWalked stage failed = true) (more : stage ≠ .done) :
    p.storeLeft stage failed = Store.cold ∧ p.declaresLost stage failed = true := by
  have declares : p.declaresLost stage failed = true := by simp [Part.declaresLost, lost, more]
  exact ⟨by rw [Part.storeLeft, declares]; rfl, declares⟩

/-- R26: the table that the walk has put right. -/
theorem Part.storeWalked_entries :
    (p.storeWalked stage).freeList = p.store.freeList ∧ (p.storeWalked stage).buckets = p.store.buckets
      ∧ (p.storeWalked stage).freePasses = p.store.freePasses
      ∧ (∀ n, p.store.entry n = none → (p.storeWalked stage).entry n = none)
      ∧ ∀ n, n < stage.fromEntry ∨ 16384 ≤ n → (p.storeWalked stage).entry n = p.store.entry n := by
  cases stage with
  | entry k => exact ⟨rfl, rfl, rfl, p.store.entry_verifyFrom_free k, p.store.entry_verifyFrom_outside k⟩
  | _ => exact ⟨rfl, rfl, rfl, fun _ => id, fun _ _ => rfl⟩

/-- R26: STAGED entries are DEAD and pins cleared, where no entry check fails. -/
theorem Part.storeWalked_held (kept : ¬ p.lostWalked stage failed = true) (n : Nat) (e : Entry)
    (from_ : stage.fromEntry ≤ n) (inTable : n < 16384) (entry : p.store.entry n = some e) :
    (p.storeWalked stage).entry n =
      some { e with state := if e.state = .staged then .dead else e.state, pins := 0 } := by
  cases stage with
  | entry k =>
    refine p.store.entry_verifyFrom_held k n e entry (by_contra fun bad => kept ?_) from_ inTable
    have fails : ∃ x ∈ p.store.table, k ≤ x.1 ∧ x.1 < 16384 ∧ x.2.checkHolds = false :=
      ⟨_, p.store.mem_of_entry n e entry, from_, inTable, by simpa [Slot.checkHolds, Slot.checkFault] using bad⟩
    exact (p.lostWalked_iff _ failed).mpr (.inr (.inr (.inl fails)))
  | _ => exact absurd from_ (Nat.not_le.mpr inTable)

theorem Part.setupWalked_ahead (ahead : stage.rank ≤ 4) : p.setupWalked stage = p.setupVerified := by
  cases stage with
  | queueCheck => exact absurd ahead (by decide)
  | queueItem n => exact absurd ahead (by simp [WalkStage.rank])
  | rebuild n => exact absurd ahead (by simp [WalkStage.rank])
  | done => exact absurd ahead (by decide)
  | _ => rfl

theorem Part.setupWalked_behind (behind : ¬ stage.rank ≤ 4) : p.setupWalked stage = (p.setup, p.locked, p.setupFault) := by
  cases stage with
  | entry n => exact absurd (by simp [WalkStage.rank]) behind
  | structureCheck => exact absurd (by decide) behind
  | fileNumber => exact absurd (by decide) behind
  | setup => exact absurd (by decide) behind
  | _ => rfl

/-- The place in the queue that the walk has verified up to. -/
def WalkStage.atPlace : WalkStage → Nat
  | .queueItem n => n
  | _ => 0

theorem Part.queueFrom_outcomes (n : Nat) : (p.queueFrom n).outcomes =
    p.queue.outcomes.take n ++ verifiedOutcomes (p.queue.outcomes.drop n) := by
  rw [Part.queueFrom]
  split
  next => rfl
  next beyond =>
    rw [List.take_of_length_le (by omega), List.drop_of_length_le (by omega)]
    exact (List.append_nil _).symm

theorem Part.queueWalked_whole (ahead : stage.rank ≤ 5) : p.queueWalked stage =
    if p.queue.checkFault = 0 then p.queueFrom 0 else { p.queue with checkFault := 0, outcomes := [] } := by
  cases stage with
  | queueItem n => exact absurd ahead (by simp [WalkStage.rank])
  | rebuild n => exact absurd ahead (by simp [WalkStage.rank])
  | done => exact absurd ahead (by decide)
  | _ => rfl

theorem Part.queueWalked_outcomes (ahead : stage.rank ≤ 6) (good : ¬ stage.rank ≤ 5 ∨ p.queue.checkFault = 0) :
    (p.queueWalked stage).outcomes = p.queue.outcomes.take stage.atPlace
      ++ verifiedOutcomes (p.queue.outcomes.drop stage.atPlace) := by
  by_cases whole : stage.rank ≤ 5
  · have start : stage.atPlace = 0 := by
      cases stage with
      | queueItem n => exact absurd whole (by simp [WalkStage.rank])
      | _ => rfl
    rw [p.queueWalked_whole stage whole, if_pos (good.resolve_left (not_not_intro whole)), start]
    exact p.queueFrom_outcomes 0
  · cases stage with
    | queueItem n => exact p.queueFrom_outcomes n
    | rebuild n => exact absurd ahead (by simp [WalkStage.rank])
    | done => exact absurd ahead (by decide)
    | _ => exact absurd (by simp [WalkStage.rank]) whole

theorem Part.queueWalked_failed (ahead : stage.rank ≤ 5) (bad : p.queue.checkFault ≠ 0) :
    (p.queueWalked stage).outcomes = [] := by
  rw [p.queueWalked_whole stage ahead, if_neg bad]

theorem Part.queueWalked_behind (behind : ¬ stage.rank ≤ 6) : p.queueWalked stage = p.queue := by
  cases stage with
  | rebuild n => rfl
  | done => rfl
  | _ => exact absurd (by simp [WalkStage.rank]) behind

theorem Part.queueFrom_rest (n : Nat) :
    (p.queueFrom n).nextSequence = p.queue.nextSequence ∧ (p.queueFrom n).ordinal = p.queue.ordinal := by
  rw [Part.queueFrom]
  split <;> exact ⟨rfl, rfl⟩

theorem Part.queueWalked_rest : (p.queueWalked stage).nextSequence = p.queue.nextSequence
    ∧ (p.queueWalked stage).ordinal = p.queue.ordinal := by
  by_cases whole : stage.rank ≤ 5
  · rw [p.queueWalked_whole stage whole]
    split
    · exact p.queueFrom_rest 0
    · exact ⟨rfl, rfl⟩
  · cases stage with
    | queueItem n => exact p.queueFrom_rest n
    | rebuild n => exact ⟨rfl, rfl⟩
    | done => exact ⟨rfl, rfl⟩
    | _ => exact absurd (by simp [WalkStage.rank]) whole

end Completed

/-- Settles O51: the walk completes from whatever position it stands at, and every block takes its entry values. -/
theorem walkEntersRun : Obligations.WalkEntersRun := by
  intro s stage failed verify walk fromEntry ahead lost atPlace
  have isLost : s.toPart.lostWalked stage failed = true ↔ lost := by
    rw [s.toPart.lostWalked_iff stage failed]
    cases stage <;> exact Iff.rfl
  have rank (k : Nat) : ahead k ↔ stage.rank ≤ k := by cases stage <;> exact Iff.rfl
  have place : atPlace = stage.atPlace := by cases stage <;> rfl
  have from_ : fromEntry = stage.fromEntry := by cases stage <;> rfl
  have completed := s.toPart.completeWalk_eq stage failed verify walk
  have effect := exec_of_effect .verificationWalkComplete s _ completed
  refine ⟨_, effect, rfl, rfl, rfl, rfl, rfl, rfl, rfl, rfl, rfl, rfl, rfl, rfl, rfl, rfl, isLost.mpr, fun kept => ?_,
    fun isL more => ?_, fun kept => ?_, fun done => ?_, fun good => ?_, fun isAhead bad => ?_, fun isAhead good => ?_,
    fun isAhead bad => ?_, fun behind => ?_, ?_, ?_, rfl, fun unowed => ?_, fun owed => ?_⟩
  · exact Bool.eq_false_iff.mpr (mt isLost.mp kept)
  · obtain ⟨cold, declared⟩ := s.toPart.storeLeft_of_lost stage failed (isLost.mpr isL) more
    dsimp only [Part.entered]
    rw [cold, declared]
    exact ⟨rfl, rfl, rfl⟩
  · have kept' := mt isLost.mp kept
    obtain ⟨store, declared⟩ := s.toPart.storeLeft_of_kept stage failed kept'
    obtain ⟨freeList, buckets, freePasses, free, outside⟩ := s.toPart.storeWalked_entries stage
    dsimp only [Part.entered]
    rw [store, declared, from_]
    exact ⟨rfl, freeList, buckets, freePasses, free, outside, fun n e => s.toPart.storeWalked_held stage failed kept' n e⟩
  · subst done
    have none : s.toPart.declaresLost .done failed = false := by simp [Part.declaresLost]
    dsimp only [Part.entered]
    rw [Part.storeLeft, none]
    exact ⟨rfl, rfl⟩
  · dsimp only [Part.entered]
    by_cases isAhead : stage.rank ≤ 4
    · have holds : s.setupFault = 0 := good.resolve_left (not_not_intro ((rank 4).mpr isAhead))
      rw [s.toPart.setupWalked_ahead stage isAhead, Part.setupVerified, if_pos holds]
      exact ⟨rfl, rfl⟩
    · rw [s.toPart.setupWalked_behind stage isAhead]
      exact ⟨rfl, rfl⟩
  · dsimp only [Part.entered]
    rw [s.toPart.setupWalked_ahead stage ((rank 4).mp isAhead), Part.setupVerified, if_neg bad]
    exact ⟨rfl, rfl, rfl⟩
  · rw [place]
    exact s.toPart.queueWalked_outcomes stage ((rank 6).mp isAhead) (good.imp_left (mt (rank 5).mpr))
  · exact s.toPart.queueWalked_failed stage ((rank 5).mp isAhead) bad
  · exact s.toPart.queueWalked_behind stage (mt (rank 6).mpr behind)
  · exact (s.toPart.queueWalked_rest stage).1
  · exact (s.toPart.queueWalked_rest stage).2
  · dsimp only
    rw [unowed]
    exact ⟨rfl, rfl⟩
  · dsimp only
    rw [owed]
    exact ⟨rfl, rfl⟩

end Sys2Proof.Machine

/-! PROOFS. How an operation may change the table (R4, R6, R10): the relation between two stores that every operation but a
stage-entry, a commit and a rebuild keeps, and the sum of the pass records held. -/

namespace Sys2Proof.Machine

/-! ## Tables that hold no more -/

/-- R4, R6: every entry of the second store comes from one of the first with the same serial and file tag, STAGED or
visible only where that was, and stays in every chain. -/
structure Store.calms (st after : Store) : Prop where
  mark : after.rebuildMark = st.rebuildMark
  rising : Sparse.rising st.table → Sparse.rising after.table
  entry : ∀ n x, after.entry n = some x → ∃ e, st.entry n = some e ∧ x.serial = e.serial ∧ x.fileTag = e.fileTag
    ∧ (x.visible = true → e.visible = true) ∧ (x.state = .staged → e.state = .staged)
  chain : ∀ n b x, after.entry n = some x → n ∈ st.chain b → n ∈ after.chain b

theorem Store.calms_refl (st : Store) : st.calms st where
  mark := rfl
  rising := id
  entry := fun _ x found => ⟨x, found, rfl, rfl, id, id⟩
  chain := fun _ _ _ _ => id

theorem Store.calms.trans {a b c : Store} (h : a.calms b) (k : b.calms c) : a.calms c where
  mark := k.mark.trans h.mark
  rising := k.rising ∘ h.rising
  entry := by
    intro n x found
    obtain ⟨y, between, serial, tag, visible, staged⟩ := k.entry n x found
    obtain ⟨z, before, serial', tag', visible', staged'⟩ := h.entry n y between
    exact ⟨z, before, serial.trans serial', tag.trans tag', visible' ∘ visible, staged' ∘ staged⟩
  chain := by
    intro n b x found mem
    obtain ⟨y, between, -⟩ := k.entry n x found
    exact k.chain n b x found (h.chain n b y between mem)

/-- A store that holds no more than the one before, where that one is in its canonical form. -/
def Store.tames (st after : Store) : Prop :=
  after.rebuildMark = st.rebuildMark ∧ (Sparse.rising st.table → st.calms after)

theorem Store.calms.tames {a b : Store} (h : a.calms b) : a.tames b := ⟨h.mark, fun _ => h⟩

theorem Store.tames_refl (st : Store) : st.tames st := st.calms_refl.tames

theorem Store.tames_of_eq {a b : Store} (same : b = a) : a.tames b := by
  rw [same]
  exact a.tames_refl

theorem Store.tames.trans {a b c : Store} (h : a.tames b) (k : b.tames c) : a.tames c :=
  ⟨k.1.trans h.1, fun rising => (h.2 rising).trans (k.2 ((h.2 rising).rising rising))⟩

/-- R4, R6, R47: what OneVisibleKept says of a store under a committed file number. -/
def Store.visibleHonest (st : Store) (number : BitVec 32) : Prop :=
  st.rebuildMark = true ∨ Sparse.rising st.table ∧ st.linked ∧ st.oneVisible ∧ st.oneStaged
    ∧ ∀ n e, st.entry n = some e → e.visible = true → e.fileTag.toNat ≤ number.toNat

theorem Part.visibleHonest_iff (p : Part) : p.visibleHonest ↔ p.store.visibleHonest p.fileNumber := Iff.rfl

theorem Store.atMostOne.calmed {a b : Store} {c : Entry → Bool} (one : a.atMostOne c) (calm : a.calms b)
    (keeps : ∀ x e : Entry, (x.visible = true → e.visible = true) → (x.state = .staged → e.state = .staged) →
      c x = true → c e = true) : b.atMostOne c := by
  intro m n x y foundX foundY picksX picksY same
  obtain ⟨x', beforeX, serialX, -, visibleX, stagedX⟩ := calm.entry m x foundX
  obtain ⟨y', beforeY, serialY, -, visibleY, stagedY⟩ := calm.entry n y foundY
  exact one m n x' y' beforeX beforeY (keeps x x' visibleX stagedX picksX) (keeps y y' visibleY stagedY picksY)
    (by rw [← serialX, ← serialY, same])

theorem Store.visibleHonest.tamed {a b : Store} {number : BitVec 32} (honest : a.visibleHonest number) (tame : a.tames b) :
    b.visibleHonest number := by
  obtain mark | ⟨rising, linked, oneVisible, oneStaged, tags⟩ := honest
  · exact .inl (tame.1.trans mark)
  · have calm := tame.2 rising
    refine .inr ⟨calm.rising rising, fun n x found => ?_, oneVisible.calmed calm fun _ _ visible _ => visible,
      oneStaged.calmed calm fun _ _ _ staged => by simpa using staged, fun n x found visible => ?_⟩
    · obtain ⟨e, before, serial, -⟩ := calm.entry n x found
      exact calm.chain n _ x found (serial ▸ linked n e before)
    · obtain ⟨e, before, -, tag, wasVisible, -⟩ := calm.entry n x found
      exact tag ▸ tags n e before (wasVisible visible)

/-! ## One entry changed -/

/-- An entry that stays what it is for its serial: serial and file tag as they were, STAGED or visible only where it was. -/
structure Entry.calms (e x : Entry) : Prop where
  serial : x.serial = e.serial
  tag : x.fileTag = e.fileTag
  visible : x.visible = true → e.visible = true
  staged : x.state = .staged → e.state = .staged

theorem Store.update_mark (st : Store) (n : Nat) (f : Entry → Entry) : (st.update n f).rebuildMark = st.rebuildMark := by
  rw [Store.update]
  split <;> rfl

theorem Store.update_calms (st : Store) (n : Nat) (f : Entry → Entry) (calm : ∀ e, st.entry n = some e → e.calms (f e)) :
    st.calms (st.update n f) where
  mark := st.update_mark n f
  rising := st.update_rising n f
  entry := by
    intro k x found
    rw [Store.entry_update] at found
    by_cases same : k = n
    · subst same
      rw [if_pos rfl] at found
      obtain ⟨e, before, rfl⟩ := Option.map_eq_some_iff.mp found
      exact ⟨e, before, (calm e before).serial, (calm e before).tag, (calm e before).visible, (calm e before).staged⟩
    · rw [if_neg same] at found
      exact ⟨x, found, rfl, rfl, id, id⟩
  chain := fun k b x _ mem => by rwa [Store.chain_update]

theorem Store.mapEntries_calms (st : Store) (f : Entry → Entry) (calm : ∀ e : Entry, e.calms (f e)) :
    st.calms (st.mapEntries f) where
  mark := rfl
  rising := st.mapEntries_rising f
  entry := by
    intro k x found
    rw [Store.entry_mapEntries] at found
    obtain ⟨e, before, rfl⟩ := Option.map_eq_some_iff.mp found
    exact ⟨e, before, (calm e).serial, (calm e).tag, (calm e).visible, (calm e).staged⟩
  chain := fun _ _ _ _ => id

theorem Entry.calms_pins (e : Entry) (k : Nat) : e.calms { e with pins := k } := ⟨rfl, rfl, id, id⟩

theorem Entry.calms_dead (e : Entry) : e.calms (e.become .dead) :=
  ⟨rfl, rfl, fun visible => absurd visible (by simp [Entry.visible, Entry.become]), fun staged => by cases staged⟩

theorem Entry.calms_self (e : Entry) : e.calms e := ⟨rfl, rfl, id, id⟩

/-- R16, R18: a visible entry made APPLIED. -/
theorem Entry.calms_applied (e : Entry) (day : Nat) (visible : e.visible = true) : e.calms (e.become (.applied day)) :=
  ⟨rfl, rfl, fun _ => visible, fun staged => by cases staged⟩

theorem Entry.calms_withPass (e : Entry) (q : PassRecord) : e.calms (e.withPass q) := by
  rw [Entry.withPass]
  cases e.part <;> exact ⟨rfl, rfl, id, id⟩

theorem Entry.calms_position (e : Entry) (k : Option Nat) : e.calms { e with position := k, checkFault := 0 } :=
  ⟨rfl, rfl, id, id⟩

/-! ## An entry reclaimed -/

theorem Sparse.find_erase_of_ne {α : Type} (m : Sparse α) (k j : Nat) (other : j ≠ k) :
    Sparse.find (Sparse.erase m k) j = Sparse.find m j := by
  induction m with
  | nil => rfl
  | cons x m ih =>
    obtain ⟨a, v⟩ := x
    by_cases here : a = k
    · rw [Sparse.erase, if_pos here, Sparse.find, if_neg (by omega)]
    · rw [Sparse.erase, if_neg here, Sparse.find, Sparse.find, ih]

theorem Store.mem_chain_withChain_erase (st : Store) (b : Nat) (n k : Nat) (x : Nat) (other : k ≠ n)
    (mem : k ∈ st.chain x) : k ∈ (st.withChain b ((st.chain b).erase n)).chain x := by
  by_cases own : x = b
  · subst own
    have stays : k ∈ (st.chain x).erase n := (List.mem_erase_of_ne other).mpr mem
    rwa [Store.chain_withChain_of_ne_nil _ _ _ (List.ne_nil_of_mem stays)]
  · rw [Store.chain, Store.withChain]
    dsimp only
    split
    · rw [Sparse.find_erase_of_ne _ _ _ own]
      exact mem
    · rw [Sparse.find_insert, if_neg own]
      exact mem

theorem Store.unlink_mark (st : Store) (n : Nat) (e : Entry) : (st.unlink n e).rebuildMark = st.rebuildMark := by
  rw [Store.unlink]
  split
  · rfl
  · exact Store.update_mark _ _ _

theorem Store.mem_chain_unlink (st : Store) (n : Nat) (e : Entry) (k x : Nat) (other : k ≠ n) (mem : k ∈ st.chain x) :
    k ∈ (st.unlink n e).chain x := by
  rw [Store.unlink]
  split
  · exact st.mem_chain_withChain_erase _ n k x other mem
  next m _ =>
    have same (b : Nat) : (st.update m fun y => { y with position := e.position, checkFault := 0 }).chain b = st.chain b :=
      st.chain_update m _ b
    rw [← same (bucketOf e.serial)]
    exact Store.mem_chain_withChain_erase _ _ n k x other (by rwa [same])

theorem Store.reclaim_eq (st : Store) (n : Nat) (e : Entry) (entry : st.entry n = some e) : st.reclaim n =
    { (st.unlink n e).withSlot n (.free 0) with
      freeList := (st.unlink n e).freeList ++ [n]
      freePasses := (st.unlink n e).freePasses + e.passes.length
      structureFault := 0 } := by
  rw [Store.reclaim, entry]
  rfl

theorem Store.reclaim_mark (st : Store) (n : Nat) : (st.reclaim n).rebuildMark = st.rebuildMark := by
  cases entry : st.entry n with
  | none => rw [Store.reclaim, entry]
  | some e =>
    rw [st.reclaim_eq n e entry]
    exact st.unlink_mark n e

/-- R8: a reclaim takes an entry and leaves the rest as they stand, but for a bucket position. -/
theorem Store.reclaim_calms (st : Store) (n : Nat) (rising : Sparse.rising st.table) : st.calms (st.reclaim n) := by
  cases entry : st.entry n with
  | none =>
    have same : st.reclaim n = st := by rw [Store.reclaim, entry]
    rw [same]
    exact st.calms_refl
  | some e =>
    obtain ⟨gone, -⟩ := st.reclaim_effect n e entry rising
    refine ⟨?_, fun _ => ?_, fun k x found => ?_, fun k b x found mem => ?_⟩
    · exact st.reclaim_mark n
    · rw [st.reclaim_eq n e entry]
      exact Store.withSlot_rising (st.unlink n e) n (.free 0) (st.unlink_rising n e rising)
    · have other : k ≠ n := by
        rintro rfl
        rw [gone] at found
        cases found
      rw [st.entry_reclaim n e entry rising k other] at found
      split at found
      · obtain ⟨y, before, rfl⟩ := Option.map_eq_some_iff.mp found
        exact ⟨y, before, rfl, rfl, id, id⟩
      · exact ⟨x, found, rfl, rfl, id, id⟩
    · have other : k ≠ n := by
        rintro rfl
        rw [gone] at found
        cases found
      rw [st.reclaim_eq n e entry]
      exact st.mem_chain_unlink n e k b other mem

theorem Store.reclaim_tames (st : Store) (n : Nat) : st.tames (st.reclaim n) :=
  ⟨st.reclaim_mark n, st.reclaim_calms n⟩

theorem Store.makeRoom_cases (st : Store) : st.makeRoom = st ∨ ∃ n, st.lowestReclaimable (fun _ => true) = some n
    ∧ st.makeRoom = st.reclaim n := by
  rw [Store.makeRoom]
  split
  · cases lowest : st.lowestReclaimable fun _ => true with
    | none => exact .inl rfl
    | some n => exact .inr ⟨n, rfl, rfl⟩
  · exact .inl rfl

theorem Store.makePassRoom_cases (st : Store) : st.makePassRoom = st
    ∨ ∃ n, st.lowestReclaimable (fun e => !e.passes.isEmpty) = some n ∧ st.makePassRoom = st.reclaim n := by
  rw [Store.makePassRoom]
  split
  · cases lowest : st.lowestReclaimable fun e => !e.passes.isEmpty with
    | none => exact .inl rfl
    | some n => exact .inr ⟨n, rfl, rfl⟩
  · exact .inl rfl

theorem Store.makeRoom_tames (st : Store) : st.tames st.makeRoom := by
  obtain same | ⟨n, -, reclaimed⟩ := st.makeRoom_cases
  · exact Store.tames_of_eq same
  · rw [reclaimed]
    exact st.reclaim_tames n

theorem Store.makePassRoom_tames (st : Store) : st.tames st.makePassRoom := by
  obtain same | ⟨n, -, reclaimed⟩ := st.makePassRoom_cases
  · exact Store.tames_of_eq same
  · rw [reclaimed]
    exact st.reclaim_tames n

theorem Store.killStaged_calms (st : Store) (serial : BitVec 64) : st.calms (st.killStaged serial) := by
  rw [Store.killStaged]
  split
  · exact st.calms_refl
  · exact st.update_calms _ _ fun e _ => e.calms_dead

theorem Store.discard_calms (st : Store) : st.calms st.discard :=
  st.mapEntries_calms _ fun e => by
    split
    · exact e.calms_dead
    · exact e.calms_self

theorem Store.sweepStep_tames (st : Store) (day : Option Nat) (retention n : Nat) :
    st.tames (st.sweepStep day retention n) := by
  have killed := (st.update_calms n (fun x => x.become .dead) fun e _ => e.calms_dead).tames
  rw [Store.sweepStep]
  split
  · exact st.tames_refl
  · split
    · dsimp only
      split
      · exact killed.trans (Store.reclaim_tames _ n)
      · exact killed
    · split
      · exact st.reclaim_tames n
      · exact st.tames_refl

end Sys2Proof.Machine

/-! PROOFS. What the contexts, the journal and the decisions do to the table (R12, R16, R18, R61): entries pinned, unpinned,
and visible ones made APPLIED or DEAD, and no more. -/

namespace Sys2Proof.Machine

/-! ## A table touched -/

/-- An entry with its pins, its position, its check or its visible state changed. -/
structure Entry.touches (e x : Entry) : Prop where
  calm : e.calms x
  part : x.part = e.part
  keeps : e.state = .staged → x.state = .staged

/-- R12, R16, R18: the stores that entries touched one after another lead to. -/
inductive Store.Touched (st : Store) : Store → Prop
  | same : Touched st st
  | touch {after : Store} (n : Nat) (f : Entry → Entry) (before : Touched st after)
      (touches : ∀ e, after.entry n = some e → e.touches (f e)) : Touched st (after.update n f)

theorem Store.Touched.trans {a b c : Store} (h : a.Touched b) (k : b.Touched c) : a.Touched c := by
  induction k with
  | same => exact h
  | touch n f _ touches ih => exact .touch n f ih touches

theorem Store.touched_of_eq {a b : Store} (same : b = a) : a.Touched b := by
  rw [same]
  exact .same

theorem Store.Touched.tames {a b : Store} (h : a.Touched b) : a.tames b := by
  induction h with
  | same => exact a.tames_refl
  | touch n f _ touches ih => exact ih.trans (Store.update_calms _ n f fun e found => (touches e found).calm).tames

theorem Entry.touches_pins (e : Entry) (k : Nat) : e.touches { e with pins := k } := ⟨e.calms_pins k, rfl, id⟩

theorem Entry.touches_self (e : Entry) : e.touches e := ⟨e.calms_self, rfl, id⟩

theorem Entry.touches_dead (e : Entry) (visible : e.visible = true) : e.touches (e.become .dead) :=
  ⟨e.calms_dead, rfl, fun staged => absurd staged (e.visible_ne_staged visible)⟩

theorem Entry.touches_applied (e : Entry) (day : Nat) (visible : e.visible = true) : e.touches (e.become (.applied day)) :=
  ⟨e.calms_applied day visible, rfl, fun staged => absurd staged (e.visible_ne_staged visible)⟩

theorem Store.pin_touched (st : Store) (n : Nat) : st.Touched (st.pin n) := .touch n _ .same fun e _ => e.touches_pins _

theorem Store.unpin_touched (st : Store) (n : Nat) : st.Touched (st.unpin n) := .touch n _ .same fun e _ => e.touches_pins _

/-- R16: a confirmation mark makes a LIVE entry APPLIED, or touches nothing. -/
theorem Store.mark_touched (st : Store) (m : MarkClaim) (day : Nat) : st.Touched (st.mark m day) := by
  refine .touch m.entry _ .same fun e _ => ?_
  split
  next markable =>
    refine e.touches_applied day ?_
    rw [Entry.markable, Bool.and_eq_true, Bool.and_eq_true, Bool.and_eq_true, beq_iff_eq] at markable
    obtain ⟨⟨⟨live, -⟩, -⟩, -⟩ := markable
    simp [Entry.visible, live]
  next => exact e.touches_self

/-! ## The contexts -/

section Contexts

variable (p : Part)

theorem Part.releasePin_touched (n : Nat) : p.store.Touched (p.releasePin n).store := by
  rw [Part.releasePin]
  split
  · exact p.store.unpin_touched n
  · exact .same

theorem Part.dropPresentation_touched (n : Fin 4) (pr : Presentation) : p.store.Touched (p.dropPresentation n pr).store := by
  rw [p.dropPresentation_fields n pr]
  dsimp only
  split
  · exact p.store.unpin_touched _
  · exact .same

theorem Part.abandon_touched (n : Fin 4) : p.store.Touched (p.abandon n).store := by
  obtain ⟨-, -, given⟩ | ⟨-, -, given⟩ | ⟨pr, -, -, given⟩ := p.abandon_cases n
  · rw [given]
    exact .same
  · rw [given]
    exact .same
  · rw [given]
    exact p.dropPresentation_touched n pr

theorem Part.resetContext_touched (n : Fin 4) : p.store.Touched (p.resetContext n).store := by
  rw [p.resetContext_store]
  exact p.abandon_touched n

theorem Part.giveUp_touched (l : List (Fin 4)) : p.store.Touched (p.giveUp l).store := by
  induction l generalizing p with
  | nil => exact .same
  | cons n rest ih => exact (p.resetContext_touched n).trans (ih (p.resetContext n))

theorem Part.endSettling_touched (n : Fin 4) (pr : Presentation) : p.store.Touched (p.endSettling n pr).store := by
  rw [Part.endSettling]
  split
  · exact p.releasePin_touched _
  · split
    · exact .same
    · exact p.releasePin_touched _
    · exact p.releasePin_touched _

theorem Part.amendedWith_touched (n : Fin 4) (pr : Presentation) : p.store.Touched (p.amendedWith n pr).store := by
  rw [Part.amendedWith]
  split
  · exact .same
  · exact p.endSettling_touched n pr

theorem Part.captureWrite_store (n : Fin 4) (copy : List LaneBytes) (k : Nat) (b : LaneBytes) :
    (p.captureWrite n copy k b).store = p.store := by
  simp

theorem Part.contextWrite_touched (n : Fin 4) (k : Nat) (b : LaneBytes) : p.store.Touched (p.contextWrite n k b).1.store := by
  have overtaken : p.store.Touched ((p.abandon n).beginPresentation n b).store := p.abandon_touched n
  rw [Part.contextWrite]
  split
  · dsimp only
    split <;> exact .same
  · dsimp only
    split
    · exact .same
    · exact Store.touched_of_eq (p.captureWrite_store n _ k b)
  · dsimp only
    split
    · exact overtaken
    · exact .same
  · split
    · exact overtaken
    · split
      · exact .same
      · exact p.amendedWith_touched n _
  · split
    · exact overtaken
    · split <;> exact .same

theorem Part.afterConfirmation_touched (n : Fin 4) (pr : Presentation) (isSettled : Bool) :
    p.store.Touched (p.afterConfirmation n pr isSettled).store := by
  rw [Part.afterConfirmation]
  split
  · exact p.releasePin_touched _
  · exact .same

theorem Part.offerSerial_touched (serial : BitVec 64) (amendable : Bool) :
    p.store.Touched (p.offerSerial serial amendable).1.store := by
  rw [Part.offerSerial]
  split
  · exact .same
  · split
    · exact .same
    · split
      · exact .same
      · dsimp only
        refine Store.Touched.trans (Store.touched_of_eq ?_) (Part.afterConfirmation_touched _ _ _ _)
        split <;> simp

theorem Part.closingWrite_store (a : Assembly) (b : LaneBytes) (carried broken : Part → Part)
    (hc : (carried p).store = p.store) (hb : (broken p).store = p.store) :
    (p.closingWrite a b carried broken).1.store = p.store := by
  simp only [Part.closingWrite, Part.withAssembly]
  repeat' split
  all_goals simp [hc, hb]

theorem Part.tapWrite_touched (a : Assembly) (offered : Bool) (answer : TapMatch) (early : Bool) (k : Nat)
    (b : LaneBytes) : p.store.Touched (p.tapWrite a offered answer early k b).1.store := by
  rw [Part.tapWrite]
  split
  · exact p.offerSerial_touched _ _
  · refine Store.touched_of_eq ?_
    split
    · split <;> simp
    · split
      · split
        · exact p.closingWrite_store a b _ _ (by simp) (by simp)
        · simp
      · simp

theorem Part.journalWrite_touched (record k : Nat) (b : LaneBytes) :
    p.store.Touched (p.journalWrite record k b).1.store := by
  rw [Part.journalWrite]
  split
  · exact Store.touched_of_eq (by simp)
  · split
    · exact .same
    · split
      · rw [Part.recordWrite]
        split
        · exact Store.touched_of_eq (by simp)
        · exact Store.touched_of_eq (by simp)
        · exact p.tapWrite_touched _ _ _ _ k b
        · exact Store.touched_of_eq (by simp)
      · exact .same

theorem Part.noteSettled_touched (w : SettleWrite) : p.store.Touched (p.noteSettled w).store := by
  rw [Part.noteSettled]
  split
  · exact p.amendedWith_touched _ _
  · exact .same

/-! ## Cycles -/

theorem Part.takeCycle_touched (w : BitVec 23) (a : Access) : p.store.Touched (p.takeCycle w a).store := by
  rw [Part.takeCycle.eq_def]
  split
  · exact Store.touched_of_eq (by simp)
  · exact Store.touched_of_eq (by simp)
  next b _ =>
    rw [Part.takeWrite]
    split
    · exact Store.touched_of_eq (by simp)
    · exact Store.touched_of_eq (by simp)
    next n k _ =>
      dsimp only
      exact Store.Touched.trans (p.contextWrite_touched n k b) (Store.touched_of_eq (by simp))
    next r k _ =>
      dsimp only
      exact Store.Touched.trans (p.journalWrite_touched r k b) (Store.touched_of_eq (by simp))
    · exact Store.touched_of_eq (by simp)
  · exact Store.touched_of_eq (by simp)

theorem Part.arrive_touched (w : BitVec 23) (a : Access) : p.store.Touched (p.arrive w a).store := by
  rw [Part.arrive]
  split
  · split
    · exact .same
    · rw [Part.grant_store]
      exact p.takeCycle_touched w a
  · exact .same

theorem Part.takeWaiting_touched : p.store.Touched p.takeWaiting.store := by
  rw [Part.takeWaiting]
  split
  · exact .same
  next w a _ => exact Part.takeCycle_touched { p with path := { p.path with waiting := none } } w a

theorem Part.completeSettle_touched : p.store.Touched p.completeSettle.store := by
  cases settle : p.path.settleWrite with
  | none =>
    rw [Part.completeSettle, settle]
    exact .same
  | some x =>
    have landed : (p.settleLanded x).store = p.store := rfl
    rw [p.completeSettle_eq x settle, Part.grant_store, ← landed]
    exact ((p.settleLanded x).noteSettled_touched x).trans (Part.takeWaiting_touched _)

/-! ## Decisions -/

theorem Part.takeAmending_touched (n : Fin 4) (snapshot : List Word) (written : List Lanes) (d : Amending) (entry : Nat)
    (action : BitVec 32) (image : List Word) :
    p.store.Touched (p.takeAmending n snapshot written d entry action image).store := p.store.pin_touched entry

theorem Part.applyFound_touched (k : Nat) (e : Entry) (entry : p.store.entry k = some e) (visible : e.visible = true) :
    p.store.Touched (p.applyFound k).store := by
  rw [Part.applyFound]
  split
  · exact .same
  · refine .touch k _ .same fun x found => ?_
    obtain rfl : e = x := Option.some.inj (entry.symm.trans found)
    exact e.touches_applied _ visible

theorem Part.carryDecision_touched (n : Fin 4) (snapshot : List Word) (written : List Lanes) (k : Nat) (e : Entry)
    (d : Decision) (entry : p.store.entry k = some e) (visible : e.visible = true) :
    p.store.Touched (p.carryDecision n snapshot written k e d).store := by
  cases d with
  | restore image placed dropped => exact p.store.pin_touched k
  | block image cleared =>
    refine (p.store.pin_touched k).trans (Store.touched_of_eq ?_)
    rw [Part.carryDecision, Part.attentionIf_eq]
    rfl
  | blockOnly image =>
    refine (p.store.pin_touched k).trans (Store.touched_of_eq ?_)
    rw [Part.carryDecision, Part.attentionIf_eq]
    rfl
  | skipLive inserted =>
    refine ((p.count Counters.presentation).applyFound_touched k e entry visible).trans (Store.touched_of_eq ?_)
    simp [Part.carryDecision]
  | expired =>
    refine .touch k _ .same fun x found => ?_
    obtain rfl : e = x := Option.some.inj (entry.symm.trans found)
    exact e.touches_dead visible
  | _ => exact Store.touched_of_eq (by simp [Part.carryDecision, Part.attentionIf_eq])

theorem Part.decideLookup_touched (n : Fin 4) (snapshot : List Word) (written : List Lanes) :
    p.store.Touched (p.decideLookup n snapshot written).store := by
  have answered : (p.decideLookup n snapshot written).store = (p.decided n snapshot written).store := by
    rw [p.decideLookup_eq]
    simp
  rw [answered]
  cases found : p.store.lookup (imageSerial snapshot) with
  | none =>
    rw [p.decided_of_none n snapshot written found]
    exact .same
  | some x =>
    obtain ⟨entry, visible, -⟩ := (lookupAnswersVisible p.store (imageSerial snapshot)).1 x.1 x.2 found
    rw [p.decided_of_some n snapshot written x.1 x.2 found]
    exact p.carryDecision_touched n snapshot written x.1 x.2 _ entry visible

theorem Part.completeLookup_touched : p.store.Touched p.completeLookup.store := by
  rw [Part.completeLookup]
  split
  · dsimp only
    rw [Part.grant_store]
    split
    · exact p.tableFree.decideLookup_touched _ _ _
    · exact .same
  · exact .same

theorem Part.completeMark_touched : p.store.Touched p.completeMark.store := by
  rw [Part.completeMark]
  split
  · rw [Part.grant_store]
    exact p.store.mark_touched _ _
  · rw [Part.grant_store]
    exact p.store.mark_touched _ _
  · exact .same

theorem Part.takeRelease_touched : p.store.Touched p.takeRelease.store := by
  rw [Part.takeRelease]
  split
  · rw [Part.grant_store]
    exact p.store.unpin_touched _
  · exact .same

/-! ## Timers and RESET_N -/

theorem Part.expireHold_touched : p.store.Touched p.expireHold.store := by
  rw [Part.expireHold]
  split
  next w n l _ =>
    rw [Part.grant_store]
    exact (p.abandon_touched n).trans (Store.touched_of_eq (by simp))
  next => exact .same

theorem Part.expireAwait_touched (n : Fin 4) : p.store.Touched (p.expireAwait n).store := by
  rw [Part.expireAwait]
  split
  · split <;> exact .same
  · split
    next pr _ _ =>
      rw [Part.grant_store]
      exact (p.giveUpResult n).releasePin_touched pr.entry
    next => exact .same
  · exact .same
  · exact .same
  · exact .same

theorem Part.assertReset_touched (straps : BitVec 10) : p.store.Touched (p.assertReset straps).store := by
  rw [Part.assertReset]
  split
  · exact .same
  · exact .same
  · exact .same
  · exact .same
  · have emptied : p.store.Touched p.emptied.store := by
      have given := p.landSettle.giveUp_touched (picked every)
      have landed : p.landSettle.store = p.store := by rw [p.landSettle_frame]
      rwa [landed] at given
    have reset : (p.resetAlone straps).store = p.emptied.store := by rw [p.resetAlone_eq]
    rw [p.resetRun_eq, Part.grant_store]
    refine (reset ▸ emptied).trans ?_
    exact Part.takeWaiting_touched { p.resetAlone straps with
      path := { (p.resetAlone straps).path with waiting := p.path.waiting } }

end Contexts

end Sys2Proof.Machine

/-! PROOFS. One visible and one STAGED entry of a serial (R4, R6, R47) under the operations of the table: staging, commits, the
verification walk. -/

namespace Sys2Proof.Machine

/-! ## Staging -/

/-- R13: with every entry linked and one STAGED entry of a serial at most, the earlier one is found and made DEAD. -/
theorem Store.killStaged_noneStaged (st : Store) (serial : BitVec 64) (linked : st.linked) (one : st.oneStaged) (k : Nat)
    (e : Entry) (entry : (st.killStaged serial).entry k = some e) (staged : e.state = .staged) : e.serial ≠ serial := by
  rintro rfl
  rw [Store.entry_killStaged] at entry
  split at entry
  next =>
    obtain ⟨x, -, rfl⟩ := Option.map_eq_some_iff.mp entry
    cases staged
  next other =>
    have isStaged : ∃ m, st.stagedOf e.serial = some m := by
      rw [← Option.isSome_iff_exists, Store.stagedOf, List.find?_isSome]
      exact ⟨k, linked k e entry, by simp [entry, staged]⟩
    obtain ⟨m, found⟩ := isStaged
    have picks := List.find?_some found
    cases entryM : st.entry m with
    | none => simp [entryM] at picks
    | some x =>
      simp only [entryM, Bool.and_eq_true, beq_iff_eq] at picks
      obtain rfl := one m k x e entryM entry (by simpa using picks.1) (by simpa using staged) picks.2
      exact other found

section Take

variable (st : Store) (n : Nat) (rest : List Nat) (r : EntryRecord) (number : BitVec 32)

theorem Store.take_rising (rising : Sparse.rising st.table) : Sparse.rising (st.take n rest r number).table :=
  Store.withSlot_rising _ n _ rising

theorem Store.take_mark : (st.take n rest r number).rebuildMark = st.rebuildMark := rfl

/-- R13: the entry taken is STAGED, and every other stands. -/
theorem Store.entry_take (k : Nat) (x : Entry) (entry : (st.take n rest r number).entry k = some x) :
    (k = n ∧ x.serial = r.serial ∧ x.state = .staged ∧ x.passes = r.part.passes ∧ x.part = r.part)
      ∨ k ≠ n ∧ st.entry k = some x := by
  by_cases same : k = n
  · subst same
    rw [st.entry_take_same] at entry
    obtain rfl := Option.some.inj entry
    refine .inl ⟨rfl, rfl, rfl, ?_, rfl⟩
    cases r.part <;> rfl
  · rw [st.entry_take_other n rest r number k same] at entry
    exact .inr ⟨same, entry⟩

theorem Store.visibleHonest.take {st : Store} {committed : BitVec 32} (honest : st.visibleHonest committed)
    (none : st.rebuildMark = false → ∀ k e, st.entry k = some e → e.state = .staged → e.serial ≠ r.serial) :
    (st.take n rest r number).visibleHonest committed := by
  cases mark : st.rebuildMark with
  | true => exact .inl mark
  | false =>
    have fresh := none mark
    obtain marked | ⟨rising, linked, oneVisible, oneStaged, tags⟩ := honest
    · exact .inl marked
    have notVisible (x : Entry) (staged : x.state = .staged) : x.visible ≠ true := fun visible =>
      x.visible_ne_staged visible staged
    refine .inr ⟨st.take_rising n rest r number rising, fun k x entry => ?_, fun j k x y entryX entryY visX visY same => ?_,
      fun j k x y entryX entryY stagedX stagedY same => ?_, fun k x entry visible => ?_⟩
    · rw [st.chain_take, List.mem_append]
      obtain ⟨rfl, serial, -⟩ | ⟨-, before⟩ := st.entry_take n rest r number k x entry
      · rw [serial, if_pos rfl]
        exact .inr (List.mem_singleton_self _)
      · exact .inl (linked k x before)
    · obtain ⟨-, -, staged, -⟩ | ⟨-, beforeX⟩ := st.entry_take n rest r number j x entryX
      · exact absurd visX (notVisible x staged)
      obtain ⟨-, -, staged, -⟩ | ⟨-, beforeY⟩ := st.entry_take n rest r number k y entryY
      · exact absurd visY (notVisible y staged)
      exact oneVisible j k x y beforeX beforeY visX visY same
    · obtain ⟨isX, serialX, -⟩ | ⟨-, beforeX⟩ := st.entry_take n rest r number j x entryX
      · obtain ⟨isY, -⟩ | ⟨-, beforeY⟩ := st.entry_take n rest r number k y entryY
        · rw [isX, isY]
        · exact absurd (same.symm.trans serialX) (fresh k y beforeY (by simpa using stagedY))
      · obtain ⟨isY, serialY, -⟩ | ⟨-, beforeY⟩ := st.entry_take n rest r number k y entryY
        · exact absurd (same.trans serialY) (fresh j x beforeX (by simpa using stagedX))
        · exact oneStaged j k x y beforeX beforeY stagedX stagedY same
    · obtain ⟨-, -, staged, -⟩ | ⟨-, before⟩ := st.entry_take n rest r number k x entry
      · exact absurd visible (notVisible x staged)
      · exact tags k x before visible

end Take

theorem Store.visibleHonest.stageEntry {st after : Store} {committed : BitVec 32} (honest : st.visibleHonest committed)
    (r : EntryRecord) (number : BitVec 32) (n : Nat) (stored : st.stageEntry r number = some (after, n)) :
    after.visibleHonest committed := by
  have killed := (st.killStaged_calms r.serial).tames
  have room := (st.killStaged r.serial).makeRoom_tames
  cases free : (st.killStaged r.serial).makeRoom.freeList with
  | nil =>
    rw [st.stageEntry_full r number free] at stored
    cases stored
  | cons m rest =>
    rw [st.stageEntry_taken m rest r number free] at stored
    obtain ⟨rfl, rfl⟩ := Prod.mk.inj (Option.some.inj stored)
    refine (honest.tamed (killed.trans room)).take m rest r number fun mark k e entry staged => ?_
    obtain marked | ⟨rising, linked, -, oneStaged, -⟩ := honest
    · exact absurd ((killed.trans room).1.trans marked) (by simp [mark])
    · obtain ⟨x, before, serial, -, -, wasStaged⟩ := (room.2 ((killed.2 rising).rising rising)).entry k e entry
      rw [serial]
      exact st.killStaged_noneStaged r.serial linked oneStaged k x before (wasStaged staged)

theorem Store.stagePass_tames (st after : Store) (entry : Option Nat) (q : PassRecord)
    (stored : st.stagePass entry q = some after) : st.tames after := by
  cases entry with
  | none => cases stored
  | some n =>
    by_cases room : st.makePassRoom.freePasses = 0
    · rw [st.stagePass_full n q room] at stored
      cases stored
    · rw [st.stagePass_stored n q room] at stored
      obtain rfl := Option.some.inj stored
      refine st.makePassRoom_tames.trans ?_
      have appended := Store.update_calms { st.makePassRoom with freePasses := st.makePassRoom.freePasses - 1 } n
        (Entry.withPass · q) fun e _ => e.calms_withPass q
      exact ⟨appended.mark, fun rising => ⟨appended.mark, appended.rising, appended.entry, appended.chain⟩⟩

/-! ## Commits -/

theorem Store.cancelAll_frame (effects : List PendingEffect) (st : Store) :
    (st.cancelAll effects).rebuildMark = st.rebuildMark ∧ (st.cancelAll effects).buckets = st.buckets
      ∧ (Sparse.rising st.table → Sparse.rising (st.cancelAll effects).table) := by
  induction effects generalizing st with
  | nil => exact ⟨rfl, rfl, id⟩
  | cons x rest ih =>
    cases x with
    | cancel serial action =>
      obtain ⟨mark, buckets, rising⟩ := ih (st.cancel serial action)
      exact ⟨mark, buckets, fun h => rising (st.mapEntries_rising _ h)⟩
    | _ => exact ih st

theorem Store.commit_frame (st : Store) (c : CommitPayload) : (st.commit c).rebuildMark = st.rebuildMark
    ∧ (st.commit c).buckets = st.buckets ∧ (Sparse.rising st.table → Sparse.rising (st.commit c).table) := by
  rw [Store.commit]
  cases c.kind with
  | delta =>
    obtain ⟨mark, buckets, rising⟩ := Store.cancelAll_frame c.effects
      ((st.mapEntries fun e => if e.state = .staged then e.become .live else e).mapEntries
        fun e => e.killIf (st.stagedSerials.contains e.serial && e.fileTag != c.number))
    exact ⟨mark, buckets, fun h => rising (Store.mapEntries_rising _ _ (Store.mapEntries_rising _ _ h))⟩
  | full =>
    obtain ⟨mark, buckets, rising⟩ := Store.cancelAll_frame c.effects
      (((st.mapEntries fun e => if e.state = .staged then e.become .live else e).mapEntries
        fun e => e.killIf (st.stagedSerials.contains e.serial && e.fileTag != c.number)).mapEntries
          fun e => e.killIf (e.fileTag != c.number))
    exact ⟨mark, buckets, fun h =>
      rising (Store.mapEntries_rising _ _ (Store.mapEntries_rising _ _ (Store.mapEntries_rising _ _ h)))⟩

/-- R15: what a commit leaves at an entry is never STAGED, and keeps its serial, its tag and its part. -/
theorem Store.entry_commit_from (st : Store) (c : CommitPayload) (n : Nat) (x : Entry)
    (entry : (st.commit c).entry n = some x) : ∃ e, st.entry n = some e ∧ x.serial = e.serial ∧ x.fileTag = e.fileTag
      ∧ x.part = e.part ∧ x.state ≠ .staged := by
  rw [Store.entry_commit] at entry
  obtain ⟨e, before, rfl⟩ := Option.map_eq_some_iff.mp entry
  refine ⟨e, before, ?_⟩
  have committed : e.committed.serial = e.serial ∧ e.committed.fileTag = e.fileTag ∧ e.committed.part = e.part
      ∧ e.committed.state ≠ .staged := by
    rw [Entry.committed]
    split
    next => exact ⟨rfl, rfl, rfl, by simp [Entry.become]⟩
    next other => exact ⟨rfl, rfl, rfl, other⟩
  obtain ⟨serial, tag, part, state⟩ := committed
  have isCommitted : (if e.state = .staged then e.become .live else e) = e.committed := rfl
  rw [isCommitted, Entry.killIf]
  split
  · exact ⟨serial, tag, part, by simp [Entry.become]⟩
  · exact ⟨serial, tag, part, state⟩

/-- R15: a STAGED entry that a commit leaves visible carries the file's own number. -/
theorem Store.commit_tag (st : Store) (c : CommitPayload) (rising : Sparse.rising st.table) (n : Nat) (x e : Entry)
    (entry : (st.commit c).entry n = some x) (visible : x.visible = true) (before : st.entry n = some e)
    (staged : e.state = .staged) : e.fileTag = c.number := by
  obtain ⟨y, found, -, spared, -⟩ := st.entry_commit_visible c rising n x entry visible
  obtain rfl := Option.some.inj (before.symm.trans found)
  exact st.tag_of_not_retired c e e n spared before staged rfl

theorem Store.visibleHonest.commit {st : Store} {committed : BitVec 32} (honest : st.visibleHonest committed)
    (c : CommitPayload) (above : committed.toNat < c.number.toNat) : (st.commit c).visibleHonest c.number := by
  obtain ⟨mark, buckets, stays⟩ := st.commit_frame c
  obtain marked | ⟨rising, linked, oneVisible, oneStaged, tags⟩ := honest
  · exact .inl (mark.trans marked)
  have older (n : Nat) (e : Entry) (entry : st.entry n = some e) (visible : e.visible = true) : e.fileTag ≠ c.number := by
    intro same
    have low := tags n e entry visible
    rw [same] at low
    omega
  refine .inr ⟨stays rising, fun n x entry => ?_, commitEntryStates.2 st c rising oneVisible oneStaged older,
    fun m n x y entryX _ stagedX _ _ => ?_, fun n x entry visible => ?_⟩
  · obtain ⟨e, before, serial, -⟩ := st.entry_commit_from c n x entry
    rw [Store.chain, buckets, serial]
    exact linked n e before
  · obtain ⟨e, -, -, -, -, notStaged⟩ := st.entry_commit_from c m x entryX
    exact absurd (by simpa using stagedX) notStaged
  · obtain ⟨e, before, -, tag, -⟩ := st.entry_commit_from c n x entry
    obtain ⟨y, found, notDead, -, -⟩ := st.entry_commit_visible c rising n x entry visible
    obtain rfl := Option.some.inj (before.symm.trans found)
    rw [tag]
    by_cases staged : e.state = .staged
    · rw [st.commit_tag c rising n x e entry visible before staged]
    · exact (Nat.lt_of_le_of_lt (tags n e before (e.visible_of_not notDead staged)) above).le

/-! ## The verification walk -/

theorem Slot.verified_calms (s : Slot) (x : Entry) (verified : s.verified = .held x) : ∃ e, s = .held e ∧ e.calms x := by
  cases s with
  | free f => cases verified
  | held e =>
    refine ⟨e, rfl, ?_⟩
    by_cases good : e.checkFault = 0
    · rw [Slot.verified_of_good e good] at verified
      obtain rfl := Slot.held.inj verified
      refine ⟨rfl, rfl, fun visible => ?_, fun staged => ?_⟩
      · by_cases was : e.state = .staged
        · simp [Entry.visible, was] at visible
        · simpa [Entry.visible, was] using visible
      · by_cases was : e.state = .staged
        · exact was
        · simp [was] at staged
    · rw [Slot.verified_of_fault e good] at verified
      obtain rfl := Slot.held.inj verified
      exact e.calms_self

theorem Store.calms_of_verified (st after : Store) (mark : after.rebuildMark = st.rebuildMark)
    (buckets : after.buckets = st.buckets) (rising : Sparse.rising st.table → Sparse.rising after.table)
    (slot : ∀ k, after.slot k = (st.slot k).verified ∨ after.slot k = st.slot k) : st.calms after where
  mark := mark
  rising := rising
  entry := by
    intro n x found
    rw [Store.entry_of_slot] at found
    obtain verified | same := slot n
    · obtain ⟨e, before, calm⟩ := (st.slot n).verified_calms x (verified.symm.trans found)
      exact ⟨e, (st.entry_of_slot n e).mpr before, calm.serial, calm.tag, calm.visible, calm.staged⟩
    · exact ⟨x, (st.entry_of_slot n x).mpr (same.symm.trans found), rfl, rfl, id, id⟩
  chain := fun n b x _ mem => by
    rw [Store.chain, buckets]
    exact mem

theorem Sparse.rising_mapWhere {α : Type} (m : Sparse α) (c : Nat → Prop) [DecidablePred c] (f : α → α)
    (rising : Sparse.rising m) : Sparse.rising (m.map fun x => if c x.1 then (x.1, f x.2) else x) := by
  rw [Sparse.rising, List.pairwise_map]
  refine rising.imp fun {a b} less => ?_
  split <;> split <;> exact less

theorem Store.verifyEntry_calms (st : Store) (n : Nat) : st.calms (st.verifyEntry n) :=
  st.calms_of_verified _ rfl rfl (Sparse.rising_mapWhere st.table (· = n) Slot.verified) fun k => by
    rw [Store.slot_verifyEntry]
    split
    next same => exact .inl (by rw [same])
    next => exact .inr rfl

theorem Store.verifyFrom_calms (st : Store) (n : Nat) : st.calms (st.verifyFrom n) :=
  st.calms_of_verified _ rfl rfl (Sparse.rising_mapWhere st.table (fun k => n ≤ k ∧ k < 16384) Slot.verified) fun k => by
    rw [Store.slot_verifyFrom]
    split
    next => exact .inl rfl
    next => exact .inr rfl

end Sys2Proof.Machine

/-! PROOFS. Every step keeps at most one visible and at most one STAGED entry of a serial (R4, R6, R47). -/

namespace Sys2Proof.Machine

/-! ## A table left, or lost whole -/

/-- R177, R180: the table with its committed number as it stood, or the cold table. -/
def Part.sparesTable (p q : Part) : Prop := q.store = Store.cold ∨ q.store = p.store ∧ q.fileNumber = p.fileNumber

theorem Part.sparesTable_of_same {p q : Part} (store : q.store = p.store) (number : q.fileNumber = p.fileNumber) :
    p.sparesTable q := .inr ⟨store, number⟩

theorem Part.sparesTable.trans {p q r : Part} (h : p.sparesTable q) (k : q.sparesTable r) : p.sparesTable r := by
  obtain cold | ⟨store, number⟩ := k
  · exact .inl cold
  · obtain cold | ⟨store', number'⟩ := h
    · exact .inl (store.trans cold)
    · exact .inr ⟨store.trans store', number.trans number'⟩

theorem Part.visibleHonest.spared {p q : Part} (honest : p.visibleHonest) (spared : p.sparesTable q) : q.visibleHonest := by
  obtain cold | ⟨store, number⟩ := spared
  · exact q.visibleHonest_of_cold cold
  · rwa [Part.visibleHonest_iff, store, number]

section Spared

variable (p : Part)

theorem Part.finishCold_spares : p.sparesTable p.finishCold := by
  rw [Part.finishCold]
  split
  · split
    · exact Part.sparesTable_of_same rfl rfl
    next c _ => cases c <;> exact .inl rfl
  · exact Part.sparesTable_of_same rfl rfl

theorem Part.mainGoodNow_spares (straps : BitVec 10) : p.sparesTable (p.mainGoodNow straps) := by
  rw [Part.mainGoodNow]
  split
  case h_2 => split <;> exact Part.sparesTable_of_same rfl rfl
  all_goals exact Part.sparesTable_of_same rfl rfl

theorem Part.mainGood_spares (straps : BitVec 10) : p.sparesTable (p.mainGood straps) := by
  rw [Part.mainGood]
  split
  · exact Part.sparesTable_of_same rfl rfl
  · exact p.finishCold_spares.trans (p.finishCold.mainGoodNow_spares straps)
  · exact p.mainGoodNow_spares straps

theorem Part.mainLost_spares : p.sparesTable p.mainLost := by
  by_cases good : p.vkeep = .good
  · rw [p.mainLost_of_good good]
    exact Part.sparesTable_of_same rfl rfl
  · rw [p.mainLost_of_notGood good]
    exact .inl rfl

theorem Part.fallUnsupplied_spares : p.sparesTable p.fallUnsupplied := by
  rw [Part.fallUnsupplied]
  split
  · rw [Part.cutCold]
    split
    · exact Part.sparesTable_of_same rfl rfl
    · exact .inl rfl
  · exact Part.sparesTable_of_same rfl rfl
  · exact Part.sparesTable_of_same rfl rfl

theorem Part.mainFall_spares : p.sparesTable p.mainFall := by
  rw [Part.mainFall]
  split
  · exact p.fallUnsupplied_spares
  · exact p.fallUnsupplied_spares
  all_goals exact p.mainLost_spares

theorem Part.keepGood_spares : p.sparesTable p.keepGood := by
  rw [Part.keepGood]
  split <;> exact Part.sparesTable_of_same rfl rfl

theorem Part.keepLow_spares : p.sparesTable p.keepLow := by
  have past : p.sparesTable p.pastColdAtVkeep := by
    rw [Part.pastColdAtVkeep]
    split
    · exact p.finishCold_spares
    · exact Part.sparesTable_of_same rfl rfl
  rw [Part.keepLow_eq]
  split <;> exact past.trans (Part.sparesTable_of_same rfl rfl)

theorem Part.keepLost_spares : p.sparesTable p.keepLost := by
  rw [Part.keepLost]
  split
  · exact .inl rfl
  · exact Part.sparesTable_of_same rfl rfl

/-! ## The rest of the walk -/

theorem Part.finishDeclare_spares (failed : Bool) : p.sparesTable (p.finishDeclare failed) := by
  rw [Part.finishDeclare]
  split
  · exact .inl rfl
  · exact Part.sparesTable_of_same rfl rfl

theorem Part.finishQueueItem_spares (n : Nat) (failed : Bool) : p.sparesTable (p.finishQueueItem n failed) := by
  rw [p.finishQueueItem_eq]
  exact Part.finishDeclare_spares { p with queue := p.queueFrom n } failed

theorem Part.finishQueue_spares (failed : Bool) : p.sparesTable (p.finishQueue failed) := by
  rw [p.finishQueue_eq]
  exact Part.finishDeclare_spares { p with
    queue := if p.queue.checkFault = 0 then p.queueFrom 0 else { p.queue with checkFault := 0, outcomes := [] } } failed

theorem Part.finishFileNumber_spares (failed : Bool) : p.sparesTable (p.finishFileNumber failed) := by
  rw [p.finishFileNumber_eq]
  exact Part.finishDeclare_spares { p with
    setup := p.setupVerified.1, locked := p.setupVerified.2.1, setupFault := p.setupVerified.2.2
    queue := p.queueWalked .queueCheck } (failed || !p.fileNumberCheckHolds)

/-- R26, R179: the rest of the walk leaves the table as it is, or verified from the entry it stands on. -/
theorem Part.finishWalk_spares : p.sparesTable p.finishWalk
    ∨ ∃ n, Part.sparesTable { p with store := p.store.verifyFrom n } p.finishWalk := by
  rw [Part.finishWalk]
  split
  next n _ => exact .inr ⟨n, Part.finishFileNumber_spares { p with store := p.store.verifyFrom n } _⟩
  · exact .inl (p.finishFileNumber_spares _)
  · exact .inl (p.finishFileNumber_spares _)
  next =>
    rw [p.verifySetup_eq]
    exact .inl (Part.finishQueue_spares { p with
      setup := p.setupVerified.1, locked := p.setupVerified.2.1, setupFault := p.setupVerified.2.2 } _)
  · exact .inl (p.finishQueue_spares _)
  · exact .inl (p.finishQueueItem_spares _ _)
  · exact .inl (p.finishDeclare_spares true)
  · exact .inl (Part.sparesTable_of_same rfl rfl)

theorem Part.enterRun_spares : p.sparesTable p.enterRun := by
  rw [p.enterRun_eq]
  exact Part.sparesTable_of_same rfl rfl

/-! ## One step of the walk -/

/-- R179: what a step of the walk makes of the table: one entry verified, one made FREE under the rebuild mark, the cold
table, or nothing. -/
theorem Part.walkStep_table : p.sparesTable p.walkStep
    ∨ (∃ n, Part.sparesTable { p with store := p.store.verifyEntry n } p.walkStep)
    ∨ p.walkStep.store.rebuildMark = true := by
  rw [Part.walkStep]
  split
  next n _ =>
    split
    · exact .inr (.inl ⟨n, Part.sparesTable_of_same rfl rfl⟩)
    · exact .inl (Part.sparesTable_of_same rfl rfl)
  · exact .inl (Part.sparesTable_of_same rfl rfl)
  · exact .inl (Part.sparesTable_of_same rfl rfl)
  next =>
    rw [p.verifySetup_eq]
    exact .inl (Part.sparesTable_of_same rfl rfl)
  next =>
    split
    · exact .inl (Part.sparesTable_of_same rfl rfl)
    · rw [Part.afterStages_eq]
      exact .inl (Part.sparesTable_of_same rfl rfl)
  next =>
    split
    · rw [Part.afterStages_eq]
      exact .inl (Part.sparesTable_of_same rfl rfl)
    next o _ =>
      refine .inl ?_
      rw [Part.verifyOutcome]
      split <;> exact Part.sparesTable_of_same rfl rfl
  next n _ =>
    rw [Part.rebuildStep]
    split
    · exact .inr (.inr rfl)
    · exact .inl (.inl rfl)
  · exact .inl (Part.sparesTable_of_same rfl rfl)

end Spared

/-! ## Answers and commits -/

section Answers

variable (p : Part)

theorem Part.intakeAnswered_store (f : Part → Part) (store : (f p).store = p.store) :
    (p.intakeAnswered f).store = p.store := by
  rw [Part.intakeAnswered]
  split <;> simp [store]

theorem Part.answered_spares (f : Part → Part) (store : (f p).store = p.store) (number : (f p).fileNumber = p.fileNumber) :
    p.sparesTable (p.intakeAnswered f).grant := by
  refine Part.sparesTable_of_same ?_ ?_
  · rw [Part.grant_store, p.intakeAnswered_store f store]
  · rw [Part.grant_fileNumber, p.intakeAnswered_fileNumber f number]

/-- R48, R49: the setup records of a commit touch the table through the contexts they reset. -/
theorem Part.setUp_touched (c : CommitPayload) : (p.store.commit c).Touched (p.setUp c).store := by
  by_cases none : ∀ x ∈ c.effects, x.isSetup = false
  · rw [p.setUp_of_noSetup c none]
    exact .same
  have some := exists_isSetup_of_not c.effects none
  cases locked : p.locked with
  | true =>
    rw [p.setUp_of_locked c some locked]
    exact .same
  | false =>
    rw [p.setUp_of_unlocked c _ some locked ((p.setup.applied c.effects).resets_resetBy p.setup)]
    exact (p.newSetup c).giveUp_touched (picked _)

theorem Part.commitEffects_store (c : CommitPayload) : (p.tableFree.commitEffects c).store = (p.setUp c).store := by
  simp [Part.commitEffects, Part.setUp]

/-- R46: a commit changes the table, and what follows it touches the entries that contexts give up. -/
theorem Part.completeCommit_table (c : CommitPayload) (op : p.arbiter.op = some (.intake (.commit c))) :
    (p.store.commit c).Touched p.completeCommit.store ∧ p.completeCommit.fileNumber = c.number := by
  rw [Part.completeCommit, op]
  dsimp only
  rw [Part.grant_store, Part.grant_fileNumber, Part.intakeAnswered_store _ _ (by simp [Part.fileCommitted]),
    Part.intakeAnswered_fileNumber _ _ (by simp [Part.fileCommitted]), p.commitEffects_store]
  exact ⟨p.setUp_touched c, rfl⟩

end Answers

/-! ## Every operation -/

section Operations

variable {p : Part} (honest : p.visibleHonest)
include honest

theorem Part.visibleHonest.tamed {q : Part} (tame : p.store.tames q.store) (number : q.fileNumber = p.fileNumber) :
    q.visibleHonest := by
  rw [Part.visibleHonest_iff, number]
  exact Store.visibleHonest.tamed honest tame

theorem Part.visibleHonest.touched {q : Part} (touched : p.store.Touched q.store) (number : q.fileNumber = p.fileNumber) :
    q.visibleHonest := honest.tamed touched.tames number

theorem Part.visibleHonest.walkStep : p.walkStep.visibleHonest := by
  obtain spared | ⟨n, verified⟩ | mark := p.walkStep_table
  · exact honest.spared spared
  · have calm := Part.visibleHonest.tamed honest (q := { p with store := p.store.verifyEntry n })
      (p.store.verifyEntry_calms n).tames rfl
    exact calm.spared verified
  · exact .inl mark

theorem Part.visibleHonest.completeWalk : p.completeWalk.visibleHonest := by
  have walked : p.finishWalk.visibleHonest := by
    obtain spared | ⟨n, verified⟩ := p.finishWalk_spares
    · exact honest.spared spared
    · have calm := Part.visibleHonest.tamed honest (q := { p with store := p.store.verifyFrom n })
        (p.store.verifyFrom_calms n).tames rfl
      exact calm.spared verified
  rw [Part.completeWalk]
  split
  · exact walked.spared p.finishWalk.enterRun_spares
  · exact honest

theorem Part.visibleHonest.completeStageEntry : p.completeStageEntry.visibleHonest := by
  rw [Part.completeStageEntry]
  split
  next r number _ =>
    split
    next => exact honest.spared (p.tableFree.answered_spares _ (by simp) (by simp))
    next st n stored =>
      have staged : Part.visibleHonest { p with store := st } :=
        Store.visibleHonest.stageEntry honest r number n stored
      exact staged.spared (Part.answered_spares (Part.tableFree { p with store := st }) _ (by simp [Part.entryStaged])
        (by simp [Part.entryStaged]))
  next => exact honest

theorem Part.visibleHonest.completeStagePass : p.completeStagePass.visibleHonest := by
  rw [Part.completeStagePass]
  split
  next entry q _ =>
    split
    next => exact honest.spared (p.tableFree.answered_spares _ (by simp) (by simp))
    next st stored =>
      have staged := Part.visibleHonest.tamed honest (q := { p with store := st })
        (p.store.stagePass_tames st entry q stored) rfl
      exact staged.spared (Part.answered_spares (Part.tableFree { p with store := st }) _ (by simp [Part.passStaged])
        (by simp [Part.passStaged]))
  next => exact honest

theorem Part.visibleHonest.completeDiscard : p.completeDiscard.visibleHonest := by
  rw [Part.completeDiscard]
  split
  next =>
    have discarded := Part.visibleHonest.tamed honest (q := { p with store := p.store.discard })
      p.store.discard_calms.tames rfl
    exact discarded.spared (Part.answered_spares (Part.tableFree { p with store := p.store.discard }) _ rfl rfl)
  next => exact honest

theorem Part.visibleHonest.completeSweepStep : p.completeSweepStep.visibleHonest := by
  rw [Part.completeSweepStep]
  split
  next =>
    refine honest.tamed ?_ (by simp)
    rw [Part.grant_store, Part.sweepEntry]
    split
    · exact p.store.tames_refl
    next w _ =>
      dsimp only
      split <;> exact p.store.sweepStep_tames _ _ _
  next => exact honest

theorem Part.visibleHonest.completeCommit (above : p.numbersAbove) : p.completeCommit.visibleHonest := by
  by_cases isCommit : ∃ c, p.arbiter.op = some (.intake (.commit c))
  · obtain ⟨c, op⟩ := isCommit
    obtain ⟨touched, number⟩ := p.completeCommit_table c op
    obtain ⟨-, -, running, -⟩ := above
    rw [Part.visibleHonest_iff, number]
    exact (Store.visibleHonest.commit honest c (running c op)).tamed touched.tames
  · rw [Part.completeCommit]
    split
    next c op => exact absurd ⟨c, op⟩ isCommit
    next => exact honest

end Operations

end Sys2Proof.Machine

/-! PROOFS. Every step keeps at most one visible and at most one STAGED entry of a serial: the obligation. -/

namespace Sys2Proof.Machine

/-- Each operation keeps OneVisibleKept's claim, under numbers above the committed one. -/
theorem visibleHonest_keptByOperations : KeptByOperations fun p => p.numbersAbove ∧ p.visibleHonest where
  finishCold p h := ⟨numbersAbove_keptByOperations.finishCold p h.1, h.2.spared p.finishCold_spares⟩
  walkStep p verify h := ⟨numbersAbove_keptByOperations.walkStep p verify h.1, h.2.walkStep⟩
  arrive p w a h := ⟨numbersAbove_keptByOperations.arrive p w a h.1, h.2.touched (p.arrive_touched w a) (by simp)⟩
  endCycle p h := ⟨numbersAbove_keptByOperations.endCycle p h.1, h.2.spared (Part.sparesTable_of_same (by simp) (by simp))⟩
  startSettle p h :=
    ⟨numbersAbove_keptByOperations.startSettle p h.1, h.2.spared (Part.sparesTable_of_same (by simp) (by simp))⟩
  completeSettle p h :=
    ⟨numbersAbove_keptByOperations.completeSettle p h.1, h.2.touched p.completeSettle_touched (by simp)⟩
  completeLookup p h :=
    ⟨numbersAbove_keptByOperations.completeLookup p h.1, h.2.touched p.completeLookup_touched (by simp)⟩
  completeMark p h := ⟨numbersAbove_keptByOperations.completeMark p h.1, h.2.touched p.completeMark_touched (by simp)⟩
  completeStageEntry p h := ⟨numbersAbove_keptByOperations.completeStageEntry p h.1, h.2.completeStageEntry⟩
  completeStagePass p h := ⟨numbersAbove_keptByOperations.completeStagePass p h.1, h.2.completeStagePass⟩
  completeCommit p h := ⟨numbersAbove_keptByOperations.completeCommit p h.1, h.2.completeCommit h.1⟩
  completeDiscard p h := ⟨numbersAbove_keptByOperations.completeDiscard p h.1, h.2.completeDiscard⟩
  completeSweepStep p h := ⟨numbersAbove_keptByOperations.completeSweepStep p h.1, h.2.completeSweepStep⟩
  takeRelease p h := ⟨numbersAbove_keptByOperations.takeRelease p h.1, h.2.touched p.takeRelease_touched (by simp)⟩
  expireHold p h := ⟨numbersAbove_keptByOperations.expireHold p h.1, h.2.touched p.expireHold_touched (by simp)⟩
  expireIntakeHold p h :=
    ⟨numbersAbove_keptByOperations.expireIntakeHold p h.1, h.2.spared (Part.sparesTable_of_same (by simp) (by simp))⟩
  expireAwait p n h :=
    ⟨numbersAbove_keptByOperations.expireAwait p n h.1, h.2.touched (p.expireAwait_touched n) (by simp)⟩
  expireAttention p h :=
    ⟨numbersAbove_keptByOperations.expireAttention p h.1, h.2.spared (Part.sparesTable_of_same (by simp) (by simp))⟩
  endSlot p h := ⟨numbersAbove_keptByOperations.endSlot p h.1, h.2.spared (Part.sparesTable_of_same (by simp) (by simp))⟩
  second p h := ⟨numbersAbove_keptByOperations.second p h.1, h.2.spared (Part.sparesTable_of_same (by simp) (by simp))⟩
  lockoutEnds p h :=
    ⟨numbersAbove_keptByOperations.lockoutEnds p h.1, h.2.spared (Part.sparesTable_of_same (by simp) (by simp))⟩
  completeWalk p h := ⟨numbersAbove_keptByOperations.completeWalk p h.1, h.2.completeWalk⟩
  mainGood p straps h := ⟨numbersAbove_keptByOperations.mainGood p straps h.1, h.2.spared (p.mainGood_spares straps)⟩
  mainFall p h := ⟨numbersAbove_keptByOperations.mainFall p h.1, h.2.spared p.mainFall_spares⟩
  keepGood p h := ⟨numbersAbove_keptByOperations.keepGood p h.1, h.2.spared p.keepGood_spares⟩
  keepLow p h := ⟨numbersAbove_keptByOperations.keepLow p h.1, h.2.spared p.keepLow_spares⟩
  keepLost p h := ⟨numbersAbove_keptByOperations.keepLost p h.1, h.2.spared p.keepLost_spares⟩
  assertReset p straps h :=
    ⟨numbersAbove_keptByOperations.assertReset p straps h.1,
      h.2.touched (p.assertReset_touched straps) (p.assertReset_fileNumber straps)⟩

/-- Settles O60: a table that holds no more than before, a stage-entry that leaves no second STAGED entry of its serial, a
commit of a number above every file tag, and the cold table. -/
theorem oneVisibleKept : Obligations.OneVisibleKept := fun s t above honest stepped =>
  (visibleHonest_keptByOperations.step s t ⟨above, honest⟩ stepped).2

end Sys2Proof.Machine

/-! PROOFS. The free list and the pass pool (R7, R10): what the operations of the table make of the records held and free. -/

namespace Sys2Proof.Machine

/-! ## The passes of a table -/

/-- R8: the pass records held by a slot. -/
def Slot.passCount : Slot → Nat
  | .free _ => 0
  | .held e => e.passes.length

/-- R8: the pass records held by what is listed at a number, if anything is. -/
def passesAt : Option Slot → Nat
  | none => 0
  | some s => s.passCount

/-- R10: the pass records held by the slots of a list. -/
def passSum (m : Sparse Slot) : Nat := (m.map fun x => x.2.passCount).sum

theorem passSum_cons (x : Nat × Slot) (m : Sparse Slot) : passSum (x :: m) = x.2.passCount + passSum m := rfl

theorem Entry.passes_congr {e x : Entry} (part : x.part = e.part) : x.passes = e.passes := by
  rw [Entry.passes, Entry.passes, part]

theorem Store.heldPasses_eq (st : Store) : st.heldPasses = passSum st.table := by
  rw [Store.heldPasses, Store.entries, passSum]
  induction st.table with
  | nil => rfl
  | cons x m ih =>
    obtain ⟨a, s⟩ := x
    cases s with
    | free f => simpa [Slot.passCount] using ih
    | held e => simpa [Slot.passCount] using ih

theorem passSum_erase (m : Sparse Slot) (n : Nat) : passSum (Sparse.erase m n) + passesAt (Sparse.find m n) = passSum m := by
  induction m with
  | nil => rfl
  | cons x m ih =>
    obtain ⟨a, s⟩ := x
    by_cases here : a = n
    · rw [Sparse.erase, if_pos here, Sparse.find, if_pos here, passSum_cons, passesAt, Nat.add_comm]
    · rw [Sparse.erase, if_neg here, Sparse.find, if_neg here, passSum_cons, passSum_cons, Nat.add_assoc, ih]

theorem passSum_insert (m : Sparse Slot) (n : Nat) (s : Slot) (rising : Sparse.rising m) :
    passSum (Sparse.insert m n s) + passesAt (Sparse.find m n) = passSum m + s.passCount := by
  induction m with
  | nil => simp [Sparse.insert, Sparse.find, passSum, passesAt]
  | cons x m ih =>
    obtain ⟨a, t⟩ := x
    obtain ⟨first, rest⟩ := List.pairwise_cons.mp rising
    rw [Sparse.insert]
    split
    next less =>
      have absent : Sparse.find ((a, t) :: m) n = none := Sparse.find_of_lt _ n fun y mem => by
        obtain rfl | later := List.mem_cons.mp mem
        · exact less
        · exact less.trans (first y later)
      rw [absent, passSum_cons, passesAt, Nat.add_zero, Nat.add_comm]
    next notLess =>
      split
      next same =>
        rw [Sparse.find, if_pos same.symm, passSum_cons, passSum_cons, passesAt]
        dsimp only
        omega
      next other =>
        have kept := ih rest
        rw [Sparse.find, if_neg (Ne.symm other), passSum_cons, passSum_cons]
        omega

theorem passSum_map (m : Sparse Slot) (f : Nat × Slot → Nat × Slot) (keeps : ∀ x, (f x).2.passCount = x.2.passCount) :
    passSum (m.map f) = passSum m := by
  rw [passSum, passSum, List.map_map]
  exact congrArg List.sum (List.map_congr_left fun x _ => keeps x)

theorem Store.passesAt_find (st : Store) (n : Nat) : passesAt (Sparse.find st.table n) = (st.slot n).passCount := by
  rw [Store.slot]
  cases Sparse.find st.table n <;> rfl

theorem Store.heldPasses_withSlot (st : Store) (n : Nat) (s : Slot) (rising : Sparse.rising st.table) :
    (st.withSlot n s).heldPasses + (st.slot n).passCount = st.heldPasses + s.passCount := by
  rw [Store.heldPasses_eq, Store.heldPasses_eq, ← st.passesAt_find, Store.withSlot]
  dsimp only
  split
  next free =>
    rw [passSum_erase, free]
    rfl
  next => exact passSum_insert st.table n s rising

theorem Store.passCount_slot (st : Store) (n : Nat) (e : Entry) (entry : st.entry n = some e) :
    (st.slot n).passCount = e.passes.length := by
  rw [(st.entry_of_slot n e).mp entry, Slot.passCount]

theorem Store.passCount_slot_free (st : Store) (n : Nat) (free : st.entry n = none) : (st.slot n).passCount = 0 := by
  cases slot : st.slot n with
  | free f => rfl
  | held e =>
    rw [(st.entry_of_slot n e).mpr slot] at free
    cases free

theorem Store.heldPasses_update (st : Store) (n : Nat) (f : Entry → Entry) (e : Entry) (entry : st.entry n = some e)
    (rising : Sparse.rising st.table) :
    (st.update n f).heldPasses + e.passes.length = st.heldPasses + (f e).passes.length := by
  have updated : st.update n f = st.withSlot n (.held (f e)) := by rw [Store.update, entry]
  rw [updated, ← st.passCount_slot n e entry]
  exact st.heldPasses_withSlot n _ rising

/-! ## The pool of a table -/

/-- R7, R10: the free list holds FREE entries, each once, and free and held pass records number 8,192 together. -/
structure Store.poolGood (st : Store) : Prop where
  rising : Sparse.rising st.table
  free : ∀ n ∈ st.freeList, st.entry n = none
  once : st.freeList.Nodup
  whole : st.poolWhole

theorem Part.poolHonest_iff (p : Part) :
    p.poolHonest ↔ p.store.rebuildMark = true ∨ p.store.poolGood ∧ p.stagingHeld :=
  or_congr_right ⟨fun ⟨rising, free, once, whole, staging⟩ => ⟨⟨rising, free, once, whole⟩, staging⟩,
    fun ⟨⟨rising, free, once, whole⟩, staging⟩ => ⟨rising, free, once, whole, staging⟩⟩

/-- A table whose free list, pool and held records stand as they were. -/
structure Store.samePool (st after : Store) : Prop where
  mark : after.rebuildMark = st.rebuildMark
  rising : Sparse.rising st.table → Sparse.rising after.table
  freeList : after.freeList = st.freeList
  freePasses : after.freePasses = st.freePasses
  held : Sparse.rising st.table → after.heldPasses = st.heldPasses
  free : ∀ n, st.entry n = none → after.entry n = none

theorem Store.samePool_refl (st : Store) : st.samePool st := ⟨rfl, id, rfl, rfl, fun _ => rfl, fun _ => id⟩

theorem Store.samePool.trans {a b c : Store} (h : a.samePool b) (k : b.samePool c) : a.samePool c where
  mark := k.mark.trans h.mark
  rising := k.rising ∘ h.rising
  freeList := k.freeList.trans h.freeList
  freePasses := k.freePasses.trans h.freePasses
  held := fun rising => (k.held (h.rising rising)).trans (h.held rising)
  free := fun n none => k.free n (h.free n none)

theorem Store.poolGood.of_samePool {a b : Store} (good : a.poolGood) (same : a.samePool b) : b.poolGood where
  rising := same.rising good.rising
  free := fun n mem => same.free n (good.free n (same.freeList ▸ mem))
  once := same.freeList ▸ good.once
  whole := by
    rw [Store.poolWhole, same.freePasses, same.held good.rising]
    exact good.whole

theorem Store.update_samePool (st : Store) (n : Nat) (f : Entry → Entry)
    (keeps : ∀ e, st.entry n = some e → (f e).passes = e.passes) : st.samePool (st.update n f) where
  mark := st.update_mark n f
  rising := st.update_rising n f
  freeList := (st.update_keeps n f).1
  freePasses := (st.update_keeps n f).2.2
  held := by
    intro rising
    cases entry : st.entry n with
    | none => rw [Store.update, entry]
    | some e =>
      have sum := st.heldPasses_update n f e entry rising
      rw [keeps e entry] at sum
      exact Nat.add_right_cancel sum
  free := by
    intro k none
    rw [Store.entry_update]
    split
    next same => rw [← same, none, Option.map_none]
    next => exact none

theorem Store.mapEntries_samePool (st : Store) (f : Entry → Entry) (keeps : ∀ e, (f e).passes = e.passes) :
    st.samePool (st.mapEntries f) where
  mark := rfl
  rising := st.mapEntries_rising f
  freeList := rfl
  freePasses := rfl
  held := by
    intro _
    rw [Store.heldPasses_eq, Store.heldPasses_eq, Store.mapEntries]
    refine passSum_map st.table _ fun x => ?_
    cases slot : x.2 with
    | free f => rfl
    | held e => exact congrArg List.length (keeps e)
  free := fun k none => by rw [Store.entry_mapEntries, none, Option.map_none]

theorem Store.unlink_samePool (st : Store) (n : Nat) (e : Entry) : st.samePool (st.unlink n e) := by
  have moved (m : Nat) := st.update_samePool m (fun x => { x with position := e.position, checkFault := 0 })
    fun x _ => Entry.passes_congr rfl
  have chained (a : Store) (b : Nat) (c : List Nat) : a.samePool (a.withChain b c) :=
    ⟨rfl, id, rfl, rfl, fun _ => rfl, fun _ => id⟩
  rw [Store.unlink]
  split
  · exact chained _ _ _
  · exact (moved _).trans (chained _ _ _)

/-- R26: what the walk verifies keeps its pass records. -/
theorem Slot.passCount_verified (s : Slot) : s.verified.passCount = s.passCount := by
  cases s with
  | free f => rfl
  | held e =>
    by_cases good : e.checkFault = 0
    · rw [Slot.verified_of_good e good]
      exact congrArg List.length (Entry.passes_congr rfl)
    · rw [Slot.verified_of_fault e good]

theorem Store.samePool_of_verified (st : Store) (c : Nat → Prop) [DecidablePred c] (after : Store)
    (verified : after = { st with table := st.table.map fun x => if c x.1 then (x.1, x.2.verified) else x })
    (calm : st.calms after) : st.samePool after where
  mark := calm.mark
  rising := calm.rising
  freeList := by rw [verified]
  freePasses := by rw [verified]
  held := by
    intro _
    rw [Store.heldPasses_eq, Store.heldPasses_eq, verified]
    refine passSum_map st.table _ fun x => ?_
    split
    · exact x.2.passCount_verified
    · rfl
  free := by
    intro n none
    cases entry : after.entry n with
    | none => rfl
    | some x =>
      obtain ⟨e, before, -⟩ := calm.entry n x entry
      rw [none] at before
      cases before

theorem Store.verifyEntry_samePool (st : Store) (n : Nat) : st.samePool (st.verifyEntry n) :=
  st.samePool_of_verified (· = n) _ rfl (st.verifyEntry_calms n)

theorem Store.verifyFrom_samePool (st : Store) (n : Nat) : st.samePool (st.verifyFrom n) :=
  st.samePool_of_verified (fun k => n ≤ k ∧ k < Config.tableSize) _ rfl (st.verifyFrom_calms n)

/-! ## The operations of the table -/

/-- R7, R8, R10: a reclaim moves an entry to the free list and its pass records to the pool. -/
theorem Store.poolGood.reclaim {st : Store} (good : st.poolGood) (n : Nat) : (st.reclaim n).poolGood := by
  cases entry : st.entry n with
  | none =>
    have same : st.reclaim n = st := by rw [Store.reclaim, entry]
    rwa [same]
  | some e =>
    have unlinked := st.unlink_samePool n e
    obtain ⟨gone, -, freeList, freePasses⟩ := st.reclaim_effect n e entry good.rising
    have fresh : n ∉ st.freeList := fun mem => by
      rw [good.free n mem] at entry
      cases entry
    have calm := st.reclaim_calms n good.rising
    have sum : (st.reclaim n).heldPasses + e.passes.length = st.heldPasses := by
      have taken := (st.unlink n e).heldPasses_withSlot n (.free 0) (unlinked.rising good.rising)
      have own : ((st.unlink n e).slot n).passCount = e.passes.length := by
        have same := st.entry_unlink n e n
        rw [entry] at same
        obtain ⟨x, found, moved⟩ := Option.map_eq_some_iff.mp same
        rw [Store.passCount_slot _ n x found]
        have parts := congrArg Entry.part moved
        exact congrArg List.length (Entry.passes_congr parts)
      have held : (st.reclaim n).heldPasses = ((st.unlink n e).withSlot n (.free 0)).heldPasses := by
        rw [st.reclaim_eq n e entry]
        rfl
      rw [held, ← own, taken, unlinked.held good.rising]
      rfl
    refine ⟨calm.rising good.rising, fun k mem => ?_, ?_, ?_⟩
    · rw [freeList, List.mem_append, List.mem_singleton] at mem
      obtain earlier | rfl := mem
      · cases left : (st.reclaim n).entry k with
        | none => rfl
        | some x =>
          obtain ⟨y, before, -⟩ := calm.entry k x left
          rw [good.free k earlier] at before
          cases before
      · exact gone
    · rw [freeList]
      exact List.nodup_append.mpr ⟨good.once, List.nodup_singleton n, fun a mem b single same =>
        fresh (by rwa [same, List.mem_singleton.mp single] at mem)⟩
    · have whole := good.whole
      rw [Store.poolWhole] at whole ⊢
      rw [freePasses]
      omega

theorem Store.poolGood.makeRoom {st : Store} (good : st.poolGood) : st.makeRoom.poolGood := by
  obtain same | ⟨n, -, reclaimed⟩ := st.makeRoom_cases
  · rwa [same]
  · rw [reclaimed]
    exact good.reclaim n

theorem Store.poolGood.makePassRoom {st : Store} (good : st.poolGood) : st.makePassRoom.poolGood := by
  obtain same | ⟨n, -, reclaimed⟩ := st.makePassRoom_cases
  · rwa [same]
  · rw [reclaimed]
    exact good.reclaim n

theorem Entry.passes_become (e : Entry) (s : EntryState) : (e.become s).passes = e.passes := Entry.passes_congr rfl

theorem Store.killStaged_samePool (st : Store) (serial : BitVec 64) : st.samePool (st.killStaged serial) := by
  rw [Store.killStaged]
  split
  · exact st.samePool_refl
  · exact st.update_samePool _ _ fun e _ => e.passes_become .dead

theorem Store.discard_samePool (st : Store) : st.samePool st.discard :=
  st.mapEntries_samePool _ fun e => by
    split
    · exact e.passes_become .dead
    · rfl

theorem Entry.passes_killIf (e : Entry) (c : Bool) : (e.killIf c).passes = e.passes := by
  rw [Entry.killIf]
  split
  · exact e.passes_become .dead
  · rfl

theorem Store.cancelAll_samePool (effects : List PendingEffect) (st : Store) : st.samePool (st.cancelAll effects) := by
  induction effects generalizing st with
  | nil => exact st.samePool_refl
  | cons x rest ih =>
    cases x with
    | cancel serial action => exact (st.mapEntries_samePool _ fun e => e.passes_killIf _).trans (ih (st.cancel serial action))
    | _ => exact ih st

theorem Store.commit_samePool (st : Store) (c : CommitPayload) : st.samePool (st.commit c) := by
  have live := st.mapEntries_samePool (fun e => if e.state = .staged then e.become .live else e) fun e => by
    split
    · exact e.passes_become .live
    · rfl
  have older := live.trans (Store.mapEntries_samePool _
    (fun e => e.killIf (st.stagedSerials.contains e.serial && e.fileTag != c.number)) fun e => e.passes_killIf _)
  rw [Store.commit]
  cases c.kind with
  | delta => exact older.trans (Store.cancelAll_samePool c.effects _)
  | full =>
    exact (older.trans (Store.mapEntries_samePool _ (fun e => e.killIf (e.fileTag != c.number))
      fun e => e.passes_killIf _)).trans (Store.cancelAll_samePool c.effects _)

theorem Store.Touched.samePool {a b : Store} (h : a.Touched b) : a.samePool b := by
  induction h with
  | same => exact a.samePool_refl
  | touch n f _ touches ih =>
    exact ih.trans (Store.update_samePool _ n f fun e found => Entry.passes_congr (touches e found).part)

theorem Store.poolGood.sweepStep {st : Store} (good : st.poolGood) (day : Option Nat) (retention n : Nat) :
    (st.sweepStep day retention n).poolGood := by
  have killed := good.of_samePool (st.update_samePool n (fun x => x.become .dead) fun e _ => e.passes_become .dead)
  rw [Store.sweepStep]
  split
  · exact good
  · split
    · dsimp only
      split
      · exact killed.reclaim n
      · exact killed
    · split
      · exact good.reclaim n
      · exact good

end Sys2Proof.Machine

/-! PROOFS. Staging and the pool (R10, R11, R13): the STAGED entries that the operations of the table leave as they stand, and
what a stage-entry and a stage-pass take. -/

namespace Sys2Proof.Machine

/-! ## STAGED entries that stay -/

/-- R11: the STAGED RESTORE entries of the first store are such in the second. -/
def Store.keepsStaged (st after : Store) : Prop := ∀ n, st.stagedRestore n → after.stagedRestore n

theorem Store.keepsStaged_refl (st : Store) : st.keepsStaged st := fun _ => id

theorem Store.keepsStaged_of_eq {a b : Store} (same : b = a) : a.keepsStaged b := by
  rw [same]
  exact a.keepsStaged_refl

theorem Store.keepsStaged.trans {a b c : Store} (h : a.keepsStaged b) (k : b.keepsStaged c) : a.keepsStaged c :=
  fun n staged => k n (h n staged)

theorem Store.update_keepsStaged (st : Store) (n : Nat) (f : Entry → Entry)
    (keeps : ∀ e r, st.entry n = some e → e.state = .staged → e.part = .restore r →
      (f e).state = .staged ∧ ∃ r', (f e).part = .restore r') : st.keepsStaged (st.update n f) := by
  rintro k ⟨e, r, entry, staged, part⟩
  rw [Store.stagedRestore, Store.entry_update]
  split
  next same =>
    subst same
    obtain ⟨stays, r', restore⟩ := keeps e r entry staged part
    exact ⟨f e, r', by rw [entry, Option.map_some], stays, restore⟩
  next => exact ⟨e, r, entry, staged, part⟩

theorem Store.Touched.keepsStaged {a b : Store} (h : a.Touched b) : a.keepsStaged b := by
  induction h with
  | same => exact a.keepsStaged_refl
  | touch n f _ touches ih =>
    refine ih.trans (Store.update_keepsStaged _ n f fun e r entry staged part => ?_)
    exact ⟨(touches e entry).keeps staged, r, (touches e entry).part.trans part⟩

/-- R8: a reclaim takes an entry that is not STAGED. -/
theorem Store.reclaim_keepsStaged (st : Store) (n : Nat) (rising : Sparse.rising st.table)
    (notStaged : ∀ e, st.entry n = some e → e.state ≠ .staged) : st.keepsStaged (st.reclaim n) := by
  cases entry : st.entry n with
  | none =>
    have same : st.reclaim n = st := by rw [Store.reclaim, entry]
    exact Store.keepsStaged_of_eq same
  | some e =>
    obtain ⟨-, others, -, -⟩ := st.reclaim_effect n e entry rising
    rintro k ⟨x, r, entryK, staged, part⟩
    have other : k ≠ n := fun same => notStaged x (same ▸ entryK) staged
    have moved := others k other
    rw [entryK, Option.map_some] at moved
    obtain ⟨y, found, same⟩ := Option.map_eq_some_iff.mp moved
    have state := congrArg Entry.state same
    have parts := congrArg Entry.part same
    exact ⟨y, r, found, state.trans staged, parts.trans part⟩

theorem Store.lowestReclaimable_some (st : Store) (c : Entry → Bool) (n : Nat) (rising : Sparse.rising st.table)
    (lowest : st.lowestReclaimable c = some n) : ∃ e, st.entry n = some e ∧ e.reclaimable = true := by
  obtain ⟨⟨k, e⟩, found, rfl⟩ := Option.map_eq_some_iff.mp lowest
  have picks := List.find?_some found
  rw [Bool.and_eq_true] at picks
  exact ⟨e, (Store.mem_entries rising k e).mp (List.mem_of_find?_eq_some found), picks.1⟩

theorem Entry.not_staged_of_reclaimable (e : Entry) (reclaimable : e.reclaimable = true) : e.state ≠ .staged := by
  rw [(e.reclaimable_iff.mp reclaimable).1]
  exact EntryState.noConfusion

theorem Store.makePassRoom_keepsStaged (st : Store) (rising : Sparse.rising st.table) : st.keepsStaged st.makePassRoom := by
  obtain same | ⟨n, lowest, reclaimed⟩ := st.makePassRoom_cases
  · exact Store.keepsStaged_of_eq same
  · obtain ⟨e, entry, reclaimable⟩ := st.lowestReclaimable_some _ n rising lowest
    rw [reclaimed]
    refine st.reclaim_keepsStaged n rising fun x found => ?_
    obtain rfl := Option.some.inj (entry.symm.trans found)
    exact e.not_staged_of_reclaimable reclaimable

theorem Entry.not_staged_of_retired (e : Entry) (day : Option Nat) (retention : Nat) (retired : e.retired day retention = true) :
    e.state ≠ .staged := by
  intro staged
  cases day with
  | none => simp [Entry.retired] at retired
  | some d => simp [Entry.retired, staged] at retired

/-- R153: a sweep step takes or kills an entry that is not STAGED. -/
theorem Store.sweepStep_keepsStaged (st : Store) (day : Option Nat) (retention n : Nat) (rising : Sparse.rising st.table) :
    st.keepsStaged (st.sweepStep day retention n) := by
  rw [Store.sweepStep]
  split
  · exact st.keepsStaged_refl
  next e entry =>
    have own (x : Entry) (found : st.entry n = some x) : x = e := Option.some.inj (found.symm.trans entry)
    split
    next retired =>
      have killed : st.keepsStaged (st.update n fun x => x.become .dead) :=
        st.update_keepsStaged n _ fun x r found staged _ =>
          absurd (own x found ▸ staged) (e.not_staged_of_retired day retention retired)
      dsimp only
      split
      · refine killed.trans (Store.reclaim_keepsStaged _ n (st.update_rising n _ rising) fun x found => ?_)
        rw [Store.entry_update, if_pos rfl] at found
        obtain ⟨y, -, rfl⟩ := Option.map_eq_some_iff.mp found
        exact EntryState.noConfusion
      · exact killed
    next =>
      split
      next reclaimable =>
        exact st.reclaim_keepsStaged n rising fun x found => own x found ▸ e.not_staged_of_reclaimable reclaimable
      next => exact st.keepsStaged_refl

/-! ## A stage-entry -/

/-- R10, R13: a FREE entry taken with no passes. -/
theorem Store.poolGood.take {st : Store} (good : st.poolGood) (n : Nat) (rest : List Nat) (r : EntryRecord)
    (number : BitVec 32) (free : st.freeList = n :: rest) (noPasses : r.part.passes = []) :
    (st.take n rest r number).poolGood := by
  obtain ⟨freeList, freePasses⟩ := st.take_keeps n rest r number
  have once := good.once
  rw [free] at once
  obtain ⟨fresh, restOnce⟩ := List.nodup_cons.mp once
  have wasFree : st.entry n = none := good.free n (by rw [free]; exact List.mem_cons_self)
  refine ⟨st.take_rising n rest r number good.rising, fun k mem => ?_, by rwa [freeList], ?_⟩
  · rw [freeList] at mem
    have other : k ≠ n := fun same => fresh (same ▸ mem)
    rw [st.entry_take_other n rest r number k other]
    exact good.free k (by rw [free]; exact List.mem_cons_of_mem n mem)
  · have held : (st.take n rest r number).heldPasses = st.heldPasses := by
      have sum := Store.heldPasses_withSlot
        (({ st with freeList := rest, structureFault := 0 } : Store).withChain (bucketOf r.serial)
          (st.chain (bucketOf r.serial) ++ [n])) n
        (.held { stagedEntry r number with position := (st.chain (bucketOf r.serial)).getLast?, checkFault := 0 })
        good.rising
      have before := Store.passCount_slot_free
        (({ st with freeList := rest, structureFault := 0 } : Store).withChain (bucketOf r.serial)
          (st.chain (bucketOf r.serial) ++ [n])) n wasFree
      have passes : Entry.passes
          { stagedEntry r number with position := (st.chain (bucketOf r.serial)).getLast?, checkFault := 0 } = [] := by
        rw [← noPasses]
        cases part : r.part <;> simp [Entry.passes, ActionPart.passes, stagedEntry, part]
      rw [before, Slot.passCount, passes] at sum
      exact sum
    rw [Store.poolWhole, held, freePasses]
    exact good.whole

theorem Store.poolGood.stageEntry {st after : Store} (good : st.poolGood) (r : EntryRecord) (number : BitVec 32) (n : Nat)
    (noPasses : r.part.passes = []) (stored : st.stageEntry r number = some (after, n)) : after.poolGood := by
  have room := (good.of_samePool (st.killStaged_samePool r.serial)).makeRoom
  cases free : (st.killStaged r.serial).makeRoom.freeList with
  | nil =>
    rw [st.stageEntry_full r number free] at stored
    cases stored
  | cons m rest =>
    rw [st.stageEntry_taken m rest r number free] at stored
    obtain ⟨rfl, rfl⟩ := Prod.mk.inj (Option.some.inj stored)
    exact room.take m rest r number free noPasses

theorem Store.stageEntry_mark (st after : Store) (r : EntryRecord) (number : BitVec 32) (n : Nat)
    (stored : st.stageEntry r number = some (after, n)) : after.rebuildMark = st.rebuildMark := by
  have room := (st.killStaged_calms r.serial).tames.trans (st.killStaged r.serial).makeRoom_tames
  cases free : (st.killStaged r.serial).makeRoom.freeList with
  | nil =>
    rw [st.stageEntry_full r number free] at stored
    cases stored
  | cons m rest =>
    rw [st.stageEntry_taken m rest r number free] at stored
    obtain ⟨rfl, rfl⟩ := Prod.mk.inj (Option.some.inj stored)
    exact room.1

/-- R13: the entry that a stage-entry of a RESTORE fills is STAGED. -/
theorem Store.stageEntry_staged (st after : Store) (r : EntryRecord) (number : BitVec 32) (n : Nat) (x : RestorePart)
    (part : r.part = .restore x) (stored : st.stageEntry r number = some (after, n)) : after.stagedRestore n := by
  cases free : (st.killStaged r.serial).makeRoom.freeList with
  | nil =>
    rw [st.stageEntry_full r number free] at stored
    cases stored
  | cons m rest =>
    rw [st.stageEntry_taken m rest r number free] at stored
    obtain ⟨rfl, rfl⟩ := Prod.mk.inj (Option.some.inj stored)
    exact ⟨_, x, Store.entry_take_same _ m rest r number, rfl, part⟩

/-! ## A stage-pass -/

theorem Entry.withPass_restore (e : Entry) (q : PassRecord) (r : RestorePart) (part : e.part = .restore r) :
    e.withPass q = { e with part := .restore { r with passes := r.passes ++ [q] }, checkFault := 0 } := by
  rw [Entry.withPass, part]

theorem Entry.passes_restore (e : Entry) (r : RestorePart) (part : e.part = .restore r) : e.passes = r.passes := by
  rw [Entry.passes, part]

/-- R10, R11: a pass record leaves the pool for a RESTORE entry. -/
theorem Store.poolGood.append {st : Store} (good : st.poolGood) (n : Nat) (q : PassRecord) (restore : st.stagedRestore n)
    (room : st.freePasses ≠ 0) : (st.append n q).poolGood := by
  obtain ⟨e, r, entry, -, part⟩ := restore
  obtain ⟨freeList, -, freePasses⟩ := st.append_keeps n q
  have calm := Store.update_calms { st with freePasses := st.freePasses - 1 } n (Entry.withPass · q)
    fun e _ => e.calms_withPass q
  refine ⟨calm.rising good.rising, fun k mem => ?_, by rw [freeList]; exact good.once, ?_⟩
  · rw [freeList] at mem
    have free := good.free k mem
    have other : k ≠ n := by
      rintro rfl
      rw [free] at entry
      cases entry
    rw [st.entry_append_other n q k other, free]
  · have sum := Store.heldPasses_update { st with freePasses := st.freePasses - 1 } n (Entry.withPass · q) e entry good.rising
    have longer : (e.withPass q).passes.length = e.passes.length + 1 := by
      rw [e.withPass_restore q r part, e.passes_restore r part, Entry.passes_restore _ _ rfl, List.length_append]
      rfl
    have same : ({ st with freePasses := st.freePasses - 1 } : Store).heldPasses = st.heldPasses := rfl
    have appended : (({ st with freePasses := st.freePasses - 1 } : Store).update n (Entry.withPass · q)).heldPasses
        = (st.append n q).heldPasses := rfl
    have whole := good.whole
    rw [longer, same, appended] at sum
    rw [Store.poolWhole] at whole ⊢
    rw [freePasses]
    omega

theorem Store.append_keepsStaged (st : Store) (n : Nat) (q : PassRecord) : st.keepsStaged (st.append n q) :=
  Store.update_keepsStaged { st with freePasses := st.freePasses - 1 } n (Entry.withPass · q) fun e r _ staged part => by
    rw [e.withPass_restore q r part]
    exact ⟨staged, _, rfl⟩

/-- R11: what a stage-pass answered STAGED makes of the table. -/
theorem Store.poolGood.stagePass {st after : Store} (good : st.poolGood) (entry : Option Nat) (q : PassRecord)
    (restore : ∀ n, entry = some n → st.stagedRestore n) (stored : st.stagePass entry q = some after) :
    after.poolGood ∧ st.keepsStaged after := by
  cases entry with
  | none => cases stored
  | some n =>
    have kept := st.makePassRoom_keepsStaged good.rising
    by_cases room : st.makePassRoom.freePasses = 0
    · rw [st.stagePass_full n q room] at stored
      cases stored
    · rw [st.stagePass_stored n q room] at stored
      obtain rfl := Option.some.inj stored
      exact ⟨good.makePassRoom.append n q (kept n (restore n rfl)) room, kept.trans (Store.append_keepsStaged _ n q)⟩

end Sys2Proof.Machine

/-! PROOFS. What intake has in hand for the table (R11, R39, R40), from the writes into the window to the records taken. -/

namespace Sys2Proof.Machine

/-! ## What it depends on -/

theorem Part.claims_iff (p : Part) (c : IntakeClaim) :
    p.claims c ↔ p.arbiter.intake = some c ∨ intakeOf p.arbiter.op = some c := by
  rw [Part.claims, intakeOf_eq_some]

theorem Part.claims_congr {p q : Part} (same : p.arbiter.sameClaims q.arbiter) (c : IntakeClaim) : q.claims c ↔ p.claims c := by
  rw [Part.claims_iff, Part.claims_iff, same.1, same.2]

theorem Part.claims_claimIntake (p : Part) (c d : IntakeClaim) :
    (p.claimIntake c).claims d ↔ d = c ∨ intakeOf p.arbiter.op = some d := by
  have waiting : (p.claimIntake c).arbiter.intake = some c := rfl
  have running : (p.claimIntake c).arbiter.op = p.arbiter.op := rfl
  rw [Part.claims_iff, waiting, running, Option.some.injEq, eq_comm]

/-- R30: intake has no claim, waiting or granted. -/
def Part.claimsNothing (p : Part) : Prop := ∀ c, ¬ p.claims c

theorem Part.claimsNothing_iff (p : Part) : p.claimsNothing ↔ p.arbiter.intake = none ∧ intakeOf p.arbiter.op = none := by
  simp only [Part.claimsNothing, Part.claims_iff, not_or, forall_and, Option.eq_none_iff_forall_ne_some, ne_eq]

theorem Part.numbersAnswered.claimsNothing {p : Part} (h : p.numbersAnswered) : p.claimsNothing :=
  p.claimsNothing_iff.mpr ⟨h.noneWaits, h.free⟩

/-- A change that leaves the claims, the file in hand and a discard owed, and every STAGED entry. -/
theorem Part.stagingHeld.of_sameFile {p q : Part} (h : p.stagingHeld) (stays : p.store.keepsStaged q.store)
    (claims : ∀ c, q.claims c ↔ p.claims c) (staging : q.intake.staging = p.intake.staging)
    (owed : q.intake.discardOwed = p.intake.discardOwed) : q.stagingHeld := by
  obtain ⟨passes, entries, files, discards⟩ := h
  refine ⟨fun n x claimed => stays n (passes n x ((claims _).mp claimed)), fun r number claimed => ?_,
    fun f n inHand owes none named => ?_, fun given => ?_⟩
  · rw [staging]
    exact entries r number ((claims _).mp claimed)
  · exact stays n (files f n (staging ▸ inHand) owes (fun r number claimed => none r number ((claims _).mpr claimed)) named)
  · rw [staging]
    rw [claims, owed] at given
    exact discards given

/-- A change of anything but intake and its claims, which leaves every STAGED entry. -/
theorem Part.stagingHeld.of_sameIntake {p q : Part} (h : p.stagingHeld) (stays : p.store.keepsStaged q.store)
    (claims : p.arbiter.sameClaims q.arbiter) (intake : q.intake = p.intake) : q.stagingHeld :=
  h.of_sameFile stays (Part.claims_congr claims) (by rw [intake]) (by rw [intake])

/-- With no file in hand there is nothing to hold but what is claimed, a discard aside. -/
theorem Part.stagingHeld.of_noFile {p q : Part} (h : p.stagingHeld) (stays : p.store.keepsStaged q.store)
    (claims : ∀ c, q.claims c → c = .discard ∨ p.claims c) (noFile : q.intake.staging = none) : q.stagingHeld := by
  obtain ⟨passes, entries, -, -⟩ := h
  refine ⟨fun n x claimed => ?_, fun r number claimed => ?_, fun f n inHand => ?_, fun _ => noFile⟩
  · obtain isDiscard | before := claims _ claimed
    · cases isDiscard
    · exact stays n (passes n x before)
  · obtain isDiscard | before := claims _ claimed
    · cases isDiscard
    · exact ⟨(entries r number before).1, fun flag f _ inHand => absurd (noFile.symm.trans inHand) (by simp)⟩
  · exact absurd (noFile.symm.trans inHand) (by simp)

/-- Without a claim but a discard, and without a file, there is nothing to hold. -/
theorem Part.stagingHeld_of_free (p : Part) (claims : ∀ c, p.claims c → c = .discard) (noFile : p.intake.staging = none) :
    p.stagingHeld := by
  refine ⟨fun n x claimed => ?_, fun r number claimed => ?_, fun f n inHand => ?_, fun _ => noFile⟩
  · cases claims _ claimed
  · cases claims _ claimed
  · exact absurd (noFile.symm.trans inHand) (by simp)

theorem Part.stagingHeld_of_atRest {p : Part} (rest : p.atRest) : p.stagingHeld := by
  obtain ⟨-, -, arbiter, intake, -⟩ := rest
  exact p.stagingHeld_of_idle arbiter (by rw [intake]; rfl)

/-! ## Grants and refusals -/

theorem Part.claims_grant (p : Part) (c : IntakeClaim) : p.grant.claims c ↔ p.claims c := by
  obtain same | ⟨free, noneWaits, running, -⟩ := p.grant_claims
  · exact Part.claims_congr same c
  · rw [Part.claims_iff, Part.claims_iff, noneWaits, running, free]
    cases p.arbiter.intake <;> simp

theorem Part.stagingHeld.grant {p : Part} (h : p.stagingHeld) : p.grant.stagingHeld :=
  h.of_sameFile (Store.keepsStaged_of_eq p.grant_store) p.claims_grant (by simp) (by simp)

theorem Part.claims_orderDiscard (p : Part) (c : IntakeClaim) (claimed : p.orderDiscard.claims c) :
    c = .discard ∨ p.claims c := by
  rw [Part.orderDiscard] at claimed
  split at claimed
  · obtain isDiscard | running := (p.claims_claimIntake .discard c).mp claimed
    · exact .inl isDiscard
    · exact .inr ((p.claims_iff c).mpr (.inr running))
  · exact .inr claimed

theorem Part.orderDiscard_staging (p : Part) : p.orderDiscard.intake.staging = p.intake.staging := by
  rw [Part.orderDiscard]
  split <;> rfl

/-- R41: a file ended and a discard ordered. -/
theorem Part.claims_endFile_orderDiscard (p : Part) (state : IntakeState) (c : IntakeClaim)
    (claimed : (p.endFile state).orderDiscard.claims c) : c = .discard ∨ p.claims c := by
  obtain isDiscard | before := Part.claims_orderDiscard _ c claimed
  · exact .inl isDiscard
  · exact .inr ((Part.claims_congr (sameClaims_of_arbiter (by simp)) c).mp before)

theorem Part.stagingHeld.endFile_orderDiscard {p : Part} (h : p.stagingHeld) (state : IntakeState) :
    (p.endFile state).orderDiscard.stagingHeld :=
  h.of_noFile (Store.keepsStaged_of_eq (by simp)) (p.claims_endFile_orderDiscard state)
    ((p.endFile state).orderDiscard_staging)

theorem Part.stagingHeld.refuse {p : Part} (h : p.stagingHeld) (reason : FileRefusal) : (p.refuse reason).stagingHeld :=
  (h.endFile_orderDiscard .draining).of_sameIntake (Store.keepsStaged_refl _) (sameClaims_of_arbiter rfl) rfl

theorem Part.claims_refuse (p : Part) (reason : FileRefusal) (c : IntakeClaim) (claimed : (p.refuse reason).claims c) :
    c = .discard ∨ p.claims c := p.claims_endFile_orderDiscard .draining c claimed

theorem Part.refuse_staging (p : Part) (reason : FileRefusal) : (p.refuse reason).intake.staging = none :=
  (p.endFile .draining).orderDiscard_staging

theorem Part.stagingHeld.resetIntake {p : Part} (h : p.stagingHeld) : p.resetIntake.stagingHeld := by
  have ended := h.endFile_orderDiscard .idle
  rw [Part.resetIntake]
  split
  · exact ended.of_sameIntake (Store.keepsStaged_refl _) (sameClaims_of_arbiter rfl) rfl
  · exact ended

/-! ## What good records ask for -/

theorem boundEffects_ok_of_not_effect (staging : Option StagingFile) (x : Except FileRefusal Checked) (c : Checked)
    (notEffect : ∀ e, c ≠ .effect e) (h : boundEffects staging x = .ok c) : x = .ok c := by
  rw [boundEffects.eq_def] at h
  split at h
  next e =>
    split at h
    · cases h
    · exact absurd (Except.ok.inj h).symm (notEffect e)
  all_goals exact h

/-- R2, R39: a good record that stages an entry brings no passes, and none are owed for a BLOCK. -/
def Checked.entryGood : Checked → Prop
  | .entry e passCount => e.part.passes = [] ∧ ∀ flag, e.part = .block flag → passCount = 0
  | _ => True

theorem checkBlock_entryGood (r : FileRecord) (c : Checked) (h : checkBlock r = .ok c) : c.entryGood := by
  rw [checkBlock] at h
  split at h
  · cases h
  · obtain rfl := Except.ok.inj h
    exact ⟨rfl, fun _ _ => rfl⟩

theorem checkRestore_entryGood (r : FileRecord) (c : Checked) (h : checkRestore r = .ok c) : c.entryGood := by
  rw [checkRestore] at h
  split at h
  · cases h
  · obtain rfl := Except.ok.inj h
    exact ⟨rfl, fun _ block => by cases block⟩

theorem checkPass_eq_ok (r : FileRecord) (c : Checked) (h : checkPass r = .ok c) : ∃ q, c = .pass q := by
  simp only [checkPass] at h
  split at h
  · cases h
  split at h
  · exact ⟨_, (Except.ok.inj h).symm⟩
  split at h
  · exact ⟨_, (Except.ok.inj h).symm⟩
  · cases h

theorem checkTrailer_eq_ok (f : StagingFile) (r : FileRecord) (c : Checked) (h : checkTrailer f r = .ok c) : c = .trailer := by
  rw [checkTrailer] at h
  split at h
  · cases h
  split at h
  · cases h
  split at h
  · cases h
  · exact (Except.ok.inj h).symm

theorem checkCancel_eq_ok (r : FileRecord) (c : Checked) (h : checkCancel r = .ok c) : ∃ e, c = .effect e := by
  rw [checkCancel] at h
  split at h
  · cases h
  · exact ⟨_, (Except.ok.inj h).symm⟩

theorem checkWindows_eq_ok (window : Option FileWindow) (r : FileRecord) (c : Checked) (h : checkWindows window r = .ok c) :
    ∃ e, c = .effect e := by
  simp only [checkWindows] at h
  split at h
  · split at h
    · cases h
    · exact ⟨_, (Except.ok.inj h).symm⟩
  · cases h

theorem checkPolicy_eq_ok (r : FileRecord) (c : Checked) (h : checkPolicy r = .ok c) : ∃ e, c = .effect e := by
  simp only [checkPolicy] at h
  split at h
  · split at h
    · exact ⟨_, (Except.ok.inj h).symm⟩
    · cases h
  · cases h

theorem checkKeys_eq_ok (r : FileRecord) (c : Checked) (h : checkKeys r = .ok c) : ∃ e, c = .effect e := by
  rw [checkKeys] at h
  split at h
  · exact ⟨_, (Except.ok.inj h).symm⟩
  · cases h

/-- R42: of the effects' checks nothing comes but an effect. -/
theorem boundEffects_effect (staging : Option StagingFile) (x : Except FileRefusal Checked) (c : Checked)
    (effect : ∀ d, x = .ok d → ∃ e, d = .effect e) (h : boundEffects staging x = .ok c) : ∃ e, c = .effect e := by
  by_contra other
  have same := boundEffects_ok_of_not_effect staging x c (fun e is => other ⟨e, is⟩) h
  exact other (effect c same)

/-- R37, R39, R40: what a good record asks for is good, and a PASS has its kind. -/
theorem kindCheck_eq_ok (committed : BitVec 32) (window : Option FileWindow) (capacity : Nat) (staging : Option StagingFile)
    (r : FileRecord) (c : Checked) (h : kindCheck committed window capacity staging r = .ok c) :
    c.entryGood ∧ (∀ q, c = .pass q → recordKind r = 4) := by
  have ofEffect (isEffect : ∃ e, c = .effect e) : c.entryGood ∧ (∀ q, c = .pass q → recordKind r = 4) := by
    obtain ⟨e, rfl⟩ := isEffect
    exact ⟨trivial, fun q made => by cases made⟩
  have ofEntry (good : c.entryGood) (notPass : ∀ q, c ≠ .pass q) : c.entryGood ∧ (∀ q, c = .pass q → recordKind r = 4) :=
    ⟨good, fun q made => absurd made (notPass q)⟩
  rw [kindCheck.eq_def] at h
  split at h
  case h_1 =>
    obtain ⟨_, _, _, rfl, -⟩ := checkHeader_eq_ok _ _ _ _ h
    exact ofEntry trivial fun q made => by cases made
  case h_2 =>
    refine ofEntry (checkBlock_entryGood r c h) fun q made => ?_
    rw [checkBlock] at h
    split at h <;> simp [made] at h
  case h_3 =>
    refine ofEntry (checkRestore_entryGood r c h) fun q made => ?_
    rw [checkRestore] at h
    split at h <;> simp [made] at h
  case h_4 kind =>
    obtain ⟨q, rfl⟩ := checkPass_eq_ok r c h
    exact ⟨trivial, fun _ _ => kind⟩
  case h_5 => exact ofEffect (boundEffects_effect _ _ c (checkCancel_eq_ok r) h)
  case h_6 => exact ofEffect (boundEffects_effect _ _ c (checkWindows_eq_ok window r) h)
  case h_7 => exact ofEffect (boundEffects_effect _ _ c (checkPolicy_eq_ok r) h)
  case h_8 => exact ofEffect (boundEffects_effect _ _ c (checkKeys_eq_ok r) h)
  case h_9 => exact ofEffect (boundEffects_effect _ _ c (fun d made => ⟨_, (Except.ok.inj made).symm⟩) h)
  case h_10 => exact ofEffect (boundEffects_effect _ _ c (fun d made => ⟨_, (Except.ok.inj made).symm⟩) h)
  case h_11 =>
    split at h
    · cases h
    next f =>
      obtain rfl := checkTrailer_eq_ok f r c h
      exact ofEntry trivial fun q made => by cases made
  case h_12 => cases h

/-- R37: a record of kind PASS passes the common checks only where passes are owed. -/
theorem owed_of_commonFailure_none (f : StagingFile) (capacity : Nat) (r : FileRecord) (kind : recordKind r = 4)
    (h : commonFailure (some f) capacity r = none) : f.owed ≠ 0 := by
  intro none
  revert h
  simp only [commonFailure, owedCount]
  split
  · simp
  split
  · simp
  split
  · simp
  split
  · simp
  split
  · simp
  split
  · simp
  · simp [none, kind]

theorem checkRecord_pass_owed (committed : BitVec 32) (window : Option FileWindow) (f : StagingFile) (r : FileRecord)
    (q : PassRecord) (h : checkRecord committed window (some f) r = .ok (.pass q)) : f.owed ≠ 0 := by
  obtain ⟨capacity, common, kind⟩ := checkRecord_eq_ok _ _ _ _ _ h
  exact owed_of_commonFailure_none f capacity r ((kindCheck_eq_ok _ _ _ _ _ _ kind).2 q rfl) common

theorem checkRecord_entryGood (committed : BitVec 32) (window : Option FileWindow) (staging : Option StagingFile)
    (r : FileRecord) (c : Checked) (h : checkRecord committed window staging r = .ok c) : c.entryGood := by
  obtain ⟨capacity, -, kind⟩ := checkRecord_eq_ok _ _ _ _ _ h
  exact (kindCheck_eq_ok _ _ _ _ _ _ kind).1

end Sys2Proof.Machine

/-! PROOFS. What intake has in hand for the table (R11, R39, R40) under the records taken, the writes into the window and the
answers. -/

namespace Sys2Proof.Machine

/-! ## Records taken -/

/-- R39: a stage-entry claimed with its file's passes owed. -/
theorem Part.stagingHeld_claimEntry (p : Part) (e : EntryRecord) (passCount : Nat) (f : StagingFile) (idle : p.claimsNothing)
    (notOwed : p.intake.discardOwed = false) (good : (Checked.entry e passCount).entryGood) :
    Part.stagingHeld (({ p with intake := { p.intake with staging := some { f with owed := passCount } } } : Part).claimIntake
      (.stageEntry e f.number)) := by
  obtain ⟨noPasses, block⟩ := good
  have noneRuns := ((p.claimsNothing_iff).mp idle).2
  have claims (c : IntakeClaim) (claimed : (({ p with intake := { p.intake with
      staging := some { f with owed := passCount } } } : Part).claimIntake (.stageEntry e f.number)).claims c) :
      c = .stageEntry e f.number := by
    obtain same | running := (Part.claims_claimIntake _ _ c).mp claimed
    · exact same
    · rw [show intakeOf _ = none from noneRuns] at running
      cases running
  refine ⟨fun n x claimed => ?_, fun r number claimed => ?_, fun g n _ _ none => ?_, fun given => ?_⟩
  · cases claims _ claimed
  · cases claims _ claimed
    refine ⟨noPasses, fun flag g isBlock inHand => ?_⟩
    obtain rfl := Option.some.inj inHand
    exact block flag isBlock
  · exact absurd ((Part.claims_claimIntake _ _ _).mpr (.inl rfl)) (none e f.number)
  · obtain claimed | isOwed := given
    · cases claims _ claimed
    · exact absurd (notOwed.symm.trans isOwed) (by simp)

section Records

variable {p : Part} (h : p.stagingHeld)
include h

/-- R11: a file that has staged what it staged before: the passes owed and the RESTORE entry stand. -/
theorem Part.stagingHeld.file_restore (idle : p.claimsNothing) (f : StagingFile) (n : Nat) (inHand : p.intake.staging = some f)
    (owes : f.owed ≠ 0) (named : f.restoreEntry = some n) : p.store.stagedRestore n := by
  obtain ⟨-, -, files, -⟩ := h
  exact files f n inHand owes (fun r number claimed => idle _ claimed) named

/-- A change of the file in hand that claims nothing for entries or passes. -/
theorem Part.stagingHeld.of_newFile {q : Part} (idle : p.claimsNothing) (store : q.store = p.store)
    (claims : ∀ c, q.claims c → ∃ d, c = .commit d) (owed : q.intake.discardOwed = false)
    (file : ∀ f n, q.intake.staging = some f → f.owed ≠ 0 → f.restoreEntry = some n →
      ∃ g, p.intake.staging = some g ∧ g.owed ≠ 0 ∧ g.restoreEntry = some n) : q.stagingHeld := by
  refine ⟨fun n x claimed => ?_, fun r number claimed => ?_, fun f n inHand owes _ named => ?_, fun given => ?_⟩
  · obtain ⟨d, made⟩ := claims _ claimed
    cases made
  · obtain ⟨d, made⟩ := claims _ claimed
    cases made
  · obtain ⟨g, had, owed, restore⟩ := file f n inHand owes named
    rw [store]
    exact h.file_restore idle g n had owed restore
  · obtain claimed | isOwed := given
    · obtain ⟨d, made⟩ := claims _ claimed
      cases made
    · rw [owed] at isOwed
      cases isOwed

/-- R40: a stage-pass claimed for the RESTORE entry staged last. -/
theorem Part.stagingHeld.claimPass (q : PassRecord) (f g : StagingFile) (idle : p.claimsNothing)
    (notOwed : p.intake.discardOwed = false) (inHand : p.intake.staging = some f) (owes : f.owed ≠ 0)
    (restore : g.restoreEntry = f.restoreEntry) :
    Part.stagingHeld (({ p with intake := { p.intake with staging := some g } } : Part).claimIntake
      (.stagePass f.restoreEntry q)) := by
  have noneRuns := ((p.claimsNothing_iff).mp idle).2
  have claims (c : IntakeClaim) (claimed : (({ p with intake := { p.intake with staging := some g } } : Part).claimIntake
      (.stagePass f.restoreEntry q)).claims c) : c = .stagePass f.restoreEntry q := by
    obtain same | running := (Part.claims_claimIntake _ _ c).mp claimed
    · exact same
    · rw [show intakeOf _ = none from noneRuns] at running
      cases running
  have held (n : Nat) (named : f.restoreEntry = some n) : p.store.stagedRestore n := h.file_restore idle f n inHand owes named
  refine ⟨fun n x claimed => ?_, fun r number claimed => ?_, fun k n inHand' _ _ named => ?_, fun given => ?_⟩
  · obtain ⟨named, -⟩ := IntakeClaim.stagePass.inj (claims _ claimed)
    exact held n named.symm
  · cases claims _ claimed
  · obtain rfl := Option.some.inj inHand'
    exact held n (restore.symm.trans named)
  · obtain claimed | isOwed := given
    · cases claims _ claimed
    · exact absurd (notOwed.symm.trans isOwed) (by simp)

theorem Part.stagingHeld.dealWith (r : FileRecord) (c : Checked) (idle : p.claimsNothing)
    (notOwed : p.intake.discardOwed = false) (good : c.entryGood)
    (owes : ∀ q f, c = .pass q → p.intake.staging = some f → f.owed ≠ 0) : (p.dealWith r c).stagingHeld := by
  have noClaims {q : Part} (arbiter : q.arbiter = p.arbiter) (c : IntakeClaim) (claimed : q.claims c) :
      ∃ d, c = .commit d := absurd ((Part.claims_congr (sameClaims_of_arbiter arbiter) c).mp claimed) (idle c)
  rw [Part.dealWith.eq_def]
  split
  next n k x =>
    refine h.of_newFile idle rfl (noClaims rfl) notOwed fun f n inHand owed _ => ?_
    obtain rfl := Option.some.inj inHand
    exact absurd rfl owed
  next e passCount f inHand => exact p.stagingHeld_claimEntry e passCount (f.counted r false) idle notOwed good
  next q f inHand => exact h.claimPass q f (f.counted r false) idle notOwed inHand (owes q f rfl inHand) rfl
  next e f inHand =>
    refine h.of_newFile idle rfl (noClaims rfl) notOwed fun g n made owed named => ?_
    obtain rfl := Option.some.inj made
    exact ⟨f, inHand, owed, named⟩
  next f inHand =>
    refine h.of_newFile idle rfl (fun c claimed => ?_) notOwed fun g n made owed named => ?_
    · obtain same | running := (Part.claims_claimIntake _ _ c).mp claimed
      · exact ⟨_, same⟩
      · rw [show intakeOf _ = none from ((p.claimsNothing_iff).mp idle).2] at running
        cases running
    · obtain rfl := Option.some.inj made
      exact ⟨f, inHand, owed, named⟩
  all_goals exact h

theorem Part.stagingHeld.takeHead : p.takeHead.stagingHeld := by
  obtain ⟨same, -⟩ | ⟨r, rest, -, nothing, notOwed, ⟨reason, -, refused⟩ | ⟨c, good, dealt⟩⟩ := p.takeHead_cases
  · rwa [same]
  · rw [refused]
    exact h.refuse reason
  · rw [dealt]
    refine h.dealWith r c (p.claimsNothing_iff.mpr (p.intakeOutstanding_eq_false.mp nothing)) notOwed
      (checkRecord_entryGood _ _ _ r c good) fun q f made inHand => ?_
    rw [inHand, made] at good
    exact checkRecord_pass_owed _ _ f r q good

theorem Part.stagingHeld.admitHeld : p.admitHeld.stagingHeld := by
  have same : p.admitHeld.intake.staging = p.intake.staging
      ∧ p.admitHeld.intake.discardOwed = p.intake.discardOwed := by
    rw [Part.admitHeld]
    split
    · exact ⟨rfl, rfl⟩
    · split
      · simp
      · exact ⟨rfl, rfl⟩
  exact h.of_sameFile (Store.keepsStaged_of_eq (by simp)) (Part.claims_congr (sameClaims_of_arbiter p.admitHeld_arbiter))
    same.1 same.2

theorem Part.stagingHeld.intakeWork : p.intakeWork.stagingHeld :=
  Part.intakeWork_induction (fun _ h => h.takeHead) (fun _ h => h.admitHeld) p h

/-! ## Writes into the window -/

theorem Part.stagingHeld.acceptWord (word : Nat) (written b : LaneBytes) : (p.acceptWord word written b).stagingHeld := by
  have same : (p.acceptWord word written b).intake.staging = p.intake.staging
      ∧ (p.acceptWord word written b).intake.discardOwed = p.intake.discardOwed := by
    simp only [Part.acceptWord, Part.completeRecord]
    repeat' split
    all_goals exact ⟨rfl, rfl⟩
  exact h.of_sameFile (Store.keepsStaged_of_eq (by simp)) (Part.claims_congr (sameClaims_of_arbiter (by simp))) same.1 same.2

/-- R31: a file begun puts no file in hand until its HEADER is taken. -/
theorem Part.stagingHeld.beginFile (b : LaneBytes) : (p.beginFile b).stagingHeld := by
  rw [Part.beginFile]
  refine Part.stagingHeld.acceptWord ?_ 0 noBytes b
  split
  next =>
    split
    · exact h.of_noFile (Store.keepsStaged_refl _) (fun _ => .inr) rfl
    · exact (h.refuse .abandoned).of_noFile (Store.keepsStaged_refl _) (fun _ => .inr) rfl
  next => exact h.of_noFile (Store.keepsStaged_refl _) (fun _ => .inr) rfl

theorem Part.stagingHeld.followWrite (word : Nat) (b : LaneBytes) : (p.followWrite word b).stagingHeld := by
  rw [Part.followWrite]
  split
  · split
    · exact h.acceptWord _ _ b
    · split
      · exact h.beginFile b
      · exact h.refuse .order
  all_goals
    split
    · exact h.beginFile b
    · exact h

theorem Part.stagingHeld.fileWrite (word : Nat) (b : LaneBytes) : (p.fileWrite word b).stagingHeld :=
  (h.followWrite word b).intakeWork

/-! ## Answers -/

/-- R41: a discard owed and claimed finds no file in hand. -/
theorem Part.stagingHeld.claimOwedDiscard : p.claimOwedDiscard.stagingHeld := by
  rw [Part.claimOwedDiscard]
  split
  next owed =>
    obtain ⟨-, -, -, discards⟩ := id h
    refine h.of_noFile (Store.keepsStaged_refl _) (fun c claimed => ?_) (discards (.inr owed))
    obtain same | running := (Part.claims_claimIntake _ _ c).mp claimed
    · exact .inl same
    · exact .inr ((p.claims_iff c).mpr (.inr running))
  next => exact h

end Records

/-- R35, R41, R46: an answer taken as `f` says, or ignored; then intake goes on. -/
theorem Part.numbersAnswered.stagingHeld {p : Part} (h : p.numbersAnswered) (f : Part → Part)
    (taken : (f p).stagingHeld) : (p.intakeAnswered f).stagingHeld := by
  rw [Part.intakeAnswered]
  refine Part.stagingHeld.intakeWork (Part.stagingHeld.claimOwedDiscard ?_)
  split
  next ignored =>
    refine Part.stagingHeld_of_free _ (fun c claimed => absurd claimed (h.claimsNothing c)) ?_
    exact h.ignored ignored
  next => exact taken

/-- R41: an answer that refuses the file. -/
theorem Part.numbersAnswered.refused {p : Part} (h : p.numbersAnswered) (reason : FileRefusal) :
    (p.intakeAnswered fun q => q.refuse reason).stagingHeld := by
  refine h.stagingHeld _ (Part.stagingHeld_of_free _ (fun c claimed => ?_) (p.refuse_staging reason))
  exact (p.claims_refuse reason c claimed).resolve_right (h.claimsNothing c)

end Sys2Proof.Machine

/-! PROOFS. Every step keeps the free list and the pass pool (R7, R10, R11): each operation. -/

namespace Sys2Proof.Machine

section Operations

variable {p : Part}

/-! ## What intake has in hand, under cycles and timers -/

section Staging

variable (h : p.stagingHeld)
include h

theorem Part.stagingHeld.takeCycle (w : BitVec 23) (a : Access) : (p.takeCycle w a).stagingHeld := by
  have touched := p.takeCycle_touched w a
  revert touched
  rw [Part.takeCycle.eq_def]
  split
  · exact fun touched => h.of_sameIntake touched.keepsStaged (sameClaims_of_arbiter (by simp)) (by simp)
  · exact fun touched => h.of_sameIntake touched.keepsStaged (sameClaims_of_arbiter (by simp)) (by simp)
  next b _ =>
    rw [Part.takeWrite]
    split
    · exact fun touched => h.of_sameIntake touched.keepsStaged (sameClaims_of_arbiter (by simp)) (by simp)
    next k _ =>
      exact fun _ =>
        (h.fileWrite k b).of_sameIntake (Store.keepsStaged_of_eq (by simp)) (sameClaims_of_arbiter (by simp)) (by simp)
    next n k _ =>
      exact fun touched => h.of_sameIntake touched.keepsStaged
        ((p.contextWrite_claims n k b).trans (sameClaims_of_arbiter (by simp))) (by simp)
    next record k _ =>
      exact fun touched => h.of_sameIntake touched.keepsStaged
        ((p.journalWrite_claims record k b).trans (sameClaims_of_arbiter (by simp))) (by simp)
    · exact fun touched => h.of_sameIntake touched.keepsStaged (sameClaims_of_arbiter (by simp)) (by simp)
  · exact fun touched => h.of_sameIntake touched.keepsStaged (sameClaims_of_arbiter (by simp)) (by simp)

theorem Part.stagingHeld.arrive (w : BitVec 23) (a : Access) : (p.arrive w a).stagingHeld := by
  rw [Part.arrive]
  split
  · split
    · exact h.of_sameIntake (Store.keepsStaged_refl _) (sameClaims_of_arbiter rfl) rfl
    · exact (h.takeCycle w a).grant
  · exact h

theorem Part.stagingHeld.takeWaiting : p.takeWaiting.stagingHeld := by
  rw [Part.takeWaiting]
  split
  · exact h
  · refine Part.stagingHeld.takeCycle ?_ _ _
    exact h.of_sameIntake (Store.keepsStaged_refl _) (sameClaims_of_arbiter rfl) rfl

theorem Part.stagingHeld.completeSettle : p.completeSettle.stagingHeld := by
  cases settle : p.path.settleWrite with
  | none =>
    rw [Part.completeSettle, settle]
    exact h
  | some x =>
    have noted := (p.settleLanded x).noteSettled_touched x
    rw [p.completeSettle_eq x settle]
    refine (Part.stagingHeld.takeWaiting ?_).grant
    exact h.of_sameIntake noted.keepsStaged ((p.settleLanded x).noteSettled_claims x) (by simp [Part.settleLanded])

theorem Part.stagingHeld.expireIntakeHold : p.expireIntakeHold.stagingHeld := by
  rw [Part.expireIntakeHold]
  split
  · exact (h.refuse .stall).grant
  · exact h

theorem Part.stagingHeld.resetRun (straps : BitVec 10) : (p.resetRun straps).stagingHeld := by
  have contexts : p.landSettle.resetContexts.stagingHeld := by
    refine h.of_sameIntake ?_ ((sameClaims_of_arbiter (by simp)).trans (Part.resetContexts_claims _)) (by simp)
    have landed : p.landSettle.store = p.store := by simp
    have given := p.landSettle.giveUp_touched [0, 1, 2, 3]
    rw [landed] at given
    exact given.keepsStaged
  rw [Part.resetRun]
  refine Part.stagingHeld.grant (Part.stagingHeld.takeWaiting ?_)
  exact contexts.resetIntake.of_sameIntake (Store.keepsStaged_of_eq (by simp [Part.resetPath]))
    (sameClaims_of_arbiter (by simp [Part.resetPath])) (by simp [Part.resetPath])

end Staging

end Operations

end Sys2Proof.Machine

/-! PROOFS. Every step keeps the free list and the pass pool (R7, R10): the table with what intake has in hand for it, operation
by operation, and the obligation. -/

namespace Sys2Proof.Machine

/-! ## How it is kept -/

section Kept

variable {p q : Part} (h : p.poolHonest)
include h

theorem Part.poolHonest.of_store (mark : q.store.rebuildMark = p.store.rebuildMark)
    (good : p.store.poolGood → p.stagingHeld → q.store.poolGood ∧ q.stagingHeld) : q.poolHonest := by
  rw [Part.poolHonest_iff] at h ⊢
  obtain marked | ⟨pool, staging⟩ := h
  · exact .inl (mark.trans marked)
  · exact .inr (good pool staging)

theorem Part.poolHonest.touched (touched : p.store.Touched q.store) (staging : p.stagingHeld → q.stagingHeld) :
    q.poolHonest :=
  h.of_store touched.samePool.mark fun pool held => ⟨pool.of_samePool touched.samePool, staging held⟩

/-- A table touched, where intake and its claims stand. -/
theorem Part.poolHonest.of_sameIntake (touched : p.store.Touched q.store) (claims : ∀ c, q.claims c ↔ p.claims c)
    (intake : q.intake = p.intake) : q.poolHonest :=
  h.touched touched fun held => held.of_sameFile touched.keepsStaged claims (by rw [intake]) (by rw [intake])

theorem Part.poolHonest.of_sameTable (store : q.store = p.store) (arbiter : q.arbiter = p.arbiter) (intake : q.intake = p.intake) :
    q.poolHonest :=
  h.of_sameIntake (Store.touched_of_eq store) (Part.claims_congr (sameClaims_of_arbiter arbiter)) intake

/-- The table as it stood, or the cold one, with nothing in hand that it does not hold. -/
theorem Part.poolHonest.spared (spared : p.sparesTable q) (staging : q.stagingHeld) : q.poolHonest := by
  obtain cold | ⟨store, -⟩ := spared
  · exact q.poolHonest_of_cold cold staging
  · exact h.of_store (by rw [store]) fun pool _ => ⟨store ▸ pool, staging⟩

end Kept

/-! ## The claims that operations leave -/

section Claims

variable (p : Part)

theorem Part.claims_completeLookup (c : IntakeClaim) : p.completeLookup.claims c ↔ p.claims c := by
  rw [Part.completeLookup]
  split
  next n _ wanted op =>
    have free : p.arbiter.sameClaims p.tableFree.arbiter := ⟨rfl, by simp [op]⟩
    dsimp only
    rw [Part.claims_grant]
    split
    · exact Part.claims_congr (free.trans (sameClaims_of_arbiter (by simp))) c
    · exact Part.claims_congr free c
  next => exact Iff.rfl

theorem Part.claims_completeMark (c : IntakeClaim) : p.completeMark.claims c ↔ p.claims c := by
  rw [Part.completeMark]
  split
  next op =>
    rw [Part.claims_grant]
    refine Part.claims_congr ?_ c
    exact ⟨rfl, by simp [op]⟩
  next op =>
    rw [Part.claims_grant]
    refine Part.claims_congr ?_ c
    exact ⟨rfl, by simp [op]⟩
  next => exact Iff.rfl

theorem Part.claims_completeSweepStep (c : IntakeClaim) : p.completeSweepStep.claims c ↔ p.claims c := by
  rw [Part.completeSweepStep]
  split
  next op =>
    have free : p.arbiter.sameClaims p.tableFree.arbiter := ⟨rfl, by simp [op]⟩
    rw [Part.claims_grant]
    exact Part.claims_congr (free.trans (Part.sweepEntry_claims _)) c
  next => exact Iff.rfl

theorem Part.claims_takeRelease (c : IntakeClaim) : p.takeRelease.claims c ↔ p.claims c := by
  rw [Part.takeRelease]
  split
  · rw [Part.claims_grant]
    exact Part.claims_congr ⟨rfl, rfl⟩ c
  · exact Iff.rfl

theorem Part.claims_expireHold (c : IntakeClaim) : p.expireHold.claims c ↔ p.claims c := by
  rw [Part.expireHold]
  split
  next n _ _ =>
    rw [Part.claims_grant]
    exact Part.claims_congr ((p.abandon_claims n).trans (sameClaims_of_arbiter (by simp))) c
  next => exact Iff.rfl

theorem Part.claims_expireAwait (n : Fin 4) (c : IntakeClaim) : (p.expireAwait n).claims c ↔ p.claims c := by
  rw [Part.expireAwait]
  split
  · split
    · exact Part.claims_congr (sameClaims_of_arbiter (by simp)) c
    · exact Iff.rfl
  · split
    · rw [Part.claims_grant]
      exact Part.claims_congr (Arbiter.sameClaims.trans (sameClaims_of_arbiter (by simp)) (Part.releasePin_claims _ _)) c
    · exact Iff.rfl
  all_goals exact Iff.rfl

theorem Part.claims_second (c : IntakeClaim) : p.crystalSecond.grant.claims c ↔ p.claims c := by
  rw [Part.claims_grant]
  exact Part.claims_congr p.crystalSecond_claims c

end Claims

/-! ## The walk and the supplies -/

/-- A supply event outside RUN leaves the part at rest, the table as it stood or cold. -/
theorem Part.poolHonest.outside {p q : Part} (h : p.poolHonest) (spared : p.sparesTable q) (rest : p.supply ≠ .run → q.atRest)
    (run : p.supply = .run → q.poolHonest) : q.poolHonest := by
  by_cases inRun : p.supply = .run
  · exact run inRun
  · exact h.spared spared (Part.stagingHeld_of_atRest (rest inRun))

theorem Part.enterRun_stagingHeld (p : Part) : p.enterRun.stagingHeld := by
  rw [p.enterRun_eq]
  refine Part.stagingHeld_of_free _ (fun c claimed => ?_) rfl
  rw [Part.claims_iff] at claimed
  dsimp only at claimed
  split at claimed <;> simp [Arbiter.idle] at claimed

section Rest

variable {p : Part} (h : p.poolHonest) (rests : p.restsOutsideRun)
include h rests

/-- R26: the table verified while the part is at rest. -/
theorem Part.poolHonest.verified (verify : p.supply = .verify) (st : Store) (same : p.store.samePool st) :
    Part.poolHonest { p with store := st } := by
  have rest : p.atRest := rests (by simp [verify])
  have rest' : Part.atRest { p with store := st } := rest
  exact h.of_store same.mark fun pool _ => ⟨pool.of_samePool same, Part.stagingHeld_of_atRest rest'⟩

theorem Part.poolHonest.walkStep (verify : p.supply = .verify) : p.walkStep.poolHonest := by
  have rest : p.walkStep.atRest :=
    restsOutsideRun_keptByOperations.walkStep p verify rests (by simp [verify])
  obtain spared | ⟨n, verified⟩ | mark := p.walkStep_table
  · exact h.spared spared (Part.stagingHeld_of_atRest rest)
  · exact (h.verified rests verify _ (p.store.verifyEntry_samePool n)).spared verified (Part.stagingHeld_of_atRest rest)
  · exact .inl mark

theorem Part.poolHonest.completeWalk : p.completeWalk.poolHonest := by
  rw [Part.completeWalk]
  split
  next verify =>
    obtain spared | ⟨n, verified⟩ := p.finishWalk_spares
    · exact h.spared (spared.trans p.finishWalk.enterRun_spares) p.finishWalk.enterRun_stagingHeld
    · exact (h.verified rests verify _ (p.store.verifyFrom_samePool n)).spared
        (verified.trans p.finishWalk.enterRun_spares) p.finishWalk.enterRun_stagingHeld
  next => exact h

theorem Part.poolHonest.finishCold : p.finishCold.poolHonest :=
  h.outside p.finishCold_spares (fun out => (rests out).finishCold) fun run => by rwa [p.finishCold_of_run run]

theorem Part.poolHonest.mainGood (straps : BitVec 10) : (p.mainGood straps).poolHonest :=
  h.outside (p.mainGood_spares straps) (fun out => (rests out).mainGood straps) fun run => by
    rwa [p.mainGood_of_run straps run]

theorem Part.poolHonest.mainFall : p.mainFall.poolHonest := by
  refine h.outside p.mainFall_spares (fun out => ?_) fun run => ?_
  · rw [Part.mainFall]
    split
    · exact (rests out).fallUnsupplied
    · exact (rests out).fallUnsupplied
    all_goals exact p.mainLost_atRest
  · rw [p.mainFall_of_supplied (.inr (.inr run))]
    exact h.spared p.mainLost_spares (Part.stagingHeld_of_atRest p.mainLost_atRest)

theorem Part.poolHonest.keepLow : p.keepLow.poolHonest := by
  refine h.outside p.keepLow_spares (fun out => (rests out).keepLow) fun run => ?_
  have past : p.pastColdAtVkeep = p := by
    rw [Part.pastColdAtVkeep]
    split
    · exact p.finishCold_of_run run
    · rfl
  rw [Part.keepLow_eq, past]
  split <;> exact h.of_sameTable rfl rfl rfl

theorem Part.poolHonest.keepLost : p.keepLost.poolHonest := by
  refine h.outside p.keepLost_spares (fun out => ?_) fun run => ?_
  · exact (rests out).of_same (by simp) (by simp) (by simp) (by simp) (by simp) (by simp) (by simp)
  · rw [Part.keepLost, if_neg (by simp [run])]
    exact h.of_sameTable rfl rfl rfl

end Rest

/-! ## The operations of the table -/

/-- R39: an entry staged: the RESTORE entry it filled is STAGED, and no passes are owed for a BLOCK. -/
theorem Part.stagingHeld.entryStaged {p : Part} (held : p.stagingHeld) (r : EntryRecord) (number : BitVec 32) (st : Store)
    (n : Nat) (claimed : p.claims (.stageEntry r number)) (stored : p.store.stageEntry r number = some (st, n))
    (free : Part.claimsNothing (Part.tableFree { p with store := st })) :
    ((Part.tableFree { p with store := st }).entryStaged r n).stagingHeld := by
  obtain ⟨-, entries, -, discards⟩ := held
  obtain ⟨-, block⟩ := entries r number claimed
  rw [Part.entryStaged_eq]
  refine ⟨fun k x claimed => absurd claimed (free _), fun x y claimed => absurd claimed (free _),
    fun f k inHand owes _ named => ?_, fun given => ?_⟩
  · dsimp only at inHand
    cases part : r.part with
    | block flag =>
      rw [part] at inHand
      exact absurd (block flag f part inHand) owes
    | restore x =>
      rw [part] at inHand
      obtain ⟨g, -, rfl⟩ := Option.map_eq_some_iff.mp inHand
      obtain rfl := Option.some.inj named
      exact p.store.stageEntry_staged st r number n x part stored
  · have noFile : p.intake.staging = none := discards (.inr (given.resolve_left (free _)))
    dsimp only
    cases r.part with
    | block flag => exact noFile
    | restore x => exact Option.map_eq_none_iff.mpr noFile

/-- R40: a pass staged: the RESTORE entry staged last stands. -/
theorem Part.stagingHeld.passStaged {p : Part} (held : p.stagingHeld) (above : p.numbersAbove) (entry : Option Nat)
    (q : PassRecord) (st : Store) (op : p.arbiter.op = some (.intake (.stagePass entry q))) (stays : p.store.keepsStaged st)
    (free : Part.claimsNothing (Part.tableFree { p with store := st })) :
    (Part.tableFree { p with store := st }).passStaged.stagingHeld := by
  obtain ⟨-, -, files, discards⟩ := held
  obtain ⟨-, -, -, single, -⟩ := above
  have noEntry (r : EntryRecord) (number : BitVec 32) : ¬ p.claims (.stageEntry r number) := by
    rw [Part.claims, single _ op, op]
    simp
  refine ⟨fun k x claimed => absurd claimed (free _), fun x y claimed => absurd claimed (free _),
    fun f k inHand owes _ named => ?_, fun given => ?_⟩
  · obtain ⟨g, had, rfl⟩ := Option.map_eq_some_iff.mp inHand
    exact stays k (files g k had (fun none => owes (by simp [none])) noEntry named)
  · exact Option.map_eq_none_iff.mpr (discards (.inr (given.resolve_left (free _))))

section Table

variable {p : Part} (h : p.poolHonest)
include h

theorem Part.poolHonest.completeSweepStep : p.completeSweepStep.poolHonest := by
  have stepped : p.completeSweepStep.store = p.store
      ∨ ∃ w : Sweep, p.completeSweepStep.store = p.store.sweepStep w.day w.retention w.next := by
    rw [Part.completeSweepStep]
    split
    next =>
      rw [Part.grant_store, Part.sweepEntry]
      split
      · exact .inl rfl
      next w _ =>
        refine .inr ⟨w, ?_⟩
        dsimp only
        split <;> rfl
    next => exact .inl rfl
  have claims := p.claims_completeSweepStep
  have intake : p.completeSweepStep.intake = p.intake := by simp
  obtain same | ⟨w, swept⟩ := stepped
  · exact h.of_sameIntake (Store.touched_of_eq same) claims intake
  · refine h.of_store ?_ fun pool held => ⟨?_, held.of_sameFile ?_ claims (by rw [intake]) (by rw [intake])⟩
    · rw [swept]
      exact (p.store.sweepStep_tames _ _ _).1
    · rw [swept]
      exact pool.sweepStep _ _ _
    · rw [swept]
      exact p.store.sweepStep_keepsStaged _ _ _ pool.rising

theorem Part.poolHonest.completeDiscard (above : p.numbersAbove) : p.completeDiscard.poolHonest := by
  rw [Part.completeDiscard]
  split
  next op =>
    have answered := above.answered (q := ({ p with store := p.store.discard } : Part).tableFree) _ op rfl rfl rfl
    have store : ((({ p with store := p.store.discard } : Part).tableFree.intakeAnswered id).grant).store
        = p.store.discard := by
      rw [Part.grant_store, Part.intakeAnswered_store _ _ rfl]
      rfl
    refine h.of_store (by rw [store]; exact p.store.discard_samePool.mark) fun pool held => ⟨?_, ?_⟩
    · rw [store]
      exact pool.of_samePool p.store.discard_samePool
    · obtain ⟨-, -, -, discards⟩ := held
      refine (answered.stagingHeld id ?_).grant
      exact Part.stagingHeld_of_free _ (fun c claimed => absurd claimed (answered.claimsNothing c))
        (discards (.inl (.inr op)))
  next => exact h

theorem Part.poolHonest.completeCommit (above : p.numbersAbove) : p.completeCommit.poolHonest := by
  by_cases isCommit : ∃ c, p.arbiter.op = some (.intake (.commit c))
  · obtain ⟨c, op⟩ := isCommit
    have same := (p.store.commit_samePool c).trans (p.completeCommit_table c op).1.samePool
    refine h.of_store same.mark fun pool _ => ⟨pool.of_samePool same, ?_⟩
    have claims := p.tableFree.commitEffects_claims c
    have answered := above.answered (q := p.tableFree.commitEffects c) _ op claims.2 claims.1 (by simp)
    rw [Part.completeCommit, op]
    refine (answered.stagingHeld _ ?_).grant
    exact Part.stagingHeld_of_free _ (fun d claimed => absurd claimed (answered.claimsNothing d)) rfl
  · rw [Part.completeCommit]
    split
    next c op => exact absurd ⟨c, op⟩ isCommit
    next => exact h

theorem Part.poolHonest.completeStageEntry (above : p.numbersAbove) : p.completeStageEntry.poolHonest := by
  rw [Part.completeStageEntry]
  split
  next r number op =>
    split
    next =>
      have answered := above.answered (q := p.tableFree) _ op rfl rfl rfl
      have store : (p.tableFree.intakeAnswered fun q => q.refuse .tableFull).grant.store = p.store := by
        rw [Part.grant_store, Part.intakeAnswered_store _ _ (by simp)]
        rfl
      exact h.of_store (by rw [store]) fun pool _ => ⟨store ▸ pool, (answered.refused .tableFull).grant⟩
    next st n stored =>
      have answered := above.answered (q := Part.tableFree { p with store := st }) _ op rfl rfl rfl
      have store : ((Part.tableFree { p with store := st }).intakeAnswered fun q => q.entryStaged r n).grant.store = st := by
        rw [Part.grant_store, Part.intakeAnswered_store _ _ rfl]
        rfl
      refine h.of_store ?_ fun pool held => ⟨?_, (answered.stagingHeld _ ?_).grant⟩
      · rw [store]
        exact p.store.stageEntry_mark st r number n stored
      · obtain ⟨-, entries, -, -⟩ := held
        rw [store]
        exact pool.stageEntry r number n (entries r number (.inr op)).1 stored
      · exact held.entryStaged r number st n (.inr op) stored answered.claimsNothing
  next => exact h

theorem Part.poolHonest.completeStagePass (above : p.numbersAbove) : p.completeStagePass.poolHonest := by
  rw [Part.completeStagePass]
  split
  next entry q op =>
    split
    next =>
      have answered := above.answered (q := p.tableFree) _ op rfl rfl rfl
      have store : (p.tableFree.intakeAnswered fun q => q.refuse .poolFull).grant.store = p.store := by
        rw [Part.grant_store, Part.intakeAnswered_store _ _ (by simp)]
        rfl
      exact h.of_store (by rw [store]) fun pool _ => ⟨store ▸ pool, (answered.refused .poolFull).grant⟩
    next st stored =>
      have answered := above.answered (q := Part.tableFree { p with store := st }) _ op rfl rfl rfl
      have store : ((Part.tableFree { p with store := st }).intakeAnswered Part.passStaged).grant.store = st := by
        rw [Part.grant_store, Part.intakeAnswered_store _ _ rfl]
        rfl
      have passed (pool : p.store.poolGood) (held : p.stagingHeld) : st.poolGood ∧ p.store.keepsStaged st := by
        refine pool.stagePass entry q (fun n named => ?_) stored
        obtain ⟨passes, -, -, -⟩ := held
        exact passes n q (.inr (named ▸ op))
      refine h.of_store ?_ fun pool held => ⟨?_, (answered.stagingHeld _ ?_).grant⟩
      · rw [store]
        exact (p.store.stagePass_tames st entry q stored).1
      · rw [store]
        exact (passed pool held).1
      · exact held.passStaged above entry q st op (passed pool held).2 answered.claimsNothing
  next => exact h

theorem Part.poolHonest.assertReset (straps : BitVec 10) : (p.assertReset straps).poolHonest := by
  refine h.touched (p.assertReset_touched straps) fun held => ?_
  rw [Part.assertReset]
  split
  case h_5 => exact held.resetRun straps
  all_goals exact held.of_sameIntake (Store.keepsStaged_refl _) (sameClaims_of_arbiter rfl) rfl

end Table

end Sys2Proof.Machine

/-! PROOFS. Every step keeps the free list and the pass pool (R7, R10): the obligation. -/

namespace Sys2Proof.Machine

/-- Two properties that each operation keeps, it keeps together. -/
theorem KeptByOperations.and {P Q : Part → Prop} (k : KeptByOperations P) (l : KeptByOperations Q) :
    KeptByOperations fun p => P p ∧ Q p where
  finishCold p h := ⟨k.finishCold p h.1, l.finishCold p h.2⟩
  walkStep p verify h := ⟨k.walkStep p verify h.1, l.walkStep p verify h.2⟩
  arrive p w a h := ⟨k.arrive p w a h.1, l.arrive p w a h.2⟩
  endCycle p h := ⟨k.endCycle p h.1, l.endCycle p h.2⟩
  startSettle p h := ⟨k.startSettle p h.1, l.startSettle p h.2⟩
  completeSettle p h := ⟨k.completeSettle p h.1, l.completeSettle p h.2⟩
  completeLookup p h := ⟨k.completeLookup p h.1, l.completeLookup p h.2⟩
  completeMark p h := ⟨k.completeMark p h.1, l.completeMark p h.2⟩
  completeStageEntry p h := ⟨k.completeStageEntry p h.1, l.completeStageEntry p h.2⟩
  completeStagePass p h := ⟨k.completeStagePass p h.1, l.completeStagePass p h.2⟩
  completeCommit p h := ⟨k.completeCommit p h.1, l.completeCommit p h.2⟩
  completeDiscard p h := ⟨k.completeDiscard p h.1, l.completeDiscard p h.2⟩
  completeSweepStep p h := ⟨k.completeSweepStep p h.1, l.completeSweepStep p h.2⟩
  takeRelease p h := ⟨k.takeRelease p h.1, l.takeRelease p h.2⟩
  expireHold p h := ⟨k.expireHold p h.1, l.expireHold p h.2⟩
  expireIntakeHold p h := ⟨k.expireIntakeHold p h.1, l.expireIntakeHold p h.2⟩
  expireAwait p n h := ⟨k.expireAwait p n h.1, l.expireAwait p n h.2⟩
  expireAttention p h := ⟨k.expireAttention p h.1, l.expireAttention p h.2⟩
  endSlot p h := ⟨k.endSlot p h.1, l.endSlot p h.2⟩
  second p h := ⟨k.second p h.1, l.second p h.2⟩
  lockoutEnds p h := ⟨k.lockoutEnds p h.1, l.lockoutEnds p h.2⟩
  completeWalk p h := ⟨k.completeWalk p h.1, l.completeWalk p h.2⟩
  mainGood p straps h := ⟨k.mainGood p straps h.1, l.mainGood p straps h.2⟩
  mainFall p h := ⟨k.mainFall p h.1, l.mainFall p h.2⟩
  keepGood p h := ⟨k.keepGood p h.1, l.keepGood p h.2⟩
  keepLow p h := ⟨k.keepLow p h.1, l.keepLow p h.2⟩
  keepLost p h := ⟨k.keepLost p h.1, l.keepLost p h.2⟩
  assertReset p straps h := ⟨k.assertReset p straps h.1, l.assertReset p straps h.2⟩

/-- The premises of PoolKept, kept on their own. -/
theorem poolPremises_keptByOperations : KeptByOperations fun p => p.numbersAbove ∧ p.restsOutsideRun :=
  numbersAbove_keptByOperations.and restsOutsideRun_keptByOperations

/-- PoolKept's claim with its premises. -/
def Part.poolSound (p : Part) : Prop := (p.numbersAbove ∧ p.restsOutsideRun) ∧ p.poolHonest

/-- Each operation keeps PoolKept's claim, under its premises. -/
theorem poolSound_keptByOperations : KeptByOperations Part.poolSound where
  finishCold p h := ⟨poolPremises_keptByOperations.finishCold p h.1, h.2.finishCold h.1.2⟩
  walkStep p verify h := ⟨poolPremises_keptByOperations.walkStep p verify h.1, h.2.walkStep h.1.2 verify⟩
  arrive p w a h :=
    ⟨poolPremises_keptByOperations.arrive p w a h.1, h.2.touched (p.arrive_touched w a) fun held => held.arrive w a⟩
  endCycle p h := ⟨poolPremises_keptByOperations.endCycle p h.1, h.2.of_sameTable (by simp) (by simp) (by simp)⟩
  startSettle p h := ⟨poolPremises_keptByOperations.startSettle p h.1, h.2.of_sameTable (by simp) (by simp) (by simp)⟩
  completeSettle p h :=
    ⟨poolPremises_keptByOperations.completeSettle p h.1,
      h.2.touched p.completeSettle_touched fun held => held.completeSettle⟩
  completeLookup p h :=
    ⟨poolPremises_keptByOperations.completeLookup p h.1,
      h.2.of_sameIntake p.completeLookup_touched p.claims_completeLookup (by simp)⟩
  completeMark p h :=
    ⟨poolPremises_keptByOperations.completeMark p h.1,
      h.2.of_sameIntake p.completeMark_touched p.claims_completeMark (by simp)⟩
  completeStageEntry p h := ⟨poolPremises_keptByOperations.completeStageEntry p h.1, h.2.completeStageEntry h.1.1⟩
  completeStagePass p h := ⟨poolPremises_keptByOperations.completeStagePass p h.1, h.2.completeStagePass h.1.1⟩
  completeCommit p h := ⟨poolPremises_keptByOperations.completeCommit p h.1, h.2.completeCommit h.1.1⟩
  completeDiscard p h := ⟨poolPremises_keptByOperations.completeDiscard p h.1, h.2.completeDiscard h.1.1⟩
  completeSweepStep p h := ⟨poolPremises_keptByOperations.completeSweepStep p h.1, h.2.completeSweepStep⟩
  takeRelease p h :=
    ⟨poolPremises_keptByOperations.takeRelease p h.1,
      h.2.of_sameIntake p.takeRelease_touched p.claims_takeRelease (by simp)⟩
  expireHold p h :=
    ⟨poolPremises_keptByOperations.expireHold p h.1,
      h.2.of_sameIntake p.expireHold_touched p.claims_expireHold (by simp)⟩
  expireIntakeHold p h :=
    ⟨poolPremises_keptByOperations.expireIntakeHold p h.1,
      h.2.touched (Store.touched_of_eq (by simp)) fun held => held.expireIntakeHold⟩
  expireAwait p n h :=
    ⟨poolPremises_keptByOperations.expireAwait p n h.1,
      h.2.of_sameIntake (p.expireAwait_touched n) (p.claims_expireAwait n) (by simp)⟩
  expireAttention p h :=
    ⟨poolPremises_keptByOperations.expireAttention p h.1, h.2.of_sameTable (by simp) (by simp) (by simp)⟩
  endSlot p h := ⟨poolPremises_keptByOperations.endSlot p h.1, h.2.of_sameTable (by simp) (by simp) (by simp)⟩
  second p h :=
    ⟨poolPremises_keptByOperations.second p h.1,
      h.2.of_sameIntake (Store.touched_of_eq (by simp)) p.claims_second (by simp)⟩
  lockoutEnds p h := ⟨poolPremises_keptByOperations.lockoutEnds p h.1, h.2.of_sameTable (by simp) (by simp) (by simp)⟩
  completeWalk p h := ⟨poolPremises_keptByOperations.completeWalk p h.1, h.2.completeWalk h.1.2⟩
  mainGood p straps h := ⟨poolPremises_keptByOperations.mainGood p straps h.1, h.2.mainGood h.1.2 straps⟩
  mainFall p h := ⟨poolPremises_keptByOperations.mainFall p h.1, h.2.mainFall h.1.2⟩
  keepGood p h := ⟨poolPremises_keptByOperations.keepGood p h.1, h.2.of_sameTable (by simp) (by simp) (by simp)⟩
  keepLow p h := ⟨poolPremises_keptByOperations.keepLow p h.1, h.2.keepLow h.1.2⟩
  keepLost p h := ⟨poolPremises_keptByOperations.keepLost p h.1, h.2.keepLost h.1.2⟩
  assertReset p straps h := ⟨poolPremises_keptByOperations.assertReset p straps h.1, h.2.assertReset straps⟩

/-- Settles O59: a reclaim gives back what its entry held, a stage-entry takes a FREE entry without passes, a stage-pass
takes one record for the STAGED RESTORE entry, and every other operation leaves the free list and the pool. -/
theorem poolKept : Obligations.PoolKept := fun s t above rests honest stepped =>
  (poolSound_keptByOperations.step s t ⟨⟨above, rests⟩, honest⟩ stepped).2

end Sys2Proof.Machine
